-- ==== Sys2Proof/Word.lean ====
section
/-! DEFINITION. The byte of the link: what the manual treats as bits (12 R196). -/

namespace Sys2Proof

/-- One byte of a frame, a payload or a text field. -/
abbrev Byte := BitVec 8

/-- The characters of a serial number or a contract reference (00, Text). -/
abbrev Text := List Byte

end Sys2Proof
end

