-- ==== Sys2Proof/Names.lean ====
section
/-! DEFINITION. The fixed names of the manual (positions, quantities, kinds, states, reasons), each in the order that gives its code (12 R196). -/

namespace Sys2Proof

/-- The 16 positions, in position order (R1). -/
inductive Position
  | engine | starter | clutch | gearbox | transfer | propFront | propRear | diffFront | diffRear
  | hubLF | hubRF | hubLR | hubRR | pto | aux1 | aux2
deriving DecidableEq, Repr

/-- The ten component kinds (R2). -/
inductive Kind
  | engine | starter | clutch | gearbox | transfer | prop | diff | hub | pto | aux
deriving DecidableEq, Repr

/-- The twenty quantities, in quantity order (R3). -/
inductive Quantity
  | starts | uncrankedStarts | cranks | failedCranks | crankTenths | runSeconds | blindSeconds | loadSeconds
  | wearUnits | revolutions | towedRevolutions | towSeconds | overspeedEvents | overspeedSeconds | launches
  | slipUnits | shifts | gearSeconds | ptoEngagements | ptoSeconds
deriving DecidableEq, Repr

/-- The wear groups (R8, R86). -/
inductive WearGroup
  | engine | gearbox | driveline | hub
deriving DecidableEq, Repr

/-- The columns of the wear weight table (R86): the six load bins (R67), then TOW. -/
inductive WearColumn
  | stale | l0 | l1 | l2 | l3 | l4 | tow
deriving DecidableEq, Repr

/-- The channel functions (R21). -/
inductive ChannelFunction
  | engineSpeed | gearIn | gearOut | frontOut | wheelLF | wheelRF | wheelLR | wheelRR | ptoShaft | aux | unassigned
deriving DecidableEq, Repr

/-- Edge modes (R25). -/
inductive EdgeMode
  | rising | falling | both
deriving DecidableEq, Repr

/-- Time bases (R16). -/
inductive TimeBase
  | fine | coarse
deriving DecidableEq, Repr

/-- Channel states (R24). -/
inductive ChannelState
  | disabled | stopped | turning | noisy
deriving DecidableEq, Repr

/-- The five discrete lines (02, 2.8), in the order of SET_LINES (R39). -/
inductive LineId
  | key | crank | clutch | reverse | ptoOn
deriving DecidableEq, Repr

/-- Run states (R41). -/
inductive RunState
  | off | cranking | running | blind
deriving DecidableEq, Repr

/-- Gear directions (R55). -/
inductive Direction
  | forward | reverse
deriving DecidableEq, Repr

/-- Gear states (R58). -/
inductive GearState
  | idle | seeking | settling (entry : Nat) | engaged (entry : Nat)
deriving DecidableEq, Repr

/-- Clutch states (R62). -/
inductive ClutchState
  | released | engaged | launchPending
deriving DecidableEq, Repr

/-- PTO states (R68). -/
inductive PtoState
  | off | on | working
deriving DecidableEq, Repr

/-- Tow states (R69). -/
inductive TowState
  | notTowing | towSuspect | towing
deriving DecidableEq, Repr

/-- Power states (R168). -/
inductive PowerState
  | starting | active | draining | dormant | holdup
deriving DecidableEq, Repr

/-- Slot states (R99). -/
inductive SlotState
  | empty | fitted | damaged | stray
deriving DecidableEq, Repr

/-- Fitment actions (07). -/
inductive Action
  | remove | install | replace
deriving DecidableEq, Repr

/-- Parts of EXPORT_OUTGOING (R118). -/
inductive ExportPart
  | record | interim
deriving DecidableEq, Repr

/-- Period states (R131). -/
inductive PeriodState
  | opened | closed | damaged
deriving DecidableEq, Repr

/-- Period kinds (R131). -/
inductive PeriodKind
  | rental | idle
deriving DecidableEq, Repr

/-- Open reasons (R131). -/
inductive OpenReason
  | rentalStart | rentalEnd | continuation | recovery | cleared
deriving DecidableEq, Repr

/-- Close reasons (R131). -/
inductive CloseReason
  | rentalStart | request | fitment | recovery
deriving DecidableEq, Repr

/-- Recovery openings (R177). -/
inductive RecoveryOpening
  | absent | reset | new | reopen | cleared
deriving DecidableEq, Repr

/-- Notice kinds, in tie order (R190). -/
inductive NoticeKind
  | storeFault | startRecovery | clockUnset | sensorFault | lifeLimit | serviceDue | fitmentTimeout | bookNearFull
  | towStarted | failedStart | uncrankedStart | overspeed | loadStale | saturated
deriving DecidableEq, Repr

/-- Refusal reasons, in the order of their codes from 1 (R198). -/
inductive Reason
  | unknownKind | badLength | outOfRange | wrongState | starting | powerFail | channelActive | functionTaken | overlap
  | notInProfile | kindMismatch | fitmentOpen | noFitment | positionHeld | positionEmpty | positionOccupied
  | nothingStaged | notExported | noFreeSlot | slotEmpty | slotFitted | slotsOccupied | bookFull | contractMismatch
  | notFound
deriving DecidableEq, Repr

/-- Write Queue classes (R152). -/
inductive WriteClass
  | flush | commit | checkpoint | scrubRepair
deriving DecidableEq, Repr

/-- Result of a deferred record (R157). -/
inductive Result
  | ok | storeFault
deriving DecidableEq, Repr

/-- What reading one word of a store line gives (R150). -/
inductive WordRead
  | clean | corrected | uncorrectable
deriving DecidableEq, Repr

/-- The read outcomes of the 8 words of a line (R150). -/
abbrev Words := Vector WordRead 8

end Sys2Proof
end

