-- ==== Sys2Proof/Syntax.lean ====
section
/-! DEFINITION. The commands: one constructor per row of spec/opcode_table.json, and the operands they carry. -/

namespace Sys2Proof

/-- Whose contents a line holds after a write of it has ended or was cut short (R150, R154): those it held before, the
image written, or neither. -/
inductive Held
  | old | new | garbled
deriving DecidableEq, Repr

/-- What the store holds of a line when its write ends or is cut short: an outcome of the hardware, given by the sender
(log 7). -/
structure WriteEnd where
  held  : Held
  words : Words
deriving DecidableEq, Repr

/-- What decay has done by the time lines are read: for a line number, the outcomes its words now give (R150, 09.6);
given by the sender (log 7). -/
abbrev Decay := List (Nat × Words)

/-- The commands of the part: the rows of spec/opcode_table.json.
A request row carries the tag and the payload bytes of R197 (log 1). -/
inductive Instr
  | setChannel (tag : Byte) (payload : List Byte)
  | setLines (tag : Byte) (payload : List Byte)
  | setTime (tag : Byte) (payload : List Byte)
  | setEngineThresholds (tag : Byte) (payload : List Byte)
  | setGearTable (tag : Byte) (payload : List Byte)
  | setDriveline (tag : Byte) (payload : List Byte)
  | loadSample (tag : Byte) (payload : List Byte)
  | readLive (tag : Byte) (payload : List Byte)
  | setWearWeights (tag : Byte) (payload : List Byte)
  | readOrphans (tag : Byte) (payload : List Byte)
  | clearOrphans (tag : Byte) (payload : List Byte)
  | rearmService (tag : Byte) (payload : List Byte)
  | readSlot (tag : Byte) (payload : List Byte)
  | readPosition (tag : Byte) (payload : List Byte)
  | discardSlot (tag : Byte) (payload : List Byte)
  | beginFitment (tag : Byte) (payload : List Byte)
  | stageComponent (tag : Byte) (payload : List Byte)
  | exportOutgoing (tag : Byte) (payload : List Byte)
  | readFitment (tag : Byte) (payload : List Byte)
  | commitFitment (tag : Byte) (payload : List Byte)
  | abortFitment (tag : Byte) (payload : List Byte)
  | openRental (tag : Byte) (payload : List Byte)
  | closeRental (tag : Byte) (payload : List Byte)
  | listPeriods (tag : Byte) (payload : List Byte)
  | readPeriod (tag : Byte) (payload : List Byte)
  | releasePeriods (tag : Byte) (payload : List Byte)
  | setStoreTiming (tag : Byte) (payload : List Byte)
  | readStoreStatus (tag : Byte) (payload : List Byte)
  | setDormancy (tag : Byte) (payload : List Byte)
  | factoryClear (tag : Byte) (payload : List Byte)
  | identify (tag : Byte) (payload : List Byte)
  | readStatus (tag : Byte) (payload : List Byte)
  | takeNotice (tag : Byte) (payload : List Byte)
  | setNoticeLevels (tag : Byte) (payload : List Byte)
  /-- A request whose kind code is no request kind (R186). -/
  | unknownKind (kind tag : Byte) (payload : List Byte)
  /-- A whole frame received (R181, R185): its body (kind, tag, payload) and the two CRC bytes as one number. -/
  | frameArrival (body : List Byte) (crc : BitVec 16)
  | gapTimerExpiry
  /-- BREAK (R184); `sending` says whether the reply at the head of the reply queue is already being sent (log 7). -/
  | breakReceived (sending : Bool)
  | replySent
  /-- The supply comes up (R170): what a write in flight left, and the decay found. -/
  | powerUp (cut : WriteEnd) (decay : Decay)
  /-- RESET asserted (R171): what a write in flight left. -/
  | resetAsserted (cut : WriteEnd)
  /-- RESET released (R171): the decay that start-up finds. -/
  | resetReleased (decay : Decay)
  /-- Loss of supply (R170): what a write in flight left. -/
  | supplyLoss (cut : WriteEnd)
  | powerWarnAsserted
  | powerWarnCleared
  | wallClockTick
  /-- A transition of a pulse input (R25), rising or falling, `wait` FINE ticks after the command before it (log 2). -/
  | activeEdge (channel : Fin 10) (rising : Bool) (wait : Nat)
  | stallTimerExpiry (channel : Fin 10)
  /-- The input level of a discrete line becomes high or low (R37), `wait` FINE ticks after the command before it (log 2). -/
  | lineLevelChange (line : LineId) (high : Bool) (wait : Nat)
  | lineFilterExpiry (line : LineId)
  | runConfirmExpiry
  | stopConfirmExpiry
  | settleTimerExpiry
  | launchWindowExpiry
  | staleTimerExpiry
  | quietTimerExpiry
  | accrualTimerExpiry
  | fitmentDeadlineExpiry
  | checkpointTimerExpiry
  /-- Expiry of the scrub timer (R161): the decay found. -/
  | scrubTimerExpiry (decay : Decay)
  /-- The end of the write in flight (R154): what the read-back finds in the line. -/
  | writeComplete (found : WriteEnd)
  | dormancyTimerExpiry
  /-- One character on RXD (R182): its byte and whether its stop bit was high. -/
  | characterReceived (byte : Byte) (stop : Bool)
  | endOfStartUp
deriving DecidableEq, Repr

end Sys2Proof
end

