-- ==== Sys2Proof/Decode.lean ====
section
/-! DEFINITION. The reading of a command from the table's bits: spec/opcode_table.json gives no row any bits. -/

namespace Sys2Proof

/-- The command a word spells by the bits of spec/opcode_table.json: none, since no row of the table has bits. -/
def decodeTableWord (_nbits _w : Nat) : Option Instr := none

end Sys2Proof
end

