-- ==== Sys2Proof/Config.lean ====
section
/-! DEFINITION. What the part fixes (sizes, maxima, durations) and the free value the manual leaves open. -/

namespace Sys2Proof.Config

/-- FINE ticks (4 µs, R16) in one COARSE tick (256 µs, R16). -/
def coarse : Nat := 64
/-- FINE ticks in one millisecond. -/
def ms : Nat := 250
/-- FINE ticks in one tenth of a second. -/
def tenth : Nat := 25000
/-- FINE ticks in one second. -/
def second : Nat := 250000
/-- The stall window in ticks of the channel's base (R16, R33). -/
def stallTicks : Nat := 65535
/-- The maximum of a tally (R13): 48 bits. -/
def maxTally : Nat := 281474976710655
/-- The maximum of a period increment (R14), of the wall clock (R18), of a sequence number (R131) and of the attempt total (R50). -/
def max32 : Nat := 4294967295
/-- The maximum of the counts of 16 bits (R31, R69, R135, R155, R162, R183, R184, R188). -/
def max16 : Nat := 65535
/-- The maximum of the counts of 8 bits (R131, R190). -/
def max8 : Nat := 255
/-- The highest speed a channel reports, in tenths of rpm (R27). -/
def maxSpeed : Nat := 200000
/-- Store lines (R149). -/
def lineCount : Nat := 178
/-- Slots of the Component Table (R97). -/
def slotCount : Nat := 20
/-- Record places of the Period Book (R130). -/
def bookCapacity : Nat := 24
/-- Speed channels (R21). -/
def channelCount : Nat := 10
/-- Places of the intake queue (R185). -/
def intakePlaces : Nat := 6
/-- Places of the reply queue (R188). -/
def replyPlaces : Nat := 12
/-- Deferred-request records (R156). -/
def recordPlaces : Nat := 4
/-- Bytes a reply may carry after its tag (12). -/
def replyBody : Nat := 248
/-- The gap timer (R182), in ms. -/
def gapMs : Nat := 5
/-- Vendor code (R198). -/
def vendorCode : Nat := 0x0A42
/-- Part code (R198). -/
def partCode : Nat := 0x0010

/-- FREE VALUE (log 8): the speed number that READ_LIVE carries for a NOISY channel, marked invalid (R74, R199).
The argument is the counter `State.free`, which each use advances, so nothing is known of any two uses. -/
opaque noisySpeed : Nat → BitVec 32

end Sys2Proof.Config
end

