-- ==== Sys2Proof/Machine/Bytes.lean ====
section
/-! DEFINITION. Bytes of the link: little-endian fields and text (12 R196), the frame and its CRC (11 R181). -/

namespace Sys2Proof

/-- The n low bytes of v, least significant first (R196: u8, u16, u32, u48). -/
def leBytes : Nat → Nat → List Byte
  | 0, _ => []
  | n + 1, v => BitVec.ofNat 8 v :: leBytes n (v / 256)

/-- The number a little-endian byte list stands for (R196). -/
def leNat : List Byte → Nat
  | [] => 0
  | b :: bs => b.toNat + 256 * leNat bs

/-- The number in the `len` bytes of a payload from offset `off` on. -/
def field (bs : List Byte) (off len : Nat) : Nat := leNat ((bs.drop off).take len)

/-- The code of `none` (R196). -/
def noneCode : Nat := 0xFF

/-- A text field: a length byte and an area of `area` bytes filled with 0x00 after the characters (R196). -/
def textBytes (area : Nat) (t : Text) : List Byte :=
  leBytes 1 t.length ++ t.take area ++ List.replicate (area - t.length) 0

/-- A character a text field may hold (00, Text). -/
def printable (b : Byte) : Bool := decide (0x20 ≤ b.toNat ∧ b.toNat ≤ 0x7E)

/-- The text in the field at offset `off`, if its length is 1 to `area` and its characters are printable (R116, R136). -/
def textField (area : Nat) (bs : List Byte) (off : Nat) : Option Text :=
  let n := field bs off 1
  let t := (bs.drop (off + 1)).take n
  if 1 ≤ n ∧ n ≤ area ∧ t.length = n ∧ t.all printable then some t else none

/-- One bit of the CRC: shift left, and take the polynomial 0x1021 when the bit shifted out was 1 (R181). -/
def crcBit (c : BitVec 16) : BitVec 16 :=
  if c.msb then (c <<< 1) ^^^ 0x1021#16 else c <<< 1

/-- One byte of the CRC, most significant bit first (R181). -/
def crcByte (c : BitVec 16) (b : Byte) : BitVec 16 :=
  (List.range 8).foldl (fun c _ => crcBit c) (c ^^^ (b.setWidth 16 <<< 8))

/-- CRC-16 with initial value 0xFFFF and no final inversion (R181). -/
def crc16 (bs : List Byte) : BitVec 16 := bs.foldl crcByte 0xFFFF#16

/-- The CRC of a frame with this body: over the length byte and the body (R181). -/
def frameCrc (body : List Byte) : BitVec 16 := crc16 (BitVec.ofNat 8 body.length :: body)

/-- A whole frame: start byte, length, body, CRC low byte first (R181). -/
def frameBytes (body : List Byte) : List Byte :=
  0xC3 :: BitVec.ofNat 8 body.length :: (body ++ leBytes 2 (frameCrc body).toNat)

end Sys2Proof
end

