-- ==== Sys2Proof/Machine/Codes.lean ====
section
/-! DEFINITION. The codes of the fixed names: the index of a name in its list, counting from 0 (12 R196). -/

namespace Sys2Proof

/-- Position order (R1). -/
def Position.all : List Position :=
  [.engine, .starter, .clutch, .gearbox, .transfer, .propFront, .propRear, .diffFront, .diffRear,
   .hubLF, .hubRF, .hubLR, .hubRR, .pto, .aux1, .aux2]
/-- The index of a position in position order (R1). -/
def Position.index : Position → Fin 16
  | .engine => 0 | .starter => 1 | .clutch => 2 | .gearbox => 3 | .transfer => 4 | .propFront => 5 | .propRear => 6
  | .diffFront => 7 | .diffRear => 8 | .hubLF => 9 | .hubRF => 10 | .hubLR => 11 | .hubRR => 12 | .pto => 13
  | .aux1 => 14 | .aux2 => 15
def Position.code (p : Position) : Nat := p.index.val
def Position.ofCode (n : Nat) : Option Position := Position.all[n]?
/-- The position with an index. -/
def Position.at (i : Fin 16) : Position := Position.all[i.val]'(by simp [Position.all])

/-- Kind order (R2). -/
def Kind.all : List Kind := [.engine, .starter, .clutch, .gearbox, .transfer, .prop, .diff, .hub, .pto, .aux]
def Kind.code (k : Kind) : Nat := Kind.all.idxOf k
def Kind.ofCode (n : Nat) : Option Kind := Kind.all[n]?

/-- Quantity order (R3). -/
def Quantity.all : List Quantity :=
  [.starts, .uncrankedStarts, .cranks, .failedCranks, .crankTenths, .runSeconds, .blindSeconds, .loadSeconds,
   .wearUnits, .revolutions, .towedRevolutions, .towSeconds, .overspeedEvents, .overspeedSeconds, .launches,
   .slipUnits, .shifts, .gearSeconds, .ptoEngagements, .ptoSeconds]
def Quantity.code (q : Quantity) : Nat := Quantity.all.idxOf q
def Quantity.ofCode (n : Nat) : Option Quantity := Quantity.all[n]?

def ChannelFunction.all : List ChannelFunction :=
  [.engineSpeed, .gearIn, .gearOut, .frontOut, .wheelLF, .wheelRF, .wheelLR, .wheelRR, .ptoShaft, .aux, .unassigned]
def ChannelFunction.code (f : ChannelFunction) : Nat := ChannelFunction.all.idxOf f
def ChannelFunction.ofCode (n : Nat) : Option ChannelFunction := ChannelFunction.all[n]?

def EdgeMode.ofCode (n : Nat) : Option EdgeMode := [EdgeMode.rising, .falling, .both][n]?
def TimeBase.ofCode (n : Nat) : Option TimeBase := [TimeBase.fine, .coarse][n]?
/-- Polarity codes (R196): true stands for ACTIVE_HIGH. -/
def polarityOfCode (n : Nat) : Option Bool := [true, false][n]?
def Direction.ofCode (n : Nat) : Option Direction := [Direction.forward, .reverse][n]?
def Action.ofCode (n : Nat) : Option Action := [Action.remove, .install, .replace][n]?
def ExportPart.ofCode (n : Nat) : Option ExportPart := [ExportPart.record, .interim][n]?

def ChannelState.code : ChannelState → Nat
  | .disabled => 0 | .stopped => 1 | .turning => 2 | .noisy => 3
def RunState.code : RunState → Nat
  | .off => 0 | .cranking => 1 | .running => 2 | .blind => 3
def GearState.code : GearState → Nat
  | .idle => 0 | .seeking => 1 | .settling _ => 2 | .engaged _ => 3
def ClutchState.code : ClutchState → Nat
  | .released => 0 | .engaged => 1 | .launchPending => 2
def PtoState.code : PtoState → Nat
  | .off => 0 | .on => 1 | .working => 2
def TowState.code : TowState → Nat
  | .notTowing => 0 | .towSuspect => 1 | .towing => 2
def PowerState.code : PowerState → Nat
  | .starting => 0 | .active => 1 | .draining => 2 | .dormant => 3 | .holdup => 4
def SlotState.code : SlotState → Nat
  | .empty => 0 | .fitted => 1 | .damaged => 2 | .stray => 3
def Action.code : Action → Nat
  | .remove => 0 | .install => 1 | .replace => 2
def PeriodState.code : PeriodState → Nat
  | .opened => 0 | .closed => 1 | .damaged => 2
def PeriodKind.code : PeriodKind → Nat
  | .rental => 0 | .idle => 1
def OpenReason.code : OpenReason → Nat
  | .rentalStart => 0 | .rentalEnd => 1 | .continuation => 2 | .recovery => 3 | .cleared => 4
def CloseReason.code : CloseReason → Nat
  | .rentalStart => 0 | .request => 1 | .fitment => 2 | .recovery => 3
def RecoveryOpening.code : RecoveryOpening → Nat
  | .absent => 0 | .reset => 1 | .new => 2 | .reopen => 3 | .cleared => 4
def Result.code : Result → Nat
  | .ok => 0 | .storeFault => 1

/-- Tie order (R190). -/
def NoticeKind.all : List NoticeKind :=
  [.storeFault, .startRecovery, .clockUnset, .sensorFault, .lifeLimit, .serviceDue, .fitmentTimeout, .bookNearFull,
   .towStarted, .failedStart, .uncrankedStart, .overspeed, .loadStale, .saturated]
def NoticeKind.index : NoticeKind → Fin 14
  | .storeFault => 0 | .startRecovery => 1 | .clockUnset => 2 | .sensorFault => 3 | .lifeLimit => 4 | .serviceDue => 5
  | .fitmentTimeout => 6 | .bookNearFull => 7 | .towStarted => 8 | .failedStart => 9 | .uncrankedStart => 10
  | .overspeed => 11 | .loadStale => 12 | .saturated => 13

/-- Reason codes run from 1 (R198). -/
def Reason.code : Reason → Nat
  | .unknownKind => 1 | .badLength => 2 | .outOfRange => 3 | .wrongState => 4 | .starting => 5 | .powerFail => 6
  | .channelActive => 7 | .functionTaken => 8 | .overlap => 9 | .notInProfile => 10 | .kindMismatch => 11
  | .fitmentOpen => 12 | .noFitment => 13 | .positionHeld => 14 | .positionEmpty => 15 | .positionOccupied => 16
  | .nothingStaged => 17 | .notExported => 18 | .noFreeSlot => 19 | .slotEmpty => 20 | .slotFitted => 21
  | .slotsOccupied => 22 | .bookFull => 23 | .contractMismatch => 24 | .notFound => 25

/-- The lines in the order of SET_LINES (R39). -/
def LineId.index : LineId → Fin 5
  | .key => 0 | .crank => 1 | .clutch => 2 | .reverse => 3 | .ptoOn => 4
def LineId.all : List LineId := [.key, .crank, .clutch, .reverse, .ptoOn]

/-- Classes from highest, 0, to lowest, 3 (R152). -/
def WriteClass.rank : WriteClass → Nat
  | .flush => 0 | .commit => 1 | .checkpoint => 2 | .scrubRepair => 3

end Sys2Proof
end

