-- ==== Sys2Proof/Machine/State.lean ====
section
/-! DEFINITION. The state of the recorder as plain data, one structure per block (00), the outcomes' reasons, and the state at reset. -/

namespace Sys2Proof.Machine

/-- A timer of the Time Base Unit (R17): the instant at which it expires, in FINE ticks, or not running. -/
abbrev Timer := Option Nat

/-! ## Speed Channel Array, Input Lines, Run Detector, Driveline Observer -/

/-- The settings of a channel (R21). -/
structure ChannelConfig where
  function  : ChannelFunction
  teeth     : Nat
  edgeMode  : EdgeMode
  timeBase  : TimeBase
  minPeriod : Nat
  overspeed : Nat
  enabled   : Bool
deriving DecidableEq, Repr

/-- The defaults of R21. -/
def ChannelConfig.default : ChannelConfig :=
  { function := .unassigned, teeth := 1, edgeMode := .rising, timeBase := .fine, minPeriod := 1, overspeed := 0, enabled := false }

/-- A speed channel (R21 to R35). `speed` is in tenths of rpm, absent while it is invalid (R31). `capture` is the instant of
the last active edge while the capture runs; the stall timer runs with it (R25, R33). -/
structure Channel where
  cfg     : ChannelConfig
  state   : ChannelState
  speed   : Option Nat
  capture : Option Nat
  short   : Nat
  good    : Nat
  tooth   : Nat
  noise   : Nat
  episode : Bool
deriving DecidableEq, Repr

/-- A channel with the given settings as start-up leaves it before its state is set (R24). -/
def Channel.rest (cfg : ChannelConfig) : Channel :=
  { cfg := cfg, state := .disabled, speed := some 0, capture := none, short := 0, good := 0, tooth := 0, noise := 0, episode := false }

/-- Filter time in ms and polarity of a line (R37). -/
structure LineSetting where
  filter     : Nat
  activeHigh : Bool
deriving DecidableEq, Repr

/-- The default of R39. -/
def LineSetting.default : LineSetting := { filter := 20, activeHigh := true }

/-- A discrete line (R37): the level of its input, its filtered state (true: ACTIVE), its settings and its filter timer. -/
structure InputLine where
  level    : Bool
  filtered : Bool
  setting  : LineSetting
  timer    : Timer
deriving DecidableEq, Repr

/-- Run threshold and stop threshold in rpm, confirm time in ms (R42). -/
structure EngineSettings where
  runThreshold  : Nat
  stopThreshold : Nat
  confirm       : Nat
deriving DecidableEq, Repr

/-- The defaults of R42. -/
def EngineSettings.default : EngineSettings := { runThreshold := 400, stopThreshold := 250, confirm := 1000 }

/-- The Run Detector (R41): run state, confirm timers, crank measurement (its start instant), attempt total, settings. -/
structure RunDetector where
  state     : RunState
  runTimer  : Timer
  stopTimer : Timer
  measure   : Option Nat
  attempt   : Nat
  settings  : EngineSettings
deriving DecidableEq, Repr

/-- One entry of the Gear Table (R55): ratio in thousandths, tolerance in ‰, direction. -/
structure GearEntry where
  ratio     : Nat
  tolerance : Nat
  direction : Direction
deriving DecidableEq, Repr

/-- The Gear Table with its settle time in ms (R55). -/
structure GearTable where
  settle  : Nat
  entries : List GearEntry
deriving DecidableEq, Repr

/-- The table of a fresh part (R55). -/
def GearTable.default : GearTable := { settle := 300, entries := [] }

/-- The seven driveline settings (R73). -/
structure DrivelineSettings where
  launchThreshold : Nat
  launchWindow    : Nat
  slipTolerance   : Nat
  staleTime       : Nat
  defaultLoad     : Nat
  towThreshold    : Nat
  quietTime       : Nat
deriving DecidableEq, Repr

/-- The defaults of R73. -/
def DrivelineSettings.default : DrivelineSettings :=
  { launchThreshold := 20, launchWindow := 3, slipTolerance := 50, staleTime := 2000, defaultLoad := 50, towThreshold := 20, quietTime := 10 }

/-- The Driveline Observer (04). The six tow counts stand in the order GEAR_OUT, FRONT_OUT, WHEEL_LF, WHEEL_RF, WHEEL_LR,
WHEEL_RR (R69). -/
structure Driveline where
  table       : GearTable
  gear        : GearState
  lastGear    : Option Nat
  settleTimer : Timer
  clutch      : ClutchState
  launchTimer : Timer
  fresh       : Bool
  load        : Option Nat
  staleTimer  : Timer
  pto         : PtoState
  tow         : TowState
  towCounts   : Vector Nat 6
  quietTimer  : Timer
  settings    : DrivelineSettings
deriving DecidableEq, Repr

/-! ## Holders, slots, fitment -/

/-- A scalar tally of a holder or slot (R9): its value, absent where a damaged line lost it (R102), and its saturated mark. -/
structure Scalar where
  quantity  : Quantity
  value     : Option Nat
  saturated : Bool
deriving DecidableEq, Repr

/-- A histogram tally (R3, R4): one value per entry, and its one saturated mark. -/
structure Hist where
  quantity  : Quantity
  values    : List (Option Nat)
  saturated : Bool
deriving DecidableEq, Repr

/-- The tallies of a holder, in quantity order within each list: the scalar line's and the histogram line's (R98). -/
structure Tally where
  scalars : List Scalar
  hists   : List Hist
deriving DecidableEq, Repr

/-- No tallies: those of an EMPTY slot (R97). -/
def Tally.empty : Tally := { scalars := [], hists := [] }

/-- A service threshold (R91). -/
structure Service where
  quantity : Option Quantity
  due      : Nat
  armed    : Bool
deriving DecidableEq, Repr

/-- A life limit and the OVER_LIFE flag (R93). -/
structure Life where
  quantity : Quantity
  limit    : Nat
  overLife : Bool
deriving DecidableEq, Repr

/-- The fields a slot's identity line keeps (R97, R98); service threshold, life limit and OVER_LIFE are present together. -/
structure SlotIdent where
  state        : SlotState
  kind         : Option Kind
  serial       : Option Text
  position     : Option Position
  lastPosition : Option Position
  fittedAt     : Option Nat
  carried      : Option Bool
  limits       : Option (Service × Life)
deriving DecidableEq, Repr

/-- The identity of a slot that holds its state and nothing else (R97, R102). -/
def SlotIdent.bare (st : SlotState) : SlotIdent :=
  { state := st, kind := none, serial := none, position := none, lastPosition := none, fittedAt := none, carried := none, limits := none }

/-- A slot of the Component Table (R97). -/
structure Slot where
  ident : SlotIdent
  tally : Tally
deriving DecidableEq, Repr

/-- An EMPTY slot. -/
def Slot.empty : Slot := { ident := .bare .empty, tally := .empty }

/-- One carried-in entry of a staged record (R116). -/
structure Carried where
  quantity : Quantity
  index    : Nat
  value    : Nat
deriving DecidableEq, Repr

/-- The staged incoming record (R111, R117). -/
structure Staged where
  kind            : Kind
  serial          : Text
  carried         : List Carried
  serviceQuantity : Option Quantity
  due             : Nat
  lifeQuantity    : Quantity
  limit           : Nat
deriving DecidableEq, Repr

/-- The Fitment Context (R111). `outgoing` holds the outgoing slot's number and the frozen image of its record. -/
structure Context where
  action   : Action
  position : Position
  outgoing : Option (Fin 20 × Slot)
  interim  : Tally
  exported : Bool
  staged   : Option Staged
  timeout  : Nat
  deadline : Nat
deriving DecidableEq, Repr

/-- The Component Table and the Position Map (R97, R101). -/
structure ComponentTable where
  slots : Vector Slot 20
  map   : Vector (Option (Fin 20)) 16
deriving DecidableEq, Repr

/-- What the Tally Engine keeps beside the slots and the interim accumulator (R77): orphan tallies in position order, the
28 wear weights group by group (R86), the accrual timer (R81). -/
structure TallyEngine where
  orphans : Vector Tally 16
  weights : Vector Nat 28
  accrual : Timer
deriving DecidableEq, Repr

/-! ## Period Book -/

/-- One pair of an increment list entry (R132). -/
structure Pair where
  quantity  : Quantity
  amount    : Nat
  saturated : Bool
deriving DecidableEq, Repr

/-- One entry of an increment list (R132). -/
structure Entry where
  position : Position
  pairs    : List Pair
deriving DecidableEq, Repr

/-- An increment line of a record place (R130, R175): the sequence number it carries, absent while blank, and its entries. -/
structure IncrementLine where
  seq     : Option Nat
  entries : List Entry
deriving DecidableEq, Repr

/-- A blank increment line (R172, R175). -/
def IncrementLine.blank : IncrementLine := { seq := none, entries := [] }

/-- The header fields that are present or absent together (R131, R199 presence bit 0), with the contract reference. -/
structure PeriodInfo where
  kind       : PeriodKind
  contract   : Option Text
  segment    : Nat
  openReason : OpenReason
  restarts   : Nat
  unwarned   : Nat
  tows       : Nat
deriving DecidableEq, Repr

/-- The header of a period record: every field of R131 except the increment list (R130). -/
structure Header where
  seq         : Nat
  state       : PeriodState
  info        : Option PeriodInfo
  closeReason : Option CloseReason
  openedAt    : Option Nat
  closedAt    : Option Nat
  incomplete  : Bool
deriving DecidableEq, Repr

/-- A record place (R130): its header, absent while the place is free, and its three increment lines. -/
structure Place where
  header : Option Header
  lines  : Vector IncrementLine 3
deriving DecidableEq, Repr

/-- A free place with blank increment lines. -/
def Place.free : Place := { header := none, lines := Vector.replicate 3 .blank }

/-- The Period Book (R130): its 24 places and its bounds. The record with sequence number q is in place q mod 24. -/
structure Book where
  places : Vector Place 24
  oldest : Nat
  newest : Nat
deriving DecidableEq, Repr

/-! ## Nonvolatile store and Store Controller -/

/-- Checkpoint interval and scrub step in seconds (R160). -/
structure StoreTiming where
  interval : Nat
  step     : Nat
deriving DecidableEq, Repr

/-- The defaults of R160. -/
def StoreTiming.default : StoreTiming := { interval := 60, step := 10 }

/-- Notice levels in tie order and the attention threshold (R193). -/
structure NoticeSettings where
  levels    : Vector Nat 14
  attention : Nat
deriving DecidableEq, Repr

/-- The defaults of R193. -/
def NoticeSettings.default : NoticeSettings := { levels := Vector.replicate 14 4, attention := 1 }

/-- The default wear weights (R86). -/
def defaultWeights : Vector Nat 28 :=
  #v[100, 50, 80, 100, 150, 250, 200, 100, 50, 80, 100, 150, 250, 200,
     100, 50, 80, 100, 150, 250, 200, 100, 50, 80, 100, 150, 250, 200]

/-- What line 3 keeps (R149). -/
structure SettingsLine where
  lines     : Vector LineSetting 5
  engine    : EngineSettings
  driveline : DrivelineSettings
  timing    : StoreTiming
  delay     : Nat
deriving DecidableEq, Repr

/-- What line 5 keeps (R149): the map as stored numbers, the clean-shutdown mark, the bounds if any. -/
structure MapLine where
  entries : List (Option Nat)
  mark    : Bool
  bounds  : Option (Nat × Nat)
deriving DecidableEq, Repr

/-- The contents of a store line (R149). The byte layout is internal to the part, so contents are the fields they hold
(log 21): `blank` is a line as manufactured (R172) and also an EMPTY identity, an empty tally line, a free header and a blank
increment line; `invalid` is any contents that no layout of the line's owner reads. -/
inductive LineImage
  | blank
  | invalid
  | identity (bytes : List Byte)
  | channels (settings : Vector ChannelConfig 10)
  | gears (table : GearTable)
  | settings (line : SettingsLine)
  | weights (table : Vector Nat 28) (notices : NoticeSettings)
  | map (line : MapLine)
  | slotIdent (ident : SlotIdent)
  | scalars (items : List Scalar)
  | hists (items : List Hist)
  | orphan (tally : Tally)
  | header (h : Header)
  | increments (line : IncrementLine)
deriving DecidableEq, Repr

/-- A line as the store holds it: contents and the read outcome of each word (R150). -/
structure StoredLine where
  image : LineImage
  words : Words
deriving DecidableEq, Repr

/-- Words that all read clean. -/
def cleanWords : Words := Vector.replicate 8 .clean

/-- The identity bytes of line 0 (R194, R198): vendor code, part code, revision, part serial number (log 5). -/
def factoryIdentity : List Byte :=
  [0x42, 0x0A, 0x10, 0x00, 0, 0, 0, 0, 0, 0, 0, 0, 0]

/-- Line n as manufactured (R172): line 0 the identity, every other line blank. -/
def factoryLine (n : Nat) : StoredLine :=
  { image := if n = 0 then .identity factoryIdentity else .blank, words := cleanWords }

/-- The nonvolatile store: the lines that differ from the line as manufactured, line numbers strictly rising. -/
abbrev Store := List (Nat × StoredLine)

/-- The Write Queue (R152): per class the queued lines, oldest first. -/
structure WriteQueue where
  flush      : List Nat
  commit     : List Nat
  checkpoint : List Nat
  repair     : List Nat
deriving DecidableEq, Repr

/-- The write in flight (R153, R154): its line, the image it carries, whether it is the retry, the pending class, and the
deferred records that existed at its start (R157). -/
structure Flight where
  line    : Nat
  image   : LineImage
  retry   : Bool
  pending : Option WriteClass
  records : List Nat
deriving DecidableEq, Repr

/-- A deferred-request record (R156) with the Link Port's entry for it (R187); `id` tells records apart (log 20). -/
structure DeferredRecord where
  id     : Nat
  tag    : Byte
  kind   : Byte
  awaits : List Nat
  silent : Bool
deriving DecidableEq, Repr

/-- The phase of the holdup flush (R163 to R165): none; writing the queue; writing the clean-shutdown mark; complete; or
the write of the mark ended in final failure, so the flush does not complete (R164). -/
inductive FlushPhase
  | absent | running | marking | complete | failed
deriving DecidableEq, Repr

/-- The Store Controller (09). `dirty` and `failed` are line numbers in rising order. `identity` is line 0's live image, and
`identityLost` says that start-up formed it from an uncorrectable read (R162, R172). -/
structure StoreController where
  dirty           : List Nat
  queue           : WriteQueue
  flight          : Option Flight
  records         : List DeferredRecord
  failed          : List Nat
  failures        : Nat
  correctedCount  : Nat
  repairedCount   : Nat
  checkpointTimer : Timer
  scrubTimer      : Timer
  scrubPointer    : Nat
  timing          : StoreTiming
  flush           : FlushPhase
  identity        : List Byte
  identityLost    : Bool
deriving DecidableEq, Repr

/-! ## Supervisor, Link Port -/

/-- The start-up report (R177). -/
structure StartReport where
  corrected        : Nat
  uncorrectable    : Nat
  configDefaulted  : Nat
  slotsDamaged     : Nat
  slotsStray       : Nat
  mapCleared       : Nat
  orphansRestarted : Nat
  recordsDamaged   : Nat
  recoveryCloses   : Nat
  opening          : RecoveryOpening
  markFound        : Bool
deriving DecidableEq, Repr

/-- A report with nothing found. -/
def StartReport.none : StartReport :=
  { corrected := 0, uncorrectable := 0, configDefaulted := 0, slotsDamaged := 0, slotsStray := 0, mapCleared := 0,
    orphansRestarted := 0, recordsDamaged := 0, recoveryCloses := 0, opening := .absent, markFound := false }

/-- The Supervisor (10): power state, dormancy timer and delay in seconds, the clean-shutdown mark's live value, the
start-up report; `unread` says that start-up stands before step 1 (R170, R194). -/
structure Supervisor where
  power    : PowerState
  dormancy : Timer
  delay    : Nat
  mark     : Bool
  report   : StartReport
  unread   : Bool
deriving DecidableEq, Repr

/-- The wall clock (R18): value in seconds, SET or UNSET, and when the next second falls. -/
structure WallClock where
  value : Nat
  isSet : Bool
  tick  : Timer
deriving DecidableEq, Repr

/-- A holder as a notice names it (R13, R14, R198): a slot, the interim accumulator, an orphan tally, a period record. -/
inductive SaturatedIn
  | slot (slot : Fin 20)
  | interim
  | orphan
  | period (seq : Nat)
deriving DecidableEq, Repr

/-- The detail of a notice (R190, R198). -/
inductive Detail
  | empty
  | line (n : Nat)
  | report (r : StartReport)
  | channel (n : Option (Fin 10))
  | slot (n : Fin 20)
  | position (p : Position)
  | count (n : Nat)
  | tenths (n : Nat)
  | keyCrank (key crank : Bool)
  | load (n : Nat)
  | saturated (holder : SaturatedIn) (p : Position) (q : Quantity) (entry : Option Nat)
deriving DecidableEq, Repr

/-- A pending notice (R190): detail and repeat count. -/
structure Notice where
  detail  : Detail
  repeats : Nat
deriving DecidableEq, Repr

/-- A request as the intake queue keeps it (R181, R185). -/
structure Request where
  kind    : Byte
  tag     : Byte
  payload : List Byte
deriving DecidableEq, Repr

/-- A reply (R198): REFUSED, RETRY and FINISHED carry the request's kind code, DONE and DEFERRED the body of their request. -/
inductive Reply
  | done (tag : Byte) (body : List Byte)
  | refused (tag kind : Byte) (reason : Reason)
  | retry (tag kind : Byte)
  | deferred (tag : Byte) (body : List Byte)
  | finished (tag kind : Byte) (result : Result)
deriving DecidableEq, Repr

/-- The receive framer (R182) with the partial frame: in BODY the length L and the bytes so far, in CHECK also the first CRC
byte once it is there. -/
inductive Framer
  | hunt
  | length
  | body (len : Nat) (got : List Byte)
  | check (body : List Byte) (first : Option Byte)
deriving DecidableEq, Repr

/-- The Link Port (11). `notices` holds the Notice Set in tie order. -/
structure LinkPort where
  framer      : Framer
  gapTimer    : Timer
  intake      : List Request
  replies     : List Reply
  notices     : Vector (Option Notice) 14
  settings    : NoticeSettings
  frameErrors : Nat
  breaks      : Nat
  dropped     : Nat
deriving DecidableEq, Repr

/-! ## The whole state -/

/-- The pins that hold a level beside the discrete lines (00): supply up, RESET held, POWER_WARN asserted. -/
structure Pins where
  supply    : Bool
  reset     : Bool
  powerWarn : Bool
deriving DecidableEq, Repr

/-- The recorder. `now` is elapsed time in FINE ticks (log 2), `free` counts the free values used (log 8), `nextId` names the
next deferred record (log 20), and `pending` is the queue of commands: these four are the model's own. -/
structure State where
  pending   : List Instr
  now       : Nat
  free      : Nat
  nextId    : Nat
  pins      : Pins
  clock     : WallClock
  channels  : Vector Channel 10
  lines     : Vector InputLine 5
  run       : RunDetector
  driveline : Driveline
  tally     : TallyEngine
  table     : ComponentTable
  fitment   : Option Context
  book      : Book
  store     : Store
  ctl       : StoreController
  sup       : Supervisor
  link      : LinkPort
deriving DecidableEq, Repr

/-- The recorder has no fault: what goes wrong is a reply, a count or a notice (R155, R183, R186). No command raises one. -/
inductive Fault
deriving DecidableEq, Repr

/-- Why the model may have no meaning for a command. -/
inductive Refusal
  /-- Raised by `exec` for a command without a meaning yet; safe. No command of the table is so now. -/
  | notModelled (mnemonic : String)
deriving DecidableEq, Repr

/-! ## Reset -/

/-- The orphan tally of a position with every value 0 and every mark clear, GEAR_SECONDS with no entries (R4, R5, R88). -/
def freshOrphans : Vector Tally 16 :=
  let sc (qs : List Quantity) : List Scalar := qs.map fun q => { quantity := q, value := some 0, saturated := false }
  let load : Hist := { quantity := .loadSeconds, values := List.replicate 6 (some 0), saturated := false }
  let gear : Hist := { quantity := .gearSeconds, values := [], saturated := false }
  let shaft : Tally := { scalars := sc [.wearUnits, .revolutions, .towedRevolutions, .towSeconds], hists := [] }
  #v[{ scalars := sc [.starts, .uncrankedStarts, .runSeconds, .blindSeconds, .wearUnits, .revolutions, .overspeedEvents, .overspeedSeconds],
       hists := [load] },
     { scalars := sc [.starts, .cranks, .failedCranks, .crankTenths], hists := [] },
     { scalars := sc [.launches, .slipUnits], hists := [] },
     { scalars := sc [.runSeconds, .wearUnits, .revolutions, .towedRevolutions, .towSeconds, .overspeedEvents, .overspeedSeconds, .shifts],
       hists := [load, gear] },
     shaft, shaft, shaft, shaft, shaft, shaft, shaft, shaft, shaft,
     { scalars := sc [.wearUnits, .revolutions, .ptoEngagements, .ptoSeconds], hists := [] },
     { scalars := sc [.runSeconds, .revolutions], hists := [] },
     { scalars := sc [.runSeconds], hists := [] }]

/-- The first record of a fresh part after its first start-up (R148, R176): place 1, OPEN IDLE, CLEARED, one restart, counted
as unwarned because the blank line 5 holds the mark clear. -/
def freshPlace : Place :=
  { header := some { seq := 1, state := .opened,
                     info := some { kind := .idle, contract := none, segment := 0, openReason := .cleared,
                                    restarts := 1, unwarned := 1, tows := 0 },
                     closeReason := none, openedAt := none, closedAt := none, incomplete := false },
    lines := Vector.replicate 3 { seq := some 1, entries := [] } }

/-- The recorder right after reset: the end of the first start-up of a part fresh from manufacture, with RESET released,
POWER_WARN clear and the discrete lines low (log 4). Line 5 is being written, lines 86 to 89 wait (R177). -/
def State.reset : State :=
  { pending := []
    now := 0
    free := 0
    nextId := 0
    pins := { supply := true, reset := false, powerWarn := false }
    clock := { value := 0, isSet := false, tick := some Config.second }
    channels := Vector.replicate 10 (.rest .default)
    lines := Vector.replicate 5 { level := false, filtered := false, setting := .default, timer := none }
    run := { state := .blind, runTimer := none, stopTimer := none, measure := none, attempt := 0, settings := .default }
    driveline :=
      { table := .default, gear := .idle, lastGear := none, settleTimer := none, clutch := .released, launchTimer := none,
        fresh := false, load := none, staleTimer := none, pto := .off, tow := .notTowing,
        towCounts := Vector.replicate 6 0, quietTimer := none, settings := .default }
    tally := { orphans := freshOrphans, weights := defaultWeights, accrual := some Config.second }
    table := { slots := Vector.replicate 20 .empty, map := Vector.replicate 16 none }
    fitment := none
    book := { places := (Vector.replicate 24 .free).set 1 freshPlace, oldest := 1, newest := 1 }
    store := []
    ctl :=
      { dirty := [86, 87, 88, 89]
        queue := { flush := [], commit := [86, 87, 88, 89], checkpoint := [], repair := [] }
        flight := some { line := 5, image := .map { entries := List.replicate 16 none, mark := false, bounds := some (1, 1) },
                         retry := false, pending := none, records := [] }
        records := [], failed := [], failures := 0, correctedCount := 0, repairedCount := 0
        checkpointTimer := none, scrubTimer := some (10 * Config.second), scrubPointer := 0
        timing := .default, flush := .absent, identity := factoryIdentity, identityLost := false }
    sup :=
      { power := .active, dormancy := some (300 * Config.second), delay := 300, mark := false
        report := { StartReport.none with opening := .cleared }
        unread := false }
    link :=
      { framer := .hunt, gapTimer := none, intake := [], replies := []
        notices := (Vector.replicate 14 none).set 2 (some { detail := .empty, repeats := 0 })
        settings := .default, frameErrors := 0, breaks := 0, dropped := 0 } }

end Sys2Proof.Machine
end

