-- ==== Sys2Proof/Machine/Profile.lean ====
section
/-! DEFINITION. Profiles and sources of the positions (01 R2, R4 to R8), the increment line that keeps a position, and
small facts of the fixed names. -/

namespace Sys2Proof

/-- The positions a kind fits (R2). -/
def Kind.fits : Kind → List Position
  | .engine => [.engine]
  | .starter => [.starter]
  | .clutch => [.clutch]
  | .gearbox => [.gearbox]
  | .transfer => [.transfer]
  | .prop => [.propFront, .propRear]
  | .diff => [.diffFront, .diffRear]
  | .hub => [.hubLF, .hubRF, .hubLR, .hubRR]
  | .pto => [.pto]
  | .aux => [.aux1, .aux2]

/-- Histogram quantities (R3). -/
def Quantity.isHist : Quantity → Bool
  | .loadSeconds => true
  | .gearSeconds => true
  | _ => false

/-- The profile of a position, in quantity order (R5). -/
def Position.profile : Position → List Quantity
  | .engine => [.starts, .uncrankedStarts, .runSeconds, .blindSeconds, .loadSeconds, .wearUnits, .revolutions,
                .overspeedEvents, .overspeedSeconds]
  | .starter => [.starts, .cranks, .failedCranks, .crankTenths]
  | .clutch => [.launches, .slipUnits]
  | .gearbox => [.runSeconds, .loadSeconds, .wearUnits, .revolutions, .towedRevolutions, .towSeconds,
                 .overspeedEvents, .overspeedSeconds, .shifts, .gearSeconds]
  | .transfer | .propFront | .propRear | .diffFront | .diffRear =>
      [.wearUnits, .revolutions, .towedRevolutions, .towSeconds]
  | .hubLF | .hubRF | .hubLR | .hubRR => [.wearUnits, .revolutions, .towedRevolutions, .towSeconds]
  | .pto => [.wearUnits, .revolutions, .ptoEngagements, .ptoSeconds]
  | .aux1 => [.runSeconds, .revolutions]
  | .aux2 => [.runSeconds]

/-- The scalar quantities of a profile. -/
def Position.scalarProfile (p : Position) : List Quantity := p.profile.filter fun q => !q.isHist

/-- The histogram quantities of a profile. -/
def Position.histProfile (p : Position) : List Quantity := p.profile.filter fun q => q.isHist

/-- The driven source of a position (R7). -/
def Position.drivenSource : Position → Option ChannelFunction
  | .engine => some .engineSpeed
  | .gearbox => some .gearIn
  | .transfer | .propRear | .diffRear => some .gearOut
  | .propFront | .diffFront => some .frontOut
  | .hubLF => some .wheelLF
  | .hubRF => some .wheelRF
  | .hubLR => some .wheelLR
  | .hubRR => some .wheelRR
  | .pto => some .ptoShaft
  | .aux1 => some .aux
  | .starter | .clutch | .aux2 => none

/-- The towed source of a position (R7). -/
def Position.towedSource : Position → Option ChannelFunction
  | .gearbox | .transfer | .propRear | .diffRear => some .gearOut
  | .propFront | .diffFront => some .frontOut
  | .hubLF => some .wheelLF
  | .hubRF => some .wheelRF
  | .hubLR => some .wheelLR
  | .hubRR => some .wheelRR
  | .engine | .pto | .aux1 | .starter | .clutch | .aux2 => none

/-- The wear group of a position (R8). -/
def Position.wearGroup : Position → Option WearGroup
  | .engine => some .engine
  | .gearbox => some .gearbox
  | .transfer | .propFront | .propRear | .diffFront | .diffRear => some .driveline
  | .hubLF | .hubRF | .hubLR | .hubRR => some .hub
  | .pto => some .engine
  | .starter | .clutch | .aux1 | .aux2 => none

/-- The place of an output-side function among the six tow counts (R69); none for the other functions. -/
def ChannelFunction.towIndex : ChannelFunction → Option (Fin 6)
  | .gearOut => some 0
  | .frontOut => some 1
  | .wheelLF => some 2
  | .wheelRF => some 3
  | .wheelLR => some 4
  | .wheelRR => some 5
  | .engineSpeed | .gearIn | .ptoShaft | .aux | .unassigned => none

/-- The six output-side functions (R69). -/
def outputSide : List ChannelFunction := [.gearOut, .frontOut, .wheelLF, .wheelRF, .wheelLR, .wheelRR]

/-- DESIGN CHOICE (log 6): which of the three increment lines of a place keeps a position's entry. -/
def Position.incrementLine : Position → Fin 3
  | .engine | .starter | .clutch => 0
  | .gearbox | .transfer | .propFront | .propRear | .diffFront | .diffRear => 1
  | .hubLF | .hubRF | .hubLR | .hubRR | .pto | .aux1 | .aux2 => 2

/-- The entry count of a histogram when the Gear Table has n entries (R4). -/
def histEntries (n : Nat) (q : Quantity) : Nat := if q = .loadSeconds then 6 else n

/-- The length of a tick of a base, in FINE ticks (R16). -/
def TimeBase.ticks : TimeBase → Nat
  | .fine => 1
  | .coarse => Config.coarse

/-- The transitions that are active edges (R25). -/
def EdgeMode.isActive (m : EdgeMode) (rising : Bool) : Bool :=
  match m with
  | .rising => rising
  | .falling => !rising
  | .both => true

/-- The filtered transitions that are wake conditions (R40, R179). -/
def LineId.wakes : LineId → Bool
  | .key => true
  | .crank => true
  | .clutch => false
  | .reverse => false
  | .ptoOn => true

/-- The row of a wear group in the wear weight table (R86). -/
def WearGroup.row : WearGroup → Fin 4
  | .engine => 0 | .gearbox => 1 | .driveline => 2 | .hub => 3

/-- The entry of a gear state. -/
def GearState.entry : GearState → Option Nat
  | .idle => none
  | .seeking => none
  | .settling g => some g
  | .engaged g => some g

namespace Machine

/-- The tallies of a profile with every value 0 and every mark clear, the Gear Table having n entries (R4, R9, R112). -/
def Tally.zero (p : Position) (n : Nat) : Tally :=
  { scalars := p.scalarProfile.map fun q => { quantity := q, value := some 0, saturated := false }
    hists := p.histProfile.map fun q => { quantity := q, values := List.replicate (histEntries n q) (some 0), saturated := false } }

/-- The scalar items of a damaged scalar line: every quantity of the profile, absent (R102). -/
def absentScalars (p : Position) : List Scalar :=
  p.scalarProfile.map fun q => { quantity := q, value := none, saturated := false }

/-- The items of a damaged histogram line: LOAD_SECONDS with 6 absent entries, GEAR_SECONDS with none (R102, R104). -/
def absentHists (p : Position) : List Hist :=
  p.histProfile.map fun q => { quantity := q, values := List.replicate (histEntries 0 q) none, saturated := false }

end Machine

end Sys2Proof
end

