-- ==== Sys2Proof/Machine/Ops.lean ====
section
/-! DEFINITION. Named operations every block uses: time and timers, tables, the readings of channels, lines and places. -/

namespace Sys2Proof.Machine

/-- A vector given entry by entry. -/
def tabulate {α : Type} (n : Nat) (f : Fin n → α) : Vector α n :=
  ⟨((List.finRange n).map f).toArray, by simp⟩

/-- A count that stays at its maximum once it reaches it (R31, R69, R155, R183, R190). -/
def bump (max n : Nat) : Nat := min max (n + 1)

/-- A line number put into a rising list of line numbers, once. -/
def insertLine (n : Nat) : List Nat → List Nat
  | [] => [n]
  | m :: ms => if n < m then n :: m :: ms else if n = m then m :: ms else m :: insertLine n ms

/-! ## Time (R16, R17) -/

/-- A timer started now with a duration in FINE ticks (R17). -/
def State.startIn (s : State) (ticks : Nat) : Timer := some (s.now + ticks)

/-- The instant of an expiry: time has reached it when the expiry is taken (log 2). -/
def State.reach (s : State) (due : Nat) : State := { s with now := max s.now due }

/-- Time passes before an outside event (log 2). -/
def State.pass (s : State) (ticks : Nat) : State := { s with now := s.now + ticks }

/-- The recorder has its supply and is not held by RESET (R170, R171). -/
def State.live (s : State) : Bool := s.pins.supply && !s.pins.reset

/-! ## Channels, lines -/

/-- The channel that holds a function (R21: at most one). NONE is held by no channel. -/
def State.channelOf (s : State) (f : ChannelFunction) : Option (Fin 10) :=
  if f = .unassigned then none else (List.finRange 10).find? fun i => decide (s.channels[i].cfg.function = f)

/-- The state of the channel that holds a function, or none where no channel holds it. -/
def State.shaft (s : State) (f : ChannelFunction) : Option ChannelState := (s.channelOf f).map fun i => s.channels[i].state

/-- The speed of the channel that holds a function, in tenths of rpm; 0 for a STOPPED one (R33). -/
def State.shaftSpeed (s : State) (f : ChannelFunction) : Nat :=
  match s.channelOf f with
  | some i => s.channels[i].speed.getD 0
  | none => 0

/-- The channel that holds a function is TURNING. -/
def State.isTurning (s : State) (f : ChannelFunction) : Bool := decide (s.shaft f = some .turning)

/-- The filtered state of a line: true for ACTIVE (R37). -/
def State.lineActive (s : State) (l : LineId) : Bool := s.lines[l.index].filtered

def State.setChannelRecord (s : State) (i : Fin 10) (c : Channel) : State := { s with channels := s.channels.set i c }

def State.setLineRecord (s : State) (l : LineId) (x : InputLine) : State := { s with lines := s.lines.set l.index x }

/-- What the input level of a line means under its polarity: true for ACTIVE (R37). -/
def InputLine.meaning (x : InputLine) : Bool := x.level == x.setting.activeHigh

/-! ## The places of the Period Book -/

/-- The place of a sequence number (R130). -/
def placeOf (seq : Nat) : Fin 24 := ⟨seq % 24, Nat.mod_lt _ (by decide)⟩

/-- The header line of a place (R130, R149). -/
def headerLine (p : Fin 24) : Nat := 82 + 4 * p.val

/-- The four lines of a place: the header line, then the increment lines (R130). -/
def placeLines (p : Fin 24) : List Nat := [82 + 4 * p.val, 83 + 4 * p.val, 84 + 4 * p.val, 85 + 4 * p.val]

/-- The identity, scalar and histogram line of a slot (R98). -/
def identLine (i : Fin 20) : Nat := 6 + 3 * i.val
def scalarLine (i : Fin 20) : Nat := 7 + 3 * i.val
def histLine (i : Fin 20) : Nat := 8 + 3 * i.val

/-- The orphan line of a position (R149). -/
def orphanLine (p : Position) : Nat := 66 + p.index.val

/-- The place of the open record, the newest (R130). -/
def Book.openPlace (b : Book) : Fin 24 := placeOf b.newest

/-- The number of records the book holds (R130). -/
def Book.count (b : Book) : Nat := b.newest + 1 - b.oldest

/-- The sequence numbers of the book, oldest first. -/
def Book.seqs (b : Book) : List Nat := (List.range b.count).map (b.oldest + ·)

/-- The header of the record with a sequence number, if its place holds that record. -/
def Book.header (b : Book) (seq : Nat) : Option Header :=
  match b.places[placeOf seq].header with
  | some h => if h.seq = seq then some h else none
  | none => none

/-- The increment list of the record in a place (R132): the entries of its three lines in position order. -/
def Place.increments (p : Place) : List Entry := p.lines[0].entries ++ p.lines[1].entries ++ p.lines[2].entries

/-- The header of the open record. -/
def Book.openHeader (b : Book) : Option Header := b.places[b.openPlace].header

def State.setPlace (s : State) (p : Fin 24) (x : Place) : State :=
  { s with book := { s.book with places := s.book.places.set p x } }

/-- The time field of an event (R20): the clock's value when it is SET. -/
def State.timeField (s : State) : Option Nat := if s.clock.isSet then some s.clock.value else none

/-- The entry count of the current Gear Table. -/
def State.gearCount (s : State) : Nat := s.driveline.table.entries.length

end Sys2Proof.Machine
end

