-- ==== Sys2Proof/Machine/Flags.lean ====
section
/-! DEFINITION. The Notice Set and ATTN (11 R190 to R193), and the bytes of a notice's detail (12 R198). -/

namespace Sys2Proof.Machine

/-- The current level of a notice kind (R190, R193). -/
def State.level (s : State) (k : NoticeKind) : Nat := s.link.settings.levels[k.index]

/-- The pending notice of a kind. -/
def State.notice (s : State) (k : NoticeKind) : Option Notice := s.link.notices[k.index]

/-- A notice slot after a raise: pending with the raise's detail, or one repeat more (R190). -/
def Notice.raised (d : Detail) : Option Notice → Notice
  | some n => { n with repeats := bump Config.max8 n.repeats }
  | none => { detail := d, repeats := 0 }

/-- A raise of a notice (R190): nothing at level 0. -/
def State.raise (s : State) (k : NoticeKind) (d : Detail) : State :=
  if s.level k = 0 then s
  else { s with link := { s.link with notices := s.link.notices.set k.index (some (Notice.raised d (s.notice k))) } }

/-- A notice leaves the set (R192, R193, R19). -/
def State.dropNotice (s : State) (k : NoticeKind) : State :=
  { s with link := { s.link with notices := s.link.notices.set k.index none } }

/-- The pending kinds, in tie order. -/
def State.pendingKinds (s : State) : List NoticeKind := NoticeKind.all.filter fun k => (s.notice k).isSome

/-- The winner among two kinds, the first standing earlier in tie order: the higher level, the first at equal levels (R192). -/
def State.better (s : State) (a b : NoticeKind) : NoticeKind := if s.level a < s.level b then b else a

/-- The winning notice: the highest level, then tie order (R192). -/
def State.winner (s : State) : Option NoticeKind :=
  match s.pendingKinds with
  | [] => none
  | k :: ks => some (ks.foldl s.better k)

/-- ATTN (R191): a pending notice at or above the attention threshold; inactive while RESET is held or without supply. -/
def State.attn (s : State) : Bool :=
  s.live && s.pendingKinds.any fun k => decide (s.link.settings.attention ≤ s.level k)

/-- The 11 bytes of the start-up report (R198). -/
def StartReport.bytes (r : StartReport) : List Byte :=
  [r.corrected, r.uncorrectable, r.configDefaulted, r.slotsDamaged, r.slotsStray, r.mapCleared, r.orphansRestarted,
   r.recordsDamaged, r.recoveryCloses, r.opening.code, r.markFound.toNat].map (BitVec.ofNat 8)

/-- An index or none as a byte (R196). -/
def optCode (n : Option Nat) : List Byte := leBytes 1 (n.getD noneCode)

/-- Holder type, slot or none, sequence number of a SATURATED detail (R198). -/
def SaturatedIn.bytes : SaturatedIn → List Byte
  | .slot i => leBytes 1 0 ++ leBytes 1 i.val ++ leBytes 4 0
  | .interim => leBytes 1 1 ++ leBytes 1 noneCode ++ leBytes 4 0
  | .orphan => leBytes 1 2 ++ leBytes 1 noneCode ++ leBytes 4 0
  | .period q => leBytes 1 3 ++ leBytes 1 noneCode ++ leBytes 4 q

/-- The fields of a detail, before the bytes 0x00 that fill it (R198). -/
def Detail.fields : Detail → List Byte
  | .empty => []
  | .line n => leBytes 1 n
  | .report r => r.bytes
  | .channel n => optCode (n.map Fin.val)
  | .slot n => leBytes 1 n.val
  | .position p => leBytes 1 p.code
  | .count n => leBytes 1 n
  | .tenths n => leBytes 2 n
  | .keyCrank k c => leBytes 1 k.toNat ++ leBytes 1 c.toNat
  | .load n => leBytes 1 n
  | .saturated h p q e => h.bytes ++ leBytes 1 p.code ++ leBytes 1 q.code ++ optCode e

/-- A detail fills its 12 bytes from the first on (R198). -/
def Detail.bytes (d : Detail) : List Byte := d.fields ++ List.replicate (12 - d.fields.length) 0

end Sys2Proof.Machine
end

