-- ==== Sys2Proof/Machine/Store.lean ====
section
/-! DEFINITION. The nonvolatile store and the Store Controller (09 R149 to R165): stored lines, live images, dirty marks, the
Write Queue, the arbiter, the end of a deferred record. -/

namespace Sys2Proof.Machine

/-! ## The stored lines -/

/-- What the store holds of line n: as listed, or as manufactured (R172). -/
def storeGet (st : Store) (n : Nat) : StoredLine :=
  match st.find? (fun e => e.1 == n) with
  | some e => e.2
  | none => factoryLine n

/-- A line put into the rising list. -/
def storeInsert (n : Nat) (l : StoredLine) : Store → Store
  | [] => [(n, l)]
  | e :: st => if n < e.1 then (n, l) :: e :: st else if n = e.1 then (n, l) :: st else e :: storeInsert n l st

/-- The store with line n replaced (R150); a line equal to the line as manufactured is not listed. -/
def storePut (st : Store) (n : Nat) (l : StoredLine) : Store :=
  if l = factoryLine n then st.filter (fun e => e.1 != n) else storeInsert n l st

/-- The canonical form: line numbers strictly rising and below 178, no entry equal to the line as manufactured. -/
abbrev Store.wf (st : Store) : Prop :=
  (st.map Prod.fst).Pairwise (· < ·) ∧ ∀ e ∈ st, e.1 < Config.lineCount ∧ e.2 ≠ factoryLine e.1

/-- The worse of two read outcomes (R150). -/
def WordRead.worse : WordRead → WordRead → WordRead
  | .uncorrectable, _ => .uncorrectable
  | _, .uncorrectable => .uncorrectable
  | .corrected, _ => .corrected
  | _, .corrected => .corrected
  | .clean, .clean => .clean

/-- The outcome of a line: the worst outcome among its 8 words (R150). -/
def StoredLine.outcome (l : StoredLine) : WordRead := l.words.toList.foldl WordRead.worse .clean

/-- Words as they read, each no better than before. -/
def worseWords (v w : Words) : Words := tabulate 8 fun i => WordRead.worse v[i] w[i]

/-- One line's decay: each word reads as the worse of what it was and what is found (log 7). -/
def decayLine (st : Store) (d : Nat × Words) : Store :=
  if d.1 < Config.lineCount then
    let l := storeGet st d.1
    storePut st d.1 { l with words := worseWords l.words d.2 }
  else st

/-- The store with all decay found. -/
def decayed (st : Store) (d : Decay) : Store := d.foldl decayLine st

/-- Some word of the line reads uncorrectable. -/
def spoilt (w : Words) : Bool := w.toList.contains .uncorrectable

/-- What the operand `e` says the store holds of a line after a write of `image` (R150, R154, log 7). A line left as it
was reads no better than it did; a mixture with an uncorrectable word gives no contents, and the model keeps the contents the line
was last read with, which R102 and R109 ask about (log 15). -/
def afterWrite (before : StoredLine) (image : LineImage) (e : WriteEnd) : StoredLine :=
  match e.held with
  | .old => { image := before.image, words := worseWords before.words e.words }
  | .new => { image := image, words := e.words }
  | .garbled => { image := if spoilt e.words then before.image else .invalid, words := e.words }

/-- The contents are line 5's with the clean-shutdown mark set (R164). -/
def LineImage.marked : LineImage → Bool
  | .map m => m.mark
  | _ => false

/-- The contents with the clean-shutdown mark clear. -/
def LineImage.unmark : LineImage → LineImage
  | .map m => .map { m with mark := false }
  | x => x

/-- What the store holds of a line after a write that failed verification or was cut short (R150, R154, log 7). R164 lets the mark
be set in the store by a completed flush only, and R150 a write cut short leave its new contents: the model takes R164, so a write of
the mark leaves line 5 uncorrectable or with the mark clear (log 33). -/
def leftBy (before : StoredLine) (image : LineImage) (e : WriteEnd) : StoredLine :=
  let l := afterWrite before image e
  if image.marked then { l with image := l.image.unmark } else l

/-- A write passes verification when the read-back is clean and gives the image written (R154). -/
def verified (l : StoredLine) (image : LineImage) : Bool := decide (l.outcome = .clean) && decide (l.image = image)

/-! ## Live images (R149, R151) -/

/-- The image of a slot's identity line. -/
def SlotIdent.image (x : SlotIdent) : LineImage := if x = .bare .empty then .blank else .slotIdent x

/-- The image of a scalar line; with no quantity it is blank (R102). -/
def scalarImage (xs : List Scalar) : LineImage := if xs = [] then .blank else .scalars xs

/-- The image of a histogram line; with no quantity it is blank (R98, R102). -/
def histImage (xs : List Hist) : LineImage := if xs = [] then .blank else .hists xs

/-- The image of a header line; a free place is blank (R172). -/
def headerImage : Option Header → LineImage
  | some h => .header h
  | none => .blank

/-- The image of an increment line. -/
def incrementImage (x : IncrementLine) : LineImage := if x = .blank then .blank else .increments x

/-- What line 3 keeps (R149). -/
def State.settingsLine (s : State) : SettingsLine :=
  { lines := tabulate 5 fun i => s.lines[i].setting, engine := s.run.settings, driveline := s.driveline.settings,
    timing := s.ctl.timing, delay := s.sup.delay }

/-- What line 5 keeps (R149). -/
def State.mapLine (s : State) : MapLine :=
  { entries := s.table.map.toList.map (Option.map Fin.val), mark := s.sup.mark, bounds := some (s.book.oldest, s.book.newest) }

/-- The live image of a slot's line: identity, scalar or histogram (R98). -/
def Slot.image (x : Slot) : Nat → LineImage
  | 0 => x.ident.image
  | 1 => scalarImage x.tally.scalars
  | _ => histImage x.tally.hists

/-- The live image of a line of a place: header, then the increment lines (R130). -/
def Place.image (x : Place) (k : Nat) : LineImage :=
  if k = 0 then headerImage x.header
  else if k = 1 then incrementImage x.lines[0]
  else if k = 2 then incrementImage x.lines[1]
  else incrementImage x.lines[2]

/-- The live image of line n (R149, R151). -/
def State.liveImage (s : State) (n : Nat) : LineImage :=
  if n = 0 then .identity s.ctl.identity
  else if n = 1 then .channels (tabulate 10 fun i => s.channels[i].cfg)
  else if n = 2 then .gears s.driveline.table
  else if n = 3 then .settings s.settingsLine
  else if n = 4 then .weights s.tally.weights s.link.settings
  else if n = 5 then .map s.mapLine
  else if h : n < 66 then (s.table.slots[(n - 6) / 3]'(by omega)).image ((n - 6) % 3)
  else if h : n < 82 then .orphan (s.tally.orphans[n - 66]'(by omega))
  else if h : n < 178 then (s.book.places[(n - 82) / 4]'(by omega)).image ((n - 82) % 4)
  else .blank

/-! ## Dirty marks (R151) -/

/-- A line is marked dirty. -/
def State.markDirty (s : State) (n : Nat) : State := { s with ctl := { s.ctl with dirty := insertLine n s.ctl.dirty } }

/-- Lines are marked dirty. -/
def State.markAll (s : State) (ns : List Nat) : State := ns.foldl State.markDirty s

/-- A line is marked dirty where its image changed. -/
def State.markIf (s : State) (changed : Bool) (n : Nat) : State := if changed then s.markDirty n else s

/-! ## The Write Queue (R152) -/

/-- No line queued. -/
def WriteQueue.empty : WriteQueue := { flush := [], commit := [], checkpoint := [], repair := [] }

/-- All queued lines, highest class first, oldest first. -/
def WriteQueue.lines (q : WriteQueue) : List Nat := q.flush ++ q.commit ++ q.checkpoint ++ q.repair

/-- The class at which a line is queued. -/
def WriteQueue.classOf (q : WriteQueue) (n : Nat) : Option WriteClass :=
  if q.flush.contains n then some .flush
  else if q.commit.contains n then some .commit
  else if q.checkpoint.contains n then some .checkpoint
  else if q.repair.contains n then some .scrubRepair
  else none

/-- The queue without a line. -/
def WriteQueue.without (q : WriteQueue) (n : Nat) : WriteQueue :=
  { flush := q.flush.filter (· != n), commit := q.commit.filter (· != n),
    checkpoint := q.checkpoint.filter (· != n), repair := q.repair.filter (· != n) }

/-- A line joins a class as its newest entry. -/
def WriteQueue.join (q : WriteQueue) (c : WriteClass) (n : Nat) : WriteQueue :=
  match c with
  | .flush => { q with flush := q.flush ++ [n] }
  | .commit => { q with commit := q.commit ++ [n] }
  | .checkpoint => { q with checkpoint := q.checkpoint ++ [n] }
  | .scrubRepair => { q with repair := q.repair ++ [n] }

/-- A line that is not in flight is queued at a class: a new entry, a promotion, or no change (R152). -/
def WriteQueue.put (q : WriteQueue) (c : WriteClass) (n : Nat) : WriteQueue :=
  match q.classOf n with
  | none => q.join c n
  | some d => if c.rank < d.rank then (q.without n).join c n else q

/-- The pending class after a queuing at class c (R152): never lowered. -/
def raisePending (c : WriteClass) : Option WriteClass → WriteClass
  | none => c
  | some d => if c.rank < d.rank then c else d

/-- The class a queuing is made at: FLUSH for every queuing from HOLDUP entry until HOLDUP is left (R163). -/
def StoreController.effective (x : StoreController) (c : WriteClass) : WriteClass :=
  if x.flush = .absent then c else .flush

/-- Queuing line n at class c (R152, R163). -/
def StoreController.enqueue (x : StoreController) (c : WriteClass) (n : Nat) : StoreController :=
  match x.flight with
  | some f =>
    if f.line = n then { x with flight := some { f with pending := some (raisePending (x.effective c) f.pending) } }
    else { x with queue := x.queue.put (x.effective c) n }
  | none => { x with queue := x.queue.put (x.effective c) n }

/-- Queuing lines at a class, in order. -/
def State.enqueueAll (s : State) (c : WriteClass) (ns : List Nat) : State :=
  { s with ctl := ns.foldl (fun x n => x.enqueue c n) s.ctl }

/-- The entry at the head of the highest nonempty class, and the queue without it (R153). -/
def WriteQueue.pop (q : WriteQueue) : Option (Nat × WriteQueue) :=
  match q with
  | ⟨n :: f, c, k, r⟩ => some (n, ⟨f, c, k, r⟩)
  | ⟨[], n :: c, k, r⟩ => some (n, ⟨[], c, k, r⟩)
  | ⟨[], [], n :: k, r⟩ => some (n, ⟨[], [], k, r⟩)
  | ⟨[], [], [], n :: r⟩ => some (n, ⟨[], [], [], r⟩)
  | ⟨[], [], [], []⟩ => none

/-! ## The arbiter (R153, R164, R178) -/

/-- A write starts (R151, R153, R157): it carries the live image, clears the dirty mark and remembers the records that exist. -/
def State.startWrite (s : State) (n : Nat) (rest : WriteQueue) (retry : Bool) (pending : Option WriteClass) : State :=
  { s with ctl := { s.ctl with
      queue := rest
      dirty := s.ctl.dirty.filter (· != n)
      flight := some { line := n, image := s.liveImage n, retry := retry, pending := pending,
                       records := s.ctl.records.map (·.id) } } }

/-- DORMANT entry (R178): the accrual, checkpoint and scrub timers are cancelled. -/
def State.enterDormant (s : State) : State :=
  { s with sup := { s.sup with power := .dormant }
           tally := { s.tally with accrual := none }
           ctl := { s.ctl with checkpointTimer := none, scrubTimer := none } }

/-- Step 1 of the completion of the holdup flush (R164): the mark is set in line 5's live image and line 5 is queued at FLUSH;
it is the only entry, so its write starts at once. -/
def State.writeMark (s : State) : State :=
  ({ s with sup := { s.sup with mark := true }, ctl := { s.ctl with flush := .marking } }.markDirty 5).startWrite 5
    .empty false none

/-- The arbiter looks for a write to start (R153). With nothing queued and nothing in flight, DRAINING ends in DORMANT (R178)
and the holdup flush writes the clean-shutdown mark (R164). -/
def State.arbitrate (s : State) : State :=
  if s.ctl.flight.isSome then s
  else match s.sup.power with
    | .starting => s
    | .dormant => s
    | .active =>
      match s.ctl.queue.pop with
      | some (n, rest) => s.startWrite n rest false none
      | none => s
    | .draining =>
      match s.ctl.queue.pop with
      | some (n, rest) => s.startWrite n rest false none
      | none => s.enterDormant
    | .holdup =>
      if s.ctl.flush = .complete then s
      else match s.ctl.queue.pop with
        | some (n, rest) => s.startWrite n rest false none
        | none => if s.ctl.flush = .running then s.writeMark else s

/-- Lines are queued at a class in order, and the arbiter looks (R152, R153). -/
def State.queueLines (s : State) (c : WriteClass) (ns : List Nat) : State := (s.enqueueAll c ns).arbitrate

/-- Line 5 is kept out of a checkpoint: in HOLDUP, after the write of the mark has ended in final failure, the mark is not queued
again (R164), and line 5's live image holds it set. -/
def State.markLost (s : State) : Bool := decide (s.sup.power = .holdup) && decide (s.ctl.flush = .failed)

/-- A checkpoint (R159): every dirty line from 5 to 177, in rising order, at CHECKPOINT class; not line 5 after the mark's write
has failed (R164). -/
def State.checkpoint (s : State) : State :=
  s.queueLines .checkpoint (s.ctl.dirty.filter fun n => decide (5 ≤ n ∧ n ≤ 177) && !(decide (n = 5) && s.markLost))

/-! ## Deferred records (R156, R157, R187) -/

/-- The reserved places (R188): the deferred entries that are not silent. -/
def State.reserved (s : State) : Nat := (s.ctl.records.filter fun r => !r.silent).length

/-- The free places of the reply queue (R188). -/
def State.freePlaces (s : State) : Nat := Config.replyPlaces - s.link.replies.length - s.reserved

/-- A reply joins the reply queue. -/
def State.reply (s : State) (r : Reply) : State := { s with link := { s.link with replies := s.link.replies ++ [r] } }

/-- The FINISHED of an ended record, unless its entry is silent (R187). -/
def State.finish (res : Result) (s : State) (r : DeferredRecord) : State :=
  if r.silent then s else s.reply (.finished r.tag r.kind res)

/-- Records end with a result: they leave, and their FINISHED replies are queued in the order in which the records were created
(log 28: R154 and R187 give no order among records that one write ends). -/
def State.endRecords (s : State) (res : Result) (ends : DeferredRecord → Bool) : State :=
  (s.ctl.records.filter ends).foldl (State.finish res)
    { s with ctl := { s.ctl with records := s.ctl.records.filter fun r => !ends r } }

/-- A completed write releases its line from the records that existed at its start (R157). -/
def DeferredRecord.release (f : Flight) (r : DeferredRecord) : DeferredRecord :=
  if f.records.contains r.id then { r with awaits := r.awaits.filter (· != f.line) } else r

/-- A deferred record is created (R156, R187). -/
def State.createRecord (s : State) (tag kind : Byte) (lines : List Nat) : State :=
  { s with
    nextId := s.nextId + 1
    ctl := { s.ctl with
      records := s.ctl.records ++ [{ id := s.nextId, tag := tag, kind := kind, awaits := lines, silent := false }] } }

/-- A deferred record is created, its lines are queued at COMMIT class in order, and the arbiter looks (R156). -/
def State.defer (s : State) (tag kind : Byte) (lines : List Nat) : State :=
  (s.createRecord tag kind lines).queueLines .commit lines

end Sys2Proof.Machine
end

