-- ==== Sys2Proof/Machine/Tally.lean ====
section
/-! DEFINITION. The Tally Engine (05; 01 R6 to R15): holders, additions and saturation, period increments, thresholds, the
routing of quanta and the usages that become quanta. -/

namespace Sys2Proof.Machine

/-! ## Additions to a holder (R13, R15) -/

/-- An addition to a scalar tally (R13): past the maximum it stands at the maximum with its mark set. -/
def Scalar.add (amount : Nat) (x : Scalar) : Scalar :=
  match x.value with
  | some v => { x with value := some (min Config.maxTally (v + amount)),
                       saturated := x.saturated || decide (Config.maxTally < v + amount) }
  | none => x

/-- An addition to one entry of a histogram (R13); the mark serves all entries. An entry the histogram lacks takes nothing (R4). -/
def Hist.add (entry amount : Nat) (x : Hist) : Hist :=
  match x.values[entry]? with
  | some (some v) => { x with values := x.values.set entry (some (min Config.maxTally (v + amount))),
                              saturated := x.saturated || decide (Config.maxTally < v + amount) }
  | _ => x

/-- An addition to the tally of one quantity, or to one entry of it (R10, R13). -/
def Tally.add (t : Tally) (q : Quantity) (entry amount : Nat) : Tally :=
  { scalars := t.scalars.map fun x => if x.quantity = q then x.add amount else x
    hists := t.hists.map fun x => if x.quantity = q then x.add entry amount else x }

/-- The saturated mark of a quantity. -/
def Tally.mark (t : Tally) (q : Quantity) : Bool :=
  t.scalars.any (fun x => decide (x.quantity = q) && x.saturated) || t.hists.any (fun x => decide (x.quantity = q) && x.saturated)

/-- The value of a scalar quantity. -/
def Tally.value (t : Tally) (q : Quantity) : Option Nat := (t.scalars.find? fun x => decide (x.quantity = q)).bind (·.value)

/-- The entries of two histograms added one by one (R15). -/
def addEntries : List (Option Nat) → List (Option Nat) → List (Option Nat)
  | x :: xs, y :: ys => (match x, y with
      | some v, some w => some (min Config.maxTally (v + w))
      | x, _ => x) :: addEntries xs ys
  | xs, _ => xs

/-- The first entry an entry-by-entry addition carries past the maximum. -/
def firstOver (dst src : List (Option Nat)) : Option Nat :=
  (List.zip dst src).findIdx? fun e => match e with
    | (some v, some w) => decide (Config.maxTally < v + w)
    | _ => false

/-- A scalar of the interim accumulator added to its destination (R15): one addition, and a mark set in the accumulator sets
the destination's. -/
def Scalar.merge (src dst : Scalar) : Scalar :=
  match src.value with
  | some w => { dst.add w with saturated := (dst.add w).saturated || src.saturated }
  | none => { dst with saturated := dst.saturated || src.saturated }

/-- A histogram of the interim accumulator added to its destination (R15). -/
def Hist.merge (src dst : Hist) : Hist :=
  { dst with values := addEntries dst.values src.values
             saturated := dst.saturated || src.saturated || (firstOver dst.values src.values).isSome }

/-- The interim accumulator added to a holder, one addition per quantity (R15, R122, R125). -/
def Tally.merge (src dst : Tally) : Tally :=
  { scalars := dst.scalars.map fun x => match src.scalars.find? (fun y => decide (y.quantity = x.quantity)) with
      | some y => Scalar.merge y x
      | none => x
    hists := dst.hists.map fun x => match src.hists.find? (fun y => decide (y.quantity = x.quantity)) with
      | some y => Hist.merge y x
      | none => x }

/-- The entry a SATURATED of a merge names for a histogram: the first one carried past the maximum (log 25); none where no entry is
carried past it and the interim accumulator's mark alone sets the destination's (log 29). -/
def mergeEntry (src dst : Tally) (q : Quantity) : Option Nat :=
  match dst.hists.find? (fun x => decide (x.quantity = q)), src.hists.find? (fun x => decide (x.quantity = q)) with
  | some x, some y => firstOver x.values y.values
  | _, _ => none

/-- The entries of GEAR_SECONDS after a change of the entry count to n (R4). -/
def resizeEntries (n : Nat) (vs : List (Option Nat)) : List (Option Nat) :=
  vs.take n ++ List.replicate (n - vs.length) (some 0)

/-- A holder resized to n Gear Table entries (R4): marks stay. -/
def Tally.resize (t : Tally) (n : Nat) : Tally :=
  { t with hists := t.hists.map fun x => if x.quantity = .gearSeconds then { x with values := resizeEntries n x.values } else x }

/-! ## Holders (R9, R10) -/

/-- The thing that receives a quantum (R9). -/
inductive Holder
  | slot (i : Fin 20)
  | interim
  | orphan
deriving DecidableEq, Repr

/-- The holder of a position that is not held: its FITTED slot, else its orphan tally (R10). -/
def State.unheldHolder (s : State) (p : Position) : Holder :=
  match s.table.map[p.index] with
  | some i => if s.table.slots[i].ident.state = .fitted then .slot i else .orphan
  | none => .orphan

/-- The holder of a position (R10): the interim accumulator while the open fitment holds it. -/
def State.holder (s : State) (p : Position) : Holder :=
  match s.fitment with
  | some c => if c.position = p then .interim else s.unheldHolder p
  | none => s.unheldHolder p

/-- The tallies of a holder. -/
def State.tallyOf (s : State) (p : Position) : Holder → Tally
  | .slot i => s.table.slots[i].tally
  | .interim => match s.fitment with
    | some c => c.interim
    | none => .empty
  | .orphan => s.tally.orphans[p.index]

def State.setSlot (s : State) (i : Fin 20) (x : Slot) : State :=
  { s with table := { s.table with slots := s.table.slots.set i x } }

def State.setOrphan (s : State) (p : Position) (t : Tally) : State :=
  { s with tally := { s.tally with orphans := s.tally.orphans.set p.index t } }

/-- A holder takes new tallies, and the lines whose image changed are marked dirty (R79); the interim accumulator has no line. -/
def State.setTally (s : State) (p : Position) (h : Holder) (t : Tally) : State :=
  match h with
  | .slot i =>
    let old := s.table.slots[i]
    ((s.setSlot i { old with tally := t }).markIf (decide (t.scalars ≠ old.tally.scalars)) (scalarLine i)).markIf
      (decide (t.hists ≠ old.tally.hists)) (histLine i)
  | .interim => { s with fitment := s.fitment.map fun c => { c with interim := t } }
  | .orphan => (s.setOrphan p t).markIf (decide (t ≠ s.tally.orphans[p.index])) (orphanLine p)

/-- A holder as SATURATED names it (R13). -/
def Holder.named : Holder → SaturatedIn
  | .slot i => .slot i
  | .interim => .interim
  | .orphan => .orphan

/-- SATURATED for a quantity whose mark went from clear to set (R13, R15). -/
def State.raiseSaturated (s : State) (h : SaturatedIn) (p : Position) (before after : Bool) (q : Quantity)
    (entry : Option Nat) : State :=
  if !before && after then s.raise .saturated (.saturated h p q entry) else s

/-! ## Service threshold and life limit (R91, R93) -/

/-- The service threshold of a slot is tested (R91): reached while armed, it raises SERVICE_DUE and is disarmed. -/
def State.testService (s : State) (i : Fin 20) : State :=
  let slot := s.table.slots[i]
  match slot.ident.limits with
  | none => s
  | some (sv, lf) =>
    match sv.quantity with
    | none => s
    | some q =>
      if sv.armed && decide (sv.due ≤ (slot.tally.value q).getD 0) then
        ((s.setSlot i { slot with ident := { slot.ident with limits := some ({ sv with armed := false }, lf) } }).markDirty
          (identLine i)).raise .serviceDue (.slot i)
      else s

/-- The life limit of a slot is tested (R93): reached with OVER_LIFE clear, it sets OVER_LIFE and raises LIFE_LIMIT. -/
def State.testLife (s : State) (i : Fin 20) : State :=
  let slot := s.table.slots[i]
  match slot.ident.limits with
  | none => s
  | some (sv, lf) =>
    if decide (0 < lf.limit) && !lf.overLife && decide (lf.limit ≤ (slot.tally.value lf.quantity).getD 0) then
      ((s.setSlot i { slot with ident := { slot.ident with limits := some (sv, { lf with overLife := true }) } }).markDirty
        (identLine i)).raise .lifeLimit (.slot i)
    else s

/-- The quantity of a slot's service threshold. -/
def Slot.serviceQuantity (x : Slot) : Option Quantity := x.ident.limits.bind fun l => l.1.quantity

/-- The quantity of a slot's life limit. -/
def Slot.lifeQuantity (x : Slot) : Option Quantity := x.ident.limits.map fun l => l.2.quantity

/-- The thresholds of a FITTED slot after a change of the value of one quantity (R79 step 4, R91, R93). -/
def State.testThresholds (s : State) (h : Holder) (q : Quantity) : State :=
  match h with
  | .slot i =>
    let s1 := if s.table.slots[i].serviceQuantity = some q then s.testService i else s
    if s1.table.slots[i].lifeQuantity = some q then s1.testLife i else s1
  | .interim => s
  | .orphan => s

/-! ## Period increments (R11, R14, R132) -/

/-- An increment added to the pairs of an entry, in quantity order (R132); past the maximum it stands there, marked (R14). -/
def addPair (q : Quantity) (amount : Nat) : List Pair → List Pair
  | [] => [{ quantity := q, amount := min Config.max32 amount, saturated := decide (Config.max32 < amount) }]
  | x :: xs =>
    if x.quantity = q then
      { x with amount := min Config.max32 (x.amount + amount),
               saturated := x.saturated || decide (Config.max32 < x.amount + amount) } :: xs
    else if q.code < x.quantity.code then
      { quantity := q, amount := min Config.max32 amount, saturated := decide (Config.max32 < amount) } :: x :: xs
    else x :: addPair q amount xs

/-- An increment added to an increment list, in position order (R11, R132). -/
def addEntry (p : Position) (q : Quantity) (amount : Nat) : List Entry → List Entry
  | [] => [{ position := p, pairs := addPair q amount [] }]
  | x :: xs =>
    if x.position = p then { x with pairs := addPair q amount x.pairs } :: xs
    else if p.code < x.position.code then { position := p, pairs := addPair q amount [] } :: x :: xs
    else x :: addEntry p q amount xs

/-- The pair of a position and quantity in an increment list. -/
def findPair (p : Position) (q : Quantity) (es : List Entry) : Option Pair :=
  (es.find? fun e => decide (e.position = p)).bind fun e => e.pairs.find? fun x => decide (x.quantity = q)

/-- The increment of a position and quantity in a record, 0 where it has none (R132). -/
def Place.increment (x : Place) (p : Position) (q : Quantity) : Nat :=
  match findPair p q x.lines[p.incrementLine].entries with
  | some y => y.amount
  | none => 0

/-- The saturated mark of a position and quantity in a record (R14). -/
def Place.mark (x : Place) (p : Position) (q : Quantity) : Bool :=
  match findPair p q x.lines[p.incrementLine].entries with
  | some y => y.saturated
  | none => false

/-- A record's place after an addition to one increment (R11, R14). -/
def Place.add (x : Place) (p : Position) (q : Quantity) (amount : Nat) : Place :=
  let k := p.incrementLine
  { x with lines := x.lines.set k { x.lines[k] with entries := addEntry p q amount x.lines[k].entries } }

/-- The increment line of a place that keeps a position (R130, log 6). -/
def incrementLineNo (pl : Fin 24) (p : Position) : Nat := 83 + 4 * pl.val + p.incrementLine.val

/-- A scalar quantum is added to the open record (R11), and the line that changed is marked dirty (R79). -/
def State.addPeriod (s : State) (p : Position) (q : Quantity) (amount : Nat) : State :=
  let pl := s.book.openPlace
  let x := s.book.places[pl]
  (s.setPlace pl (x.add p q amount)).markIf (decide (x.add p q amount ≠ x)) (incrementLineNo pl p)

/-! ## Routing (R10, R79) -/

/-- One increment of one quantity for one position; a histogram quantum names its entry (01, 1.3). -/
structure Quantum where
  position : Position
  quantity : Quantity
  entry    : Nat
  amount   : Nat
deriving DecidableEq, Repr

/-- The entry a notice names for a quantum: only a histogram has one (R13). -/
def Quantum.entryNamed (x : Quantum) : Option Nat := if x.quantity.isHist then some x.entry else none

/-- A quantum with a nonzero amount is delivered (R79): to the holder of its position, to the open record if it is scalar, then
the thresholds of a FITTED slot, then the notices. An addition to a value at its maximum does not change it, so it tests no
threshold, that of a slot rebuilt with a threshold already met included (R91, R94, log 32). Where one quantum sets both marks,
SATURATED is raised for the holder first, then for the period (log 30: R79 and R190 leave their order open). -/
def State.deliver (s : State) (x : Quantum) : State :=
  let h := s.holder x.position
  let before := s.tallyOf x.position h
  let after := before.add x.quantity x.entry x.amount
  let pl := s.book.openPlace
  let s1 := s.setTally x.position h after
  let s2 := if x.quantity.isHist then s1 else s1.addPeriod x.position x.quantity x.amount
  let s3 := s2.raiseSaturated h.named x.position (before.mark x.quantity) (after.mark x.quantity) x.quantity x.entryNamed
  let s4 := s3.raiseSaturated (.period s.book.newest) x.position (s.book.places[pl].mark x.position x.quantity)
    (s2.book.places[pl].mark x.position x.quantity) x.quantity none
  if after.value x.quantity = before.value x.quantity then s4 else s4.testThresholds h x.quantity

/-- A quantum is routed; one of amount 0 is not delivered (R4, R78). -/
def State.route (s : State) (x : Quantum) : State := if x.amount = 0 then s else s.deliver x

/-- Quanta are routed in order, as one act (R78, R85). -/
def State.routeAll (s : State) (xs : List Quantum) : State := xs.foldl State.route s

/-! ## Usages (R6, R7) -/

/-- What a producing block hands to the Tally Engine (R6). A revolution event names the function and whether the Run Detector
is RUNNING (R7). -/
inductive Usage
  | crankedStart | uncrankedStart | crank | failedCrank | crankDuration (tenths : Nat) | launch | shift | ptoEngagement
  | overspeed (f : ChannelFunction) | revolution (f : ChannelFunction) (running : Bool)
deriving DecidableEq, Repr

/-- A scalar quantum. -/
def quantum (p : Position) (q : Quantity) (amount : Nat) : Quantum :=
  { position := p, quantity := q, entry := 0, amount := amount }

/-- The quanta of a usage, in position order (R6, R7, R78). -/
def Usage.quanta : Usage → List Quantum
  | .crankedStart => [quantum .engine .starts 1, quantum .starter .starts 1]
  | .uncrankedStart => [quantum .engine .starts 1, quantum .engine .uncrankedStarts 1]
  | .crank => [quantum .starter .cranks 1]
  | .failedCrank => [quantum .starter .failedCranks 1]
  | .crankDuration n => [quantum .starter .crankTenths n]
  | .launch => [quantum .clutch .launches 1]
  | .shift => [quantum .gearbox .shifts 1]
  | .ptoEngagement => [quantum .pto .ptoEngagements 1]
  | .overspeed f =>
    if f = .engineSpeed then [quantum .engine .overspeedEvents 1]
    else if f = .gearIn then [quantum .gearbox .overspeedEvents 1]
    else []
  | .revolution f running =>
    if running then
      (Position.all.filter fun p => decide (p.drivenSource = some f)).map fun p => quantum p .revolutions 1
    else
      (Position.all.filter fun p => decide (p.towedSource = some f)).map fun p => quantum p .towedRevolutions 1

/-- The Tally Engine takes a usage (R78). -/
def State.take (s : State) (u : Usage) : State := s.routeAll u.quanta

end Sys2Proof.Machine
end

