-- ==== Sys2Proof/Machine/Driveline.lean ====
section
/-! DEFINITION. The Driveline Observer (04): tow detector, gear inference, clutch, load bin, PTO and slip; and the Store
Controller's checkpoint timer, which follows the run state and the tow state (09 R158). -/

namespace Sys2Proof.Machine

/-! ## The checkpoint condition (R158) -/

/-- The checkpoint condition (R158): RUNNING, or TOW_SUSPECT, or TOWING. -/
def State.inUse (s : State) : Bool := decide (s.run.state = .running) || decide (s.driveline.tow ≠ .notTowing)

/-- After a transition: the checkpoint timer is started when the transition made the condition hold and the timer is not
running (R158). -/
def State.noteUse (s : State) (before : Bool) : State :=
  if !before && s.inUse && s.ctl.checkpointTimer.isNone then
    { s with ctl := { s.ctl with checkpointTimer := s.startIn (s.ctl.timing.interval * Config.second) } }
  else s

/-! ## Tow detector (R69 to R72) -/

/-- The quiet condition (R71): every channel holding an output-side function is STOPPED or DISABLED. -/
def State.quiet (s : State) : Bool :=
  outputSide.all fun f => decide (s.shaft f = none) || decide (s.shaft f = some .stopped) || decide (s.shaft f = some .disabled)

/-- The tow state changes, and the change is published to the Store Controller (R72). -/
def State.setTow (s : State) (t : TowState) : State :=
  { s with driveline := { s.driveline with tow := t } }.noteUse s.inUse

/-- One more tow episode in the open record (R135). -/
def State.towEpisode (s : State) : State :=
  let pl := s.book.openPlace
  let x := s.book.places[pl]
  match x.header with
  | none => s
  | some h =>
    (s.setPlace pl { x with header := some { h with info := h.info.map fun i => { i with tows := bump Config.max16 i.tows } } }).markDirty
      (headerLine pl)

/-- The function whose count has reached the tow threshold (R70): the reported one, or else the first that has (log 13). -/
def State.towReached (s : State) (f : ChannelFunction) : Option ChannelFunction :=
  (f :: outputSide).find? fun g => match g.towIndex with
    | some k => decide (s.driveline.settings.towThreshold ≤ s.driveline.towCounts[k])
    | none => false

/-- The threshold test of R70. TOW_STARTED names the channel that holds the function, and none where no channel holds it any more
(log 31: R70 and R198 give no number for that case). -/
def State.testTow (s : State) (f : ChannelFunction) : State :=
  if s.driveline.tow = .towSuspect then
    match s.towReached f with
    | some g => (((s.setTow .towing).raise .towStarted (.channel (s.channelOf g))).towEpisode)
    | none => s
  else s

/-- A report counts: in NOT_TOWING it opens TOW_SUSPECT with fresh counts (R69). -/
def State.countTow (s : State) (k : Fin 6) : State :=
  let s1 := if s.driveline.tow = .notTowing then
      ({ s with driveline := { s.driveline with towCounts := Vector.replicate 6 0 } }.setTow .towSuspect)
    else s
  { s1 with driveline := { s1.driveline with
      towCounts := s1.driveline.towCounts.set k (bump Config.max16 s1.driveline.towCounts[k]) } }

/-- The quiet timer is started with the tow quiet time (R71). -/
def State.startQuiet (s : State) : State :=
  { s with driveline := { s.driveline with quietTimer := s.startIn (s.driveline.settings.quietTime * Config.second) } }

/-- The tow detector takes a towed-revolution report (R69 to R71). -/
def State.towReport (s : State) (f : ChannelFunction) : State :=
  match f.towIndex with
  | none => s
  | some k =>
    let s1 := s.countTow k
    let s2 := if s1.quiet then s1.startQuiet else s1
    s2.testTow f

/-- The quiet timer at an announcement (R71). -/
def State.noteQuiet (s : State) : State :=
  if s.driveline.tow = .notTowing then s
  else if s.quiet then
    if s.driveline.quietTimer.isNone then s.startQuiet else s
  else { s with driveline := { s.driveline with quietTimer := none } }

/-- A revolution event (R7, R80): its quanta, then the towed-revolution report when the run state is not RUNNING. -/
def State.revolution (s : State) (f : ChannelFunction) : State :=
  let running := decide (s.run.state = .running)
  let s1 := s.take (.revolution f running)
  if running then s1 else s1.towReport f

/-! ## Gear inference (R55, R58 to R60) -/

/-- The margin of an entry (R55). -/
def GearEntry.margin (e : GearEntry) : Nat := e.ratio * e.tolerance / 1000
def GearEntry.lower (e : GearEntry) : Nat := e.ratio - e.margin
def GearEntry.upper (e : GearEntry) : Nat := e.ratio + e.margin

/-- The measured ratio in thousandths; none while the GEAR_OUT speed is 0 (R55). -/
def State.ratio (s : State) : Option Nat :=
  if s.shaftSpeed .gearOut = 0 then none else some (s.shaftSpeed .gearIn * 1000 / s.shaftSpeed .gearOut)

/-- The current direction (R58). -/
def State.direction (s : State) : Direction := if s.lineActive .reverse then .reverse else .forward

/-- The entry of a direction whose window holds a ratio (R55, R59). -/
def GearTable.search (t : GearTable) (d : Direction) (r : Nat) : Option Nat :=
  t.entries.findIdx? fun e => decide (e.direction = d ∧ e.lower ≤ r ∧ r ≤ e.upper)

/-- The gear can be judged (R58). -/
def State.canJudge (s : State) : Bool := s.isTurning .gearIn && s.isTurning .gearOut && s.lineActive .clutch

/-- The entry the evaluation finds (R59). -/
def State.gearFound (s : State) : Option Nat := s.ratio.bind fun r => s.driveline.table.search s.direction r

/-- An evaluation of the gear state (R59). -/
def State.evalGear (s : State) : State :=
  if s.canJudge then
    match s.gearFound with
    | none => { s with driveline := { s.driveline with gear := .seeking, settleTimer := none } }
    | some g =>
      if s.driveline.gear = .settling g ∨ s.driveline.gear = .engaged g then s
      else { s with driveline := { s.driveline with
              gear := .settling g, settleTimer := s.startIn (s.driveline.table.settle * Config.ms) } }
  else { s with driveline := { s.driveline with gear := .idle, settleTimer := none } }

/-! ## Clutch (R62 to R64) -/

/-- The clutch state becomes ENGAGED and the launch window is cancelled. -/
def State.clutchEngaged (s : State) : State :=
  { s with driveline := { s.driveline with clutch := .engaged, launchTimer := none } }

/-- LAUNCH_PENDING, and the launch window is started (R62, R64). -/
def State.launchPending (s : State) : State :=
  { s with driveline := { s.driveline with
      clutch := .launchPending, launchTimer := s.startIn (s.driveline.settings.launchWindow * Config.second) } }

/-- The launch threshold in tenths of rpm. -/
def State.launchTenths (s : State) : Nat := s.driveline.settings.launchThreshold * 10

/-- GEAR_OUT is STOPPED, or TURNING below the launch threshold (R62, R64). -/
def State.standing (s : State) : Bool :=
  decide (s.shaft .gearOut = some .stopped) || (s.isTurning .gearOut && decide (s.shaftSpeed .gearOut < s.launchTenths))

/-- A filtered transition of CLUTCH (R62). -/
def State.clutchTransition (s : State) (active : Bool) : State :=
  if active then
    if decide (s.run.state = .running) && s.standing then s.launchPending else s.clutchEngaged
  else { s with driveline := { s.driveline with clutch := .released, launchTimer := none } }

/-- The launch test (R63). -/
def State.launchTest (s : State) : State :=
  if s.driveline.clutch = .launchPending ∧ s.launchTenths ≤ s.shaftSpeed .gearOut then (s.clutchEngaged).take .launch else s

/-- A pending launch ends without a launch (R64). -/
def State.launchOff (s : State) : State := if s.driveline.clutch = .launchPending then s.clutchEngaged else s

/-- A run-state transition at the clutch (R64). -/
def State.clutchOnRun (s : State) (old new : RunState) : State :=
  if old = .running then s.launchOff
  else if new = .running ∧ s.driveline.clutch = .engaged ∧ s.standing = true then s.launchPending
  else s

/-! ## PTO (R68), tow at a run-state transition (R71) -/

/-- The PTO state for a PTO_ON level and a run state (R68). -/
def ptoState (on : Bool) (run : RunState) : PtoState :=
  if on then (if run = .running then .working else .on) else .off

def State.ptoUpdate (s : State) : State :=
  { s with driveline := { s.driveline with pto := ptoState (s.lineActive .ptoOn) s.run.state } }

/-- A filtered transition of PTO_ON (R68). -/
def State.ptoTransition (s : State) (active : Bool) : State :=
  if active && decide (s.run.state = .running) then s.ptoUpdate.take .ptoEngagement else s.ptoUpdate

/-- A run-state transition into RUNNING ends TOW_SUSPECT and TOWING at once (R71). -/
def State.towOnRun (s : State) (new : RunState) : State :=
  if new = .running ∧ s.driveline.tow ≠ .notTowing then
    { s with driveline := { s.driveline with quietTimer := none } }.setTow .notTowing
  else s

/-! ## Announcements and speed updates at the observer (R58, R63, R64, R71) -/

/-- A state announcement of a function; none stands for unassigned (R34, R58, R63, R64, R71). -/
def State.drivelineAnnounce (s : State) (f : ChannelFunction) (st : Option ChannelState) : State :=
  let s1 := if f = .gearIn ∨ f = .gearOut then s.evalGear else s
  let s2 := if f = .gearOut then
      (match st with
        | some .turning => s1.launchTest
        | some .stopped => s1
        | some .noisy => s1.launchOff
        | some .disabled => s1.launchOff
        | none => s1.launchOff)
    else s1
  if f.towIndex.isSome then s2.noteQuiet else s2

/-- A speed update of a function (R58, R63). -/
def State.drivelineUpdate (s : State) (f : ChannelFunction) : State :=
  let s1 := if f = .gearIn ∨ f = .gearOut then s.evalGear else s
  if f = .gearOut then s1.launchTest else s1

/-! ## What the accrual second reads (R65, R67) -/

/-- The load bin as an entry of LOAD_SECONDS and a column of the wear table (R67, R4, R86). -/
def State.loadBin (s : State) : Fin 6 :=
  if s.driveline.fresh then
    let v := s.driveline.load.getD 0
    if v < 20 then 1 else if v < 40 then 2 else if v < 60 then 3 else if v < 80 then 4 else 5
  else 0

/-- The load used for slip (R65, R66): the current value while FRESH, the default load while STALE. -/
def State.slipLoad (s : State) : Nat :=
  if s.driveline.fresh then s.driveline.load.getD 0 else s.driveline.settings.defaultLoad

/-- The slip speed in whole rpm (R65). -/
def State.slipSpeed (s : State) : Nat :=
  let a := s.shaftSpeed .engineSpeed
  let b := s.shaftSpeed .gearIn
  (if a < b then b - a else a - b) / 10

/-- The slip amount (R65). -/
def State.slipAmount (s : State) : Nat :=
  if decide (s.run.state = .running) && s.lineActive .clutch &&
      (s.isTurning .gearIn || decide (s.shaft .gearIn = some .stopped)) then
    if s.driveline.settings.slipTolerance < s.slipSpeed then s.slipSpeed * s.slipLoad / 100 else 0
  else 0

end Sys2Proof.Machine
end

