-- ==== Sys2Proof/Machine/RunDetector.lean ====
section
/-! DEFINITION. The Run Detector (03 R41 to R54): confirm conditions, run-state transitions, cranks, blind operation. -/

namespace Sys2Proof.Machine

/-- The ENGINE_SPEED channel is TURNING at or above the run threshold (R41). -/
def State.aboveRun (s : State) : Bool :=
  s.isTurning .engineSpeed && decide (s.run.settings.runThreshold * 10 ≤ s.shaftSpeed .engineSpeed)

/-- The ENGINE_SPEED channel is TURNING below the stop threshold (R41). -/
def State.belowStop (s : State) : Bool :=
  s.isTurning .engineSpeed && decide (s.shaftSpeed .engineSpeed < s.run.settings.stopThreshold * 10)

/-- The run condition (R43). -/
def State.runCondition (s : State) : Bool :=
  (decide (s.run.state = .off) || decide (s.run.state = .cranking)) && s.aboveRun

/-- The stop condition or the fail condition (R43): they share the stop confirm timer. -/
def State.stopCondition (s : State) : Bool :=
  (decide (s.run.state = .running) && s.belowStop) ||
  (decide (s.run.state = .cranking) && !s.lineActive .crank &&
    (decide (s.shaft .engineSpeed = some .stopped) || s.belowStop))

/-- A confirm timer follows its condition (R43): started when it comes to hold, kept while it holds, cancelled otherwise. -/
def State.confirmTimer (s : State) (holds : Bool) (t : Timer) : Timer :=
  if holds then (match t with
    | some d => some d
    | none => s.startIn (s.run.settings.confirm * Config.ms))
  else none

/-- The confirm conditions are evaluated (R43). -/
def State.evalConfirm (s : State) : State :=
  { s with run := { s.run with runTimer := s.confirmTimer s.runCondition s.run.runTimer
                               stopTimer := s.confirmTimer s.stopCondition s.run.stopTimer } }

/-- The run state changes (R53 steps 1 and 2): the stop confirm timer is cancelled, the conditions are evaluated, and the
transition is published to the Driveline Observer and the Store Controller. -/
def State.enterRun (s : State) (new : RunState) : State :=
  let old := s.run.state
  let s1 := { s with run := { s.run with state := new, stopTimer := none } }.evalConfirm
  ((s1.clutchOnRun old new).ptoUpdate.towOnRun new).noteUse s.inUse

/-- RUNNING to OFF requests a checkpoint when KEY is INACTIVE (R49). -/
def State.keyOffCheckpoint (s : State) : State := if s.lineActive .key then s else s.checkpoint

/-- Entry to BLIND (R51): nothing while already BLIND. -/
def State.enterBlind (s : State) (channel : Option (Fin 10)) : State :=
  if s.run.state = .blind then s else (s.enterRun .blind).raise .sensorFault (.channel channel)

/-- The detector takes a state announcement of ENGINE_SPEED; none stands for unassigned (R48, R51, R52). -/
def State.engineAnnounce (s : State) (st : Option ChannelState) (channel : Fin 10) : State :=
  match st with
  | none => s.enterBlind none
  | some .noisy => s.enterBlind (some channel)
  | some .disabled => s.enterBlind (some channel)
  | some .stopped =>
    if s.run.state = .running then (s.enterRun .off).keyOffCheckpoint
    else if s.run.state = .blind then s.enterRun .off
    else s.evalConfirm
  | some .turning =>
    if s.run.state = .blind then s.enterRun (if s.aboveRun then .running else .off) else s.evalConfirm

/-- A crank measurement is delivered at a CRANK release (R50). -/
def State.deliverCrank (s : State) : State :=
  match s.run.measure with
  | none => s
  | some t =>
    let n := (s.now - t) / Config.tenth
    { s with run := { s.run with measure := none, attempt := min Config.max32 (s.run.attempt + n) } }.take (.crankDuration n)

/-- A crank attempt begins (R44). -/
def State.beginCrank (s : State) : State :=
  ({ s with run := { s.run with measure := some s.now, attempt := 0 } }.enterRun .cranking).take .crank

/-- A filtered transition of CRANK (R44, R47, R50). -/
def State.crankTransition (s : State) (active : Bool) : State :=
  if active then
    if s.run.state = .off ∧ s.lineActive .key = true then s.beginCrank
    else if s.run.state = .cranking then
      { s with run := { s.run with measure := some (s.run.measure.getD s.now) } }.evalConfirm
    else s.evalConfirm
  else s.evalConfirm.deliverCrank

/-- The run confirm timer has expired (R44, R45). -/
def State.runConfirmed (s : State) : State :=
  match s.run.state with
  | .off => ((s.enterRun .running).take .uncrankedStart).raise .uncrankedStart
      (.keyCrank (s.lineActive .key) (s.lineActive .crank))
  | .cranking => (s.enterRun .running).take .crankedStart
  | .running => s
  | .blind => s

/-- The stop confirm timer has expired (R46, R48, R49). -/
def State.stopConfirmed (s : State) : State :=
  match s.run.state with
  | .cranking => ((s.enterRun .off).take .failedCrank).raise .failedStart (.tenths (min Config.max16 s.run.attempt))
  | .running => (s.enterRun .off).keyOffCheckpoint
  | .off => s
  | .blind => s

/-- A channel's state announcement reaches the Run Detector and the Driveline Observer (R34); none stands for unassigned. -/
def State.announce (s : State) (f : ChannelFunction) (st : Option ChannelState) (channel : Fin 10) : State :=
  if f = .engineSpeed then s.engineAnnounce st channel else s.drivelineAnnounce f st

/-- A speed update reaches the two observers (R34). -/
def State.speedUpdate (s : State) (f : ChannelFunction) : State :=
  if f = .engineSpeed then s.evalConfirm else s.drivelineUpdate f

end Sys2Proof.Machine
end

