-- ==== Sys2Proof/Machine/Supervisor.lean ====
section
/-! DEFINITION. The Supervisor's moves outside start-up (10 R168, R169, R178, R179; 09 R163 to R165; 11 R189): dormancy
conditions, wake, HOLDUP entry and return. -/

namespace Sys2Proof.Machine

/-- Every enabled channel is STOPPED (R178): each channel is STOPPED or DISABLED (log 23). -/
def State.allStopped (s : State) : Bool :=
  s.channels.toList.all fun c => decide (c.state = .stopped) || decide (c.state = .disabled)

/-- The dormancy conditions (R178). -/
def State.mayDoze (s : State) : Bool :=
  !s.lineActive .key && (decide (s.run.state = .off) || decide (s.run.state = .blind)) &&
  decide (s.driveline.tow = .notTowing) && s.allStopped && s.fitment.isNone && s.link.intake.isEmpty &&
  s.ctl.records.isEmpty && !s.lineActive .ptoOn

/-- The dormancy timer follows the conditions while the recorder is ACTIVE (R178); it does not run in any other state. -/
def State.supervise (s : State) : State :=
  { s with sup := { s.sup with dormancy :=
      if s.sup.power = .active ∧ s.mayDoze = true then
        (match s.sup.dormancy with
          | some d => some d
          | none => s.startIn (s.sup.delay * Config.second))
      else none } }

/-- The accrual timer and the scrub timer started anew (R81, R161). -/
def State.startActivity (s : State) : State :=
  { s with tally := { s.tally with accrual := s.startIn Config.second }
           ctl := { s.ctl with scrubTimer := s.startIn (s.ctl.timing.step * Config.second) } }

def State.setPower (s : State) (p : PowerState) : State := { s with sup := { s.sup with power := p } }

/-- A wake condition (R179): DRAINING and DORMANT return to ACTIVE; the event is then handled by its own command. -/
def State.wake (s : State) : State :=
  match s.sup.power with
  | .draining => (s.setPower .active).supervise
  | .dormant => (s.startActivity.setPower .active).supervise
  | .starting => s
  | .active => s
  | .holdup => s

/-- A refusal given at HOLDUP entry, or a reply given at arrival: queued when a place is free, otherwise dropped and counted
(R185, R188). -/
def State.replyIfFree (s : State) (r : Reply) : State :=
  if 1 ≤ s.freePlaces then s.reply r
  else { s with link := { s.link with dropped := bump Config.max16 s.link.dropped } }

/-- HOLDUP entry at the link: every queued request is refused POWER_FAIL, in queue order (R189). -/
def State.refuseIntake (s : State) : State :=
  s.link.intake.foldl (fun s r => s.replyIfFree (.refused r.tag r.kind .powerFail))
    { s with link := { s.link with intake := [] } }

/-- Every queued entry is promoted to FLUSH in one act, its order kept (R163). -/
def WriteQueue.promoted (q : WriteQueue) : WriteQueue :=
  { flush := q.lines, commit := [], checkpoint := [], repair := [] }

/-- A line in flight takes pending class FLUSH if it has a pending class or is dirty (R163). -/
def StoreController.promoteFlight (x : StoreController) : StoreController :=
  { x with flight := x.flight.map fun f =>
      if f.pending.isSome || x.dirty.contains f.line then { f with pending := some .flush } else f }

/-- The dirty lines that are neither queued nor in flight, in rising order; line 0 among them where R155 made it dirty (R163, log 34:
R149 has it otherwise). -/
def StoreController.looseDirty (x : StoreController) : List Nat :=
  x.dirty.filter fun n => decide (x.queue.classOf n = none) && decide ((x.flight.map (·.line)) ≠ some n)

/-- The holdup flush begins (R163). -/
def StoreController.beginFlush (x : StoreController) : StoreController :=
  let loose := x.looseDirty
  let y := { x.promoteFlight with flush := .running, queue := x.queue.promoted }
  { y with queue := { y.queue with flush := y.queue.flush ++ loose } }

/-- HOLDUP entry (R163, R169, R189). From DORMANT the accrual timer and the scrub timer are started as at a wake. -/
def State.enterHoldup (s : State) : State :=
  let s1 := if s.sup.power = .dormant then s.startActivity else s
  let s2 := (s1.setPower .holdup).refuseIntake
  { s2 with ctl := s2.ctl.beginFlush }.arbitrate.supervise

/-- POWER_WARN clears in HOLDUP (R165, R169): the mark is cleared, line 5 is queued at COMMIT, the recorder is ACTIVE. -/
def State.leaveHoldup (s : State) : State :=
  let s1 := s.markIf s.sup.mark 5
  let s2 := { s1 with sup := { s1.sup with power := .active, mark := false }, ctl := { s1.ctl with flush := .absent } }
  (s2.queueLines .commit [5]).supervise

end Sys2Proof.Machine
end

