-- ==== Sys2Proof/Machine/Channels.lean ====
section
/-! DEFINITION. Speed channels (02 R24 to R36): what an active edge and a stall do to a channel, and what the channel hands on;
and the commands ACTIVE_EDGE and STALL_TIMER_EXPIRY. -/

namespace Sys2Proof.Machine

/-- The counted edges per revolution (R30). -/
def ChannelConfig.edgesPerRev (c : ChannelConfig) : Nat := if c.edgeMode = .both then 2 * c.teeth else c.teeth

/-- The period from one edge to the next in whole ticks of the base, at most 65,535 (R16, R26; log 2). -/
def Channel.period (c : Channel) (start now : Nat) : Nat :=
  min Config.stallTicks ((now - start) / c.cfg.timeBase.ticks)

/-- The speed of a good period in tenths of rpm (R27): 600,000,000 ÷ (P × T × E), T the tick in µs. -/
def Channel.speedOf (c : Channel) (period : Nat) : Nat :=
  min Config.maxSpeed (600000000 / (period * (4 * c.cfg.timeBase.ticks) * c.cfg.edgesPerRev))

/-- A period of at least the minimum period is good (R26). -/
def Channel.isGood (c : Channel) (period : Nat) : Bool := decide (c.cfg.minPeriod ≤ period)

/-- The tooth counter after an accepted edge, and whether it completed a revolution (R30). -/
def Channel.accept (c : Channel) : Channel × Bool :=
  if c.cfg.edgesPerRev ≤ c.tooth + 1 then ({ c with tooth := 0 }, true) else ({ c with tooth := c.tooth + 1 }, false)

/-- What an edge makes the channel hand on, beside an overspeed entry (R34). -/
structure EdgeReport where
  revolution : Bool
  announced  : Bool
  noisy      : Bool
  update     : Bool
deriving DecidableEq, Repr

/-- Nothing handed on. -/
def EdgeReport.silent : EdgeReport := { revolution := false, announced := false, noisy := false, update := false }

/-- A discarded edge in STOPPED or TURNING (R28, R29, R31): a third short period in a row enters NOISY. -/
def Channel.shortEdge (c : Channel) : Channel × EdgeReport :=
  let c1 := { c with noise := bump Config.max16 c.noise, short := c.short + 1 }
  if 3 ≤ c1.short then
    ({ c1 with state := .noisy, speed := none, short := 0, good := 0, episode := false },
     { EdgeReport.silent with announced := true, noisy := true })
  else (c1, .silent)

/-- A good period's accepted edge, by which the channel is TURNING (R28, R29, R32). -/
def Channel.goodEdge (c : Channel) (period : Nat) : Channel × EdgeReport :=
  let (c1, rev) := c.accept
  ({ c1 with state := .turning, speed := some (c.speedOf period), short := 0, good := 0 },
   { revolution := rev, announced := decide (c.state ≠ .turning), noisy := false, update := true })

/-- An edge in NOISY (R31, R32): discarded and counted as noise, but for the eighth good period in a row. -/
def Channel.noisyEdge (c : Channel) (period : Nat) : Channel × EdgeReport :=
  if c.isGood period then
    if 8 ≤ c.good + 1 then c.goodEdge period
    else ({ c with good := c.good + 1, noise := bump Config.max16 c.noise }, .silent)
  else ({ c with good := 0, noise := bump Config.max16 c.noise }, .silent)

/-- An active edge at an enabled channel (R25, R28, R29, R32): it begins the next period and restarts the stall timer. -/
def Channel.edge (c : Channel) (now : Nat) : Channel × EdgeReport :=
  let c1 := { c with capture := some now }
  match c.capture with
  | none =>
    let (c2, rev) := c1.accept
    (c2, { EdgeReport.silent with revolution := rev })
  | some t =>
    let p := c.period t now
    if c.state = .noisy then c1.noisyEdge p
    else if c.isGood p then c1.goodEdge p
    else c1.shortEdge

/-- An expiry of the stall timer (R33). -/
def Channel.stall (c : Channel) : Channel :=
  let c1 := { c with capture := none, short := 0, good := 0 }
  if c.state = .turning ∨ c.state = .noisy then { c1 with state := .stopped, speed := some 0, episode := false } else c1

/-- When the stall timer expires: 65,535 ticks after the last active edge (R16, R33). -/
def Channel.stallDue (c : Channel) : Timer := c.capture.map fun t => t + Config.stallTicks * c.cfg.timeBase.ticks

/-- An overspeed episode begins (R35): the speed is above the limit and no episode is in progress. -/
def Channel.overspeedBegins (c : Channel) : Bool :=
  decide (0 < c.cfg.overspeed) && !c.episode && decide (c.cfg.overspeed * 10 < c.speed.getD 0)

/-- An overspeed episode ends at a speed update below 95 % of the limit (R35): below limit × 9.5 tenths. -/
def Channel.overspeedEnds (c : Channel) : Bool :=
  c.episode && decide (2 * c.speed.getD 0 < 19 * c.cfg.overspeed)

/-- The overspeed test at a published speed update (R34 step 4, R35). -/
def State.overspeedTest (s : State) (i : Fin 10) : State :=
  let c := s.channels[i]
  if c.overspeedBegins then
    ((s.setChannelRecord i { c with episode := true }).take (.overspeed c.cfg.function)).raise .overspeed (.channel (some i))
  else if c.overspeedEnds then s.setChannelRecord i { c with episode := false }
  else s

/-- A channel hands on what an edge gave, in the order of R34. `published` is false for an edge taken in DORMANT, which
publishes no speed update and makes no overspeed test (R36). -/
def State.handOn (s : State) (i : Fin 10) (r : EdgeReport) (published : Bool) : State :=
  let c := s.channels[i]
  let f := c.cfg.function
  let s1 := if r.revolution then s.revolution f else s
  let s2 := if r.announced then s1.announce f (some c.state) i else s1
  let s3 := if r.noisy then s2.raise .sensorFault (.channel (some i)) else s2
  if r.update && published then (s3.speedUpdate f).overspeedTest i else s3

/-- An active edge on an enabled channel (R25, R36, R179). -/
def State.takeEdge (s : State) (i : Fin 10) : State :=
  let published := decide (s.sup.power ≠ .dormant)
  let s1 := s.wake
  let r := s1.channels[i].edge s1.now
  ((s1.setChannelRecord i r.1).handOn i r.2 published).supervise

/-- ACTIVE_EDGE (R25): a transition of the pulse input, `wait` ticks after the command before it. A DISABLED channel ignores its
input (R24), as every channel does in STARTING (R24), while RESET is held and without supply (R171); a transition that is not
active is ignored. -/
def execActiveEdge (i : Fin 10) (rising : Bool) (wait : Nat) (s : State) : Host.Outcome State Fault Refusal :=
  let s1 := s.pass wait
  let c := s1.channels[i]
  if s1.live && decide (s1.sup.power ≠ .starting) && decide (c.state ≠ .disabled) && c.cfg.edgeMode.isActive rising then
    .next (s1.takeEdge i)
  else .next s1

/-- A channel stalls (R33): a TURNING or NOISY channel announces STOPPED. -/
def State.takeStall (s : State) (i : Fin 10) : State :=
  let c := s.channels[i]
  let s1 := s.setChannelRecord i c.stall
  (if c.state = .turning ∨ c.state = .noisy then s1.announce c.cfg.function (some .stopped) i else s1).supervise

/-- STALL_TIMER_EXPIRY (R33): of a running stall timer of an enabled channel. -/
def execStallTimerExpiry (i : Fin 10) (s : State) : Host.Outcome State Fault Refusal :=
  match s.channels[i].stallDue with
  | some due => if s.channels[i].state = .disabled then .next s else .next ((s.reach due).takeStall i)
  | none => .next s

end Sys2Proof.Machine
end

