-- ==== Sys2Proof/Machine/Sensing.lean ====
section
/-! DEFINITION. Input lines (02 R37 to R40) and the commands of the sensing side's timers: WALL_CLOCK_TICK, LINE_LEVEL_CHANGE,
LINE_FILTER_EXPIRY, the confirm, settle, launch, stale and quiet timers. -/

namespace Sys2Proof.Machine

/-- A filtered transition reaches the blocks that use the line (R38; R44, R59, R62, R68). -/
def State.publishLine (s : State) (l : LineId) (active : Bool) : State :=
  match l with
  | .key => s
  | .crank => s.crankTransition active
  | .clutch => s.evalGear.clutchTransition active
  | .reverse => s.evalGear
  | .ptoOn => s.ptoTransition active

/-- A line's filtered state takes a new value (R37, R38): a wake condition first (R179), then its blocks. -/
def State.lineTransition (s : State) (l : LineId) (active : Bool) : State :=
  let s1 := s.setLineRecord l { s.lines[l.index] with filtered := active, timer := none }
  let s2 := if active && l.wakes then s1.wake else s1
  (s2.publishLine l active).supervise

/-- A change of an input level meets the line's filter (R37). -/
def State.filterLevel (s : State) (l : LineId) : State :=
  let x := s.lines[l.index]
  if x.meaning = x.filtered then s.setLineRecord l { x with timer := none }
  else if x.setting.filter = 0 then s.lineTransition l x.meaning
  else s.setLineRecord l { x with timer := s.startIn (x.setting.filter * Config.ms) }

/-- LINE_LEVEL_CHANGE (R37): `wait` ticks after the command before it. In STARTING, while RESET is held and without supply the
lines are not filtered (R40, R171): only the level is noted. A level that does not change is no event. -/
def execLineLevelChange (l : LineId) (high : Bool) (wait : Nat) (s : State) : Host.Outcome State Fault Refusal :=
  let s1 := s.pass wait
  let x := s1.lines[l.index]
  if x.level = high then .next s1
  else
    let s2 := s1.setLineRecord l { x with level := high }
    if s2.live && decide (s2.sup.power ≠ .starting) then .next (s2.filterLevel l) else .next s2

/-- LINE_FILTER_EXPIRY (R37, R38). -/
def execLineFilterExpiry (l : LineId) (s : State) : Host.Outcome State Fault Refusal :=
  let x := s.lines[l.index]
  match x.timer with
  | some due =>
    if x.meaning = x.filtered then .next ((s.reach due).setLineRecord l { x with timer := none })
    else .next ((s.reach due).lineTransition l x.meaning)
  | none => .next s

/-- WALL_CLOCK_TICK (R18): the value increases by 1 each second and stays at its maximum. -/
def execWallClockTick (s : State) : Host.Outcome State Fault Refusal :=
  match s.clock.tick with
  | some due =>
    let s1 := s.reach due
    .next { s1 with clock := { s1.clock with value := bump Config.max32 s1.clock.value, tick := s1.startIn Config.second } }
  | none => .next s

/-- RUN_CONFIRM_EXPIRY (R44, R45): a running timer whose condition still holds (R43). -/
def execRunConfirmExpiry (s : State) : Host.Outcome State Fault Refusal :=
  match s.run.runTimer with
  | some due =>
    let s1 := s.reach due
    let s2 := { s1 with run := { s1.run with runTimer := none } }
    .next (if s2.runCondition then s2.runConfirmed.supervise else s2)
  | none => .next s

/-- STOP_CONFIRM_EXPIRY (R46, R48). -/
def execStopConfirmExpiry (s : State) : Host.Outcome State Fault Refusal :=
  match s.run.stopTimer with
  | some due =>
    let s1 := s.reach due
    let s2 := { s1 with run := { s1.run with stopTimer := none } }
    .next (if s2.stopCondition then s2.stopConfirmed.supervise else s2)
  | none => .next s

/-- The gear engages (R60): a shift when the last engaged gear is another entry. -/
def State.engageGear (s : State) (g : Nat) : State :=
  let s1 := { s with driveline := { s.driveline with gear := .engaged g, lastGear := some g, settleTimer := none } }
  match s.driveline.lastGear with
  | some h => if h = g then s1 else s1.take .shift
  | none => s1

/-- SETTLE_TIMER_EXPIRY (R60). -/
def execSettleTimerExpiry (s : State) : Host.Outcome State Fault Refusal :=
  match s.driveline.settleTimer, s.driveline.gear with
  | some due, .settling g => .next ((s.reach due).engageGear g)
  | _, _ => .next s

/-- LAUNCH_WINDOW_EXPIRY (R63): LAUNCH_PENDING becomes ENGAGED and no launch is counted. -/
def execLaunchWindowExpiry (s : State) : Host.Outcome State Fault Refusal :=
  match s.driveline.launchTimer, s.driveline.clutch with
  | some due, .launchPending => .next (s.reach due).clutchEngaged
  | _, _ => .next s

/-- STALE_TIMER_EXPIRY (R67): the load becomes STALE, its value is kept, and LOAD_STALE is raised. -/
def execStaleTimerExpiry (s : State) : Host.Outcome State Fault Refusal :=
  match s.driveline.staleTimer with
  | some due =>
    let s1 := s.reach due
    .next ({ s1 with driveline := { s1.driveline with fresh := false, staleTimer := none } }.raise .loadStale
      (.load (s.driveline.load.getD 0)))
  | none => .next s

/-- QUIET_TIMER_EXPIRY (R71): the tow state becomes NOT_TOWING; the counts keep their values. -/
def execQuietTimerExpiry (s : State) : Host.Outcome State Fault Refusal :=
  match s.driveline.quietTimer with
  | some due =>
    let s1 := s.reach due
    .next (({ s1 with driveline := { s1.driveline with quietTimer := none } }.setTow .notTowing).supervise)
  | none => .next s

end Sys2Proof.Machine
end

