-- ==== Sys2Proof/Machine/Accrual.lean ====
section
/-! DEFINITION. The accrual second (05 R81 to R86) and the command ACCRUAL_TIMER_EXPIRY. -/

namespace Sys2Proof.Machine

/-- The weight of a group in a column, 0 to 6: STALE, L0 to L4, TOW (R86). -/
def State.weight (s : State) (g : WearGroup) (col : Fin 7) : Nat :=
  s.tally.weights[g.row.val * 7 + col.val]'(by have := g.row.isLt; have := col.isLt; omega)

/-- The column used: that of the load bin while RUNNING, TOW otherwise (R8, R84). -/
def State.wearColumn (s : State) : Fin 7 := if s.run.state = .running then s.loadBin.castSucc else 6

/-- Wear accrues at a position in this reading (R8, R84). -/
def State.wears (s : State) (p : Position) : Bool :=
  let running := decide (s.run.state = .running)
  match p with
  | .engine => running
  | .gearbox => running || s.isTurning .gearOut
  | .pto => decide (s.driveline.pto = .working)
  | .starter | .clutch | .aux1 | .aux2 => false
  | .transfer | .propFront | .propRear | .diffFront | .diffRear | .hubLF | .hubRF | .hubLR | .hubRR =>
    match p.towedSource with
    | some f => s.isTurning f
    | none => false

/-- The wear quantum of a position (R84). -/
def State.wearAmount (s : State) (p : Position) : Nat :=
  match p.wearGroup with
  | some g => if s.wears p then s.weight g (if p = .pto then s.loadBin.castSucc else s.wearColumn) else 0
  | none => 0

/-- The overspeed episode flag of the channel holding a function (R82). -/
def State.inEpisode (s : State) (f : ChannelFunction) : Bool :=
  match s.channelOf f with
  | some i => s.channels[i].episode
  | none => false

/-- The amount and histogram entry that one accrual second gives a position as one quantity of its profile (R83): 0 where the
condition does not hold. -/
def State.secondAmount (s : State) (p : Position) (q : Quantity) : Nat × Nat :=
  let running := decide (s.run.state = .running)
  let on (b : Bool) : Nat × Nat := (b.toNat, 0)
  match q with
  | .runSeconds => on running
  | .loadSeconds => (running.toNat, s.loadBin.val)
  | .blindSeconds => on (decide (s.run.state = .blind) && s.lineActive .key)
  | .wearUnits => (s.wearAmount p, 0)
  | .gearSeconds => match s.driveline.gear with
    | .engaged g => (1, g)
    | _ => (0, 0)
  | .slipUnits => (s.slipAmount, 0)
  | .ptoSeconds => on (decide (s.driveline.pto = .working))
  | .overspeedSeconds => on (s.inEpisode (if p = .engine then .engineSpeed else .gearIn))
  | .towSeconds => on (decide (s.driveline.tow = .towing) && (match p.towedSource with
      | some f => s.isTurning f
      | none => false))
  | .starts | .uncrankedStarts | .cranks | .failedCranks | .crankTenths | .revolutions | .towedRevolutions
  | .overspeedEvents | .launches | .shifts | .ptoEngagements => (0, 0)

/-- The quanta of one accrual second, formed from one reading, in position order and then quantity order (R82, R83, R85). -/
def State.secondQuanta (s : State) : List Quantum :=
  Position.all.flatMap fun p => p.profile.map fun q =>
    { position := p, quantity := q, entry := (s.secondAmount p q).2, amount := (s.secondAmount p q).1 }

/-- ACCRUAL_TIMER_EXPIRY (R81, R83): the timer is started again at once, then the quanta are formed and routed. -/
def execAccrualTimerExpiry (s : State) : Host.Outcome State Fault Refusal :=
  match s.tally.accrual with
  | some due =>
    let s1 := s.reach due
    let s2 := { s1 with tally := { s1.tally with accrual := s1.startIn Config.second } }
    .next (s2.routeAll s2.secondQuanta)
  | none => .next s

end Sys2Proof.Machine
end

