-- ==== Sys2Proof/Machine/Link.lean ====
section
/-! DEFINITION. The Link Port (11 R181 to R189; 12 R198): arrivals, the executor, replies as bytes, the receive framer, and the
commands UNKNOWN_KIND, FRAME_ARRIVAL, CHARACTER_RECEIVED, GAP_TIMER_EXPIRY, BREAK and REPLY_SENT. -/

namespace Sys2Proof.Machine

/-! ## Replies as bytes (R198) -/

/-- The body of a reply's frame (R198). -/
def Reply.body : Reply → List Byte
  | .done tag body => [0x80, tag] ++ body
  | .refused tag kind reason => [0x81, tag, kind] ++ leBytes 1 reason.code
  | .retry tag kind => [0x82, tag, kind]
  | .deferred tag body => [0x83, tag] ++ body
  | .finished tag kind result => [0x84, tag, kind] ++ leBytes 1 result.code

/-- The bytes sent on TXD for a reply (R181, R198). -/
def Reply.frame (r : Reply) : List Byte := frameBytes r.body

/-! ## Arrival (R185) -/

/-- A request joins the intake queue as its newest. -/
def State.join (s : State) (r : Request) : State :=
  { s with link := { s.link with intake := s.link.intake ++ [r] } }

/-- A well-formed frame arrives (R185): a wake condition first, then the power state and the fill of the intake queue. -/
def State.arrive (s : State) (r : Request) : State :=
  let s1 := s.wake
  if s1.sup.power = .holdup then s1.replyIfFree (.refused r.tag r.kind .powerFail)
  else if s1.link.intake.length < Config.intakePlaces then (s1.join r).supervise
  else s1.replyIfFree (.retry r.tag r.kind)

/-! ## The executor (R186, R188) -/

/-- The deferred kinds (R197). -/
def deferredKinds : List Byte :=
  [0x01, 0x02, 0x04, 0x05, 0x06, 0x09, 0x0B, 0x0C, 0x0F, 0x14, 0x16, 0x17, 0x1A, 0x1B, 0x1D, 0x1E, 0x22]

/-- The executor takes the head request (R186): at least 2 free places (R188), and fewer than 4 records for a deferred kind. -/
def State.canTake (s : State) (r : Request) : Bool :=
  decide (s.link.intake.head? = some r) && decide (2 ≤ s.freePlaces) &&
  (!deferredKinds.contains r.kind || decide (s.ctl.records.length < Config.recordPlaces))

/-- What the checks and the execution of a taken request give (R186): the answer and the state after. -/
inductive Answer
  | refused (reason : Reason) (s : State)
  | done (body : List Byte) (s : State)
  | deferred (body : List Byte) (lines : List Nat) (s : State)

/-- The answer is given (R186): REFUSED, DONE, or DEFERRED together with the deferred record and its lines. -/
def Answer.give (r : Request) : Answer → State
  | .refused reason s => s.reply (.refused r.tag r.kind reason)
  | .done body s => s.reply (.done r.tag body)
  | .deferred body lines s => (s.reply (.deferred r.tag body)).defer r.tag r.kind lines

/-- The meaning of a request: the checks of R186 from the payload length on, and the execution. -/
abbrev Meaning := List Byte → State → Answer

/-- The payload length check (R186). -/
def sized (len : Nat) (m : Meaning) : Meaning := fun p s => if p.length = len then m p s else .refused .badLength s

/-- In STARTING only IDENTIFY and READ_STATUS are executed (R186). -/
def State.startingRefuses (s : State) (r : Request) : Bool :=
  decide (s.sup.power = .starting) && r.kind != 0x1F && r.kind != 0x20

/-- The checks of a taken request from the second on (R186). -/
def State.judge (s : State) (r : Request) (m : Meaning) : Answer :=
  if s.startingRefuses r then .refused .starting s else m r.payload s

/-- The head request leaves the queue. -/
def State.dropHead (s : State) : State := { s with link := { s.link with intake := s.link.intake.tail } }

/-- The executor takes the head request, answers it, and the dormancy conditions are looked at again (R186, R178). -/
def State.takeHead (s : State) (r : Request) (m : Meaning) : State := ((s.dropHead.judge r m).give r).supervise

/-- The request is at the head of the intake queue after this: it stands there already, or it arrives (log 1). -/
def State.accept (s : State) (r : Request) : State := if s.link.intake.head? = some r then s else s.arrive r

/-- A request command (log 1): the request, unless it is the head request already, arrives; when it is the head and the
executor can take it, it is executed. Nothing is received or taken while RESET is held or without supply (R189). -/
def State.serve (s : State) (r : Request) (m : Meaning) : State :=
  if s.live then
    if (s.accept r).canTake r then (s.accept r).takeHead r m else s.accept r
  else s

/-- UNKNOWN_KIND (R186): the first check refuses the request, in STARTING too. -/
def State.serveUnknown (s : State) (r : Request) : State :=
  if s.live then
    if (s.accept r).canTake r then ((Answer.refused .unknownKind (s.accept r).dropHead).give r).supervise else s.accept r
  else s

/-- UNKNOWN_KIND; a row that names a request kind is no such request (log 16). -/
def execUnknownKind (kind tag : Byte) (payload : List Byte) (s : State) : Host.Outcome State Fault Refusal :=
  .next (if 1 ≤ kind.toNat ∧ kind.toNat ≤ 0x22 then s else s.serveUnknown { kind := kind, tag := tag, payload := payload })

/-! ## The receive framer (R182, R183) -/

/-- A frame error is counted (R183). -/
def State.frameError (s : State) : State :=
  { s with link := { s.link with frameErrors := bump Config.max16 s.link.frameErrors } }

/-- The framer goes to HUNT with no partial frame; the gap timer does not run there (R183). -/
def State.hunt (s : State) : State := { s with link := { s.link with framer := .hunt, gapTimer := none } }

/-- The framer is in a state other than HUNT, and the byte restarts the gap timer (R182). -/
def State.framing (s : State) (f : Framer) : State :=
  { s with link := { s.link with framer := f, gapTimer := s.startIn (Config.gapMs * Config.ms) } }

/-- A request from the body of a well-formed frame: kind code, tag, payload (R181). -/
def requestOf (body : List Byte) : Option Request :=
  match body with
  | kind :: tag :: payload => some { kind := kind, tag := tag, payload := payload }
  | _ => none

/-- A frame received whole is judged, and the framer is in HUNT (R182): its body has 2 to 250 bytes, and its CRC matches. -/
def State.judgeFrame (s : State) (body : List Byte) (crc : BitVec 16) : State :=
  let s1 := s.hunt
  if body.length ≤ 250 ∧ frameCrc body = crc then
    match requestOf body with
    | some r => s1.arrive r
    | none => s1.frameError
  else s1.frameError

/-- The partial frame is discarded and a frame error counted (R182, R183). -/
def State.discardFrame (s : State) : State := s.hunt.frameError

/-- FRAME_ARRIVAL (R185). -/
def execFrameArrival (body : List Byte) (crc : BitVec 16) (s : State) : Host.Outcome State Fault Refusal :=
  .next (if s.live then s.judgeFrame body crc else s)

/-- One byte at the framer (R182). -/
def State.takeByte (s : State) (b : Byte) : State :=
  match s.link.framer with
  | .hunt => if b = 0xC3 then s.framing .length else s
  | .length => if 2 ≤ b.toNat ∧ b.toNat ≤ 250 then s.framing (.body b.toNat []) else s.discardFrame
  | .body len got =>
    if (got ++ [b]).length < len then s.framing (.body len (got ++ [b])) else s.framing (.check (got ++ [b]) none)
  | .check body none => s.framing (.check body (some b))
  | .check body (some low) => s.judgeFrame body (b ++ low)

/-- A character whose stop bit is low is not taken as a byte (R182). -/
def State.badCharacter (s : State) : State := if s.link.framer = .hunt then s else s.discardFrame

/-- CHARACTER_RECEIVED (R182). -/
def execCharacterReceived (byte : Byte) (stop : Bool) (s : State) : Host.Outcome State Fault Refusal :=
  .next (if s.live then (if stop then s.takeByte byte else s.badCharacter) else s)

/-- GAP_TIMER_EXPIRY (R183). -/
def execGapTimerExpiry (s : State) : Host.Outcome State Fault Refusal :=
  match s.link.gapTimer with
  | some due => .next (s.reach due).discardFrame
  | none => .next s

/-- The Link Port at a BREAK (R184): the partial frame, the intake queue and the replies not yet being sent go. -/
def LinkPort.afterBreak (x : LinkPort) (sending : Bool) : LinkPort :=
  { x with framer := .hunt, gapTimer := none, intake := [], replies := if sending then x.replies.take 1 else [],
           breaks := bump Config.max16 x.breaks }

/-- The entry with its silent mark set (R187). -/
def DeferredRecord.silenced (r : DeferredRecord) : DeferredRecord := { r with silent := true }

/-- BREAK (R184): and every open deferred entry is marked silent. -/
def State.takeBreak (s : State) (sending : Bool) : State :=
  { s with link := s.link.afterBreak sending
           ctl := { s.ctl with records := s.ctl.records.map DeferredRecord.silenced } }.supervise

def execBreakReceived (sending : Bool) (s : State) : Host.Outcome State Fault Refusal :=
  .next (if s.live then s.takeBreak sending else s)

/-- REPLY_SENT (R188): the reply at the head frees its place; nothing is sent while RESET is held. -/
def execReplySent (s : State) : Host.Outcome State Fault Refusal :=
  .next (if s.live then { s with link := { s.link with replies := s.link.replies.tail } } else s)

end Sys2Proof.Machine
end

