-- ==== Sys2Proof/Machine/Operands.lean ====
section
/-! DEFINITION. The operands of the requests: settings as the payloads carry them (12 R197), and the values their chapters
allow, which start-up tests too (10 R172). -/

namespace Sys2Proof.Machine

/-- A value lies in a range, both ends included. -/
def within (lo hi n : Nat) : Bool := decide (lo ≤ n) && decide (n ≤ hi)

/-- A flag byte of 0 or 1 (R197). -/
def flagOfCode (n : Nat) : Option Bool := [false, true][n]?

/-- Each value of a list, if each is given. -/
def allSome {α : Type} : List (Option α) → Option (List α)
  | [] => some []
  | some x :: xs => (allSome xs).map (x :: ·)
  | none :: _ => none

/-! ## Channels (R21, R22) -/

/-- The values of R21. -/
def ChannelConfig.ok (c : ChannelConfig) : Bool :=
  within 1 1023 c.teeth && within 1 65535 c.minPeriod && (decide (c.overspeed = 0) || within 100 20000 c.overspeed)

/-- The settings of a SET_CHANNEL payload, if each is within R21. -/
def readChannelConfig (p : List Byte) : Option ChannelConfig :=
  match ChannelFunction.ofCode (field p 1 1), EdgeMode.ofCode (field p 4 1), TimeBase.ofCode (field p 5 1),
      flagOfCode (field p 10 1) with
  | some f, some m, some b, some e =>
    let c : ChannelConfig :=
      { function := f, teeth := field p 2 2, edgeMode := m, timeBase := b, minPeriod := field p 6 2, overspeed := field p 8 2,
        enabled := e }
    if c.ok then some c else none
  | _, _, _, _ => none

/-- No function other than NONE stands twice (R21). -/
def distinctFunctions : List ChannelFunction → Bool
  | [] => true
  | f :: fs => (decide (f = .unassigned) || !fs.contains f) && distinctFunctions fs

/-- The channel settings of line 1 are valid (R172). -/
def channelsOk (v : Vector ChannelConfig 10) : Bool :=
  v.toList.all ChannelConfig.ok && distinctFunctions (v.toList.map (·.function))

/-! ## Lines, engine, gear table, driveline (R39, R42, R55, R56, R73) -/

/-- The setting of line k of a SET_LINES payload. -/
def readLineSetting (p : List Byte) (k : Nat) : Option LineSetting :=
  (polarityOfCode (field p (2 * k + 1) 1)).map fun a => { filter := field p (2 * k) 1, activeHigh := a }

/-- The five settings of a SET_LINES payload. -/
def readLines (p : List Byte) : Option (Vector LineSetting 5) :=
  match readLineSetting p 0, readLineSetting p 1, readLineSetting p 2, readLineSetting p 3, readLineSetting p 4 with
  | some a, some b, some c, some d, some e => some #v[a, b, c, d, e]
  | _, _, _, _, _ => none

/-- The ranges of R42. -/
def EngineSettings.ok (e : EngineSettings) : Bool :=
  within 100 3000 e.runThreshold && decide (50 ≤ e.stopThreshold) && decide (e.stopThreshold + 50 ≤ e.runThreshold) &&
  within 100 5000 e.confirm

/-- The settings of a SET_ENGINE_THRESHOLDS payload. -/
def readEngine (p : List Byte) : EngineSettings :=
  { runThreshold := field p 0 2, stopThreshold := field p 2 2, confirm := field p 4 2 }

/-- The values of an entry (R55). -/
def GearEntry.ok (e : GearEntry) : Bool := within 500 20000 e.ratio && within 5 200 e.tolerance

/-- Entry k of a SET_GEAR_TABLE payload. -/
def readGearEntry (p : List Byte) (k : Nat) : Option GearEntry :=
  match Direction.ofCode (field p (3 + 4 * k + 3) 1) with
  | some d =>
    let e : GearEntry := { ratio := field p (3 + 4 * k) 2, tolerance := field p (3 + 4 * k + 2) 1, direction := d }
    if e.ok then some e else none
  | none => none

/-- The table of a SET_GEAR_TABLE payload, if its values are within R55. -/
def readGearTable (p : List Byte) : Option GearTable :=
  if field p 2 1 ≤ 12 ∧ within 50 2000 (field p 0 2) = true then
    (allSome ((List.range (field p 2 1)).map (readGearEntry p))).map fun es => { settle := field p 0 2, entries := es }
  else none

/-- Two windows of one direction share a value (R56). -/
def GearEntry.overlaps (a b : GearEntry) : Bool :=
  decide (a.direction = b.direction) && decide (a.lower ≤ b.upper) && decide (b.lower ≤ a.upper)

/-- Two entries of the list overlap (R56). -/
def anyOverlap : List GearEntry → Bool
  | [] => false
  | e :: es => es.any e.overlaps || anyOverlap es

/-- The Gear Table of line 2 is valid (R172). -/
def GearTable.ok (t : GearTable) : Bool :=
  within 50 2000 t.settle && decide (t.entries.length ≤ 12) && t.entries.all GearEntry.ok && !anyOverlap t.entries

/-- The ranges of R73. -/
def DrivelineSettings.ok (d : DrivelineSettings) : Bool :=
  within 5 200 d.launchThreshold && within 1 10 d.launchWindow && within 10 1000 d.slipTolerance &&
  within 500 10000 d.staleTime && within 0 100 d.defaultLoad && within 5 500 d.towThreshold && within 2 60 d.quietTime

/-- The settings of a SET_DRIVELINE payload. -/
def readDriveline (p : List Byte) : DrivelineSettings :=
  { launchThreshold := field p 0 2, launchWindow := field p 2 1, slipTolerance := field p 3 2, staleTime := field p 5 2,
    defaultLoad := field p 7 1, towThreshold := field p 8 2, quietTime := field p 10 1 }

/-! ## Store timing, dormancy delay, wear weights, notice levels (R160, R178, R86, R193) -/

/-- The ranges of R160. -/
def StoreTiming.ok (t : StoreTiming) : Bool := within 10 600 t.interval && within 1 60 t.step

/-- The range of the dormancy delay (R178). -/
def delayOk (d : Nat) : Bool := within 30 3600 d

/-- The settings of line 3 are valid (R172). -/
def SettingsLine.ok (x : SettingsLine) : Bool :=
  x.lines.toList.all (fun l => decide (l.filter ≤ 255)) && x.engine.ok && x.driveline.ok && x.timing.ok && delayOk x.delay

/-- The weights of a SET_WEAR_WEIGHTS payload (R87). -/
def readWeights (p : List Byte) : Vector Nat 28 := tabulate 28 fun i => field p (2 * i.val) 2

/-- Weights are 0 to 400 (R86). -/
def weightsOk (v : Vector Nat 28) : Bool := v.toList.all fun w => decide (w ≤ 400)

/-- The levels and the threshold of a SET_NOTICE_LEVELS payload (R193). -/
def readNotices (p : List Byte) : NoticeSettings :=
  { levels := tabulate 14 fun i => field p i.val 1, attention := field p 14 1 }

/-- Levels are 0 to 7 and the threshold 1 to 7 (R193). -/
def NoticeSettings.ok (x : NoticeSettings) : Bool := x.levels.toList.all (fun l => decide (l ≤ 7)) && within 1 7 x.attention

/-! ## Tally items (R104, R199) -/

/-- One tally item: 9 bytes (R199). -/
def itemBytes (q : Quantity) (index : Nat) (saturated : Bool) (value : Option Nat) : List Byte :=
  leBytes 1 q.code ++ leBytes 1 index ++ leBytes 1 (saturated.toNat + 2 * (decide (value = none)).toNat) ++
  leBytes 6 (value.getD 0)

/-- The items of a histogram, one for each entry, each with the one mark (R104). -/
def Hist.items (x : Hist) : List (List Byte) :=
  x.values.zipIdx.map fun e => itemBytes x.quantity e.2 x.saturated e.1

/-- The items of a tally in quantity order (R104). -/
def Tally.items (t : Tally) : List (List Byte) :=
  Quantity.all.flatMap fun q =>
    (t.scalars.filter fun x => decide (x.quantity = q)).map (fun x => itemBytes q 0 x.saturated x.value) ++
    (t.hists.filter fun x => decide (x.quantity = q)).flatMap Hist.items

/-- The items a page carries from a first item on: at most 16 (R105). -/
def pageOf (items : List (List Byte)) (first : Nat) : List (List Byte) := (items.drop first).take 16

/-- Item count, first item, items carried and MORE, then the items carried (R105, R199). -/
def pageBytes (items : List (List Byte)) (first : Nat) : List Byte :=
  leBytes 1 items.length ++ leBytes 1 first ++ leBytes 1 (pageOf items first).length ++
  leBytes 1 (decide (first + 16 < items.length)).toNat ++ (pageOf items first).flatten

end Sys2Proof.Machine
end

