-- ==== Sys2Proof/Machine/Settings.lean ====
section
/-! DEFINITION. The requests of the sensing side: SET_CHANNEL, SET_LINES, SET_TIME (02), SET_ENGINE_THRESHOLDS (03),
SET_GEAR_TABLE, SET_DRIVELINE, LOAD_SAMPLE and READ_LIVE (04). -/

namespace Sys2Proof.Machine

/-- A deferred request with an empty body whose change is in the configuration line n, marked dirty and queued (R149). -/
def State.configured (s : State) (n : Nat) : Answer := .deferred [] [n] (s.markDirty n)

/-! ## SET_CHANNEL (R22, R23) -/

/-- The state a channel takes from its settings (R23, R24). -/
def ChannelConfig.startState (c : ChannelConfig) : ChannelState :=
  if c.enabled = true ∧ c.function ≠ .unassigned then .stopped else .disabled

/-- A channel whose measurement starts afresh under new settings; the noise count is kept (R23). -/
def Channel.restart (c : Channel) (cfg : ChannelConfig) : Channel :=
  { Channel.rest cfg with state := cfg.startState, noise := c.noise }

/-- Another channel holds the function (R22). -/
def State.functionTaken (s : State) (i : Fin 10) (f : ChannelFunction) : Bool :=
  decide (f ≠ .unassigned) && (List.finRange 10).any fun j => decide (j ≠ i) && decide (s.channels[j].cfg.function = f)

/-- The announcement of a function given up (R23). -/
def State.announceGivenUp (s : State) (old new : ChannelFunction) (i : Fin 10) : State :=
  if old = new ∨ old = .unassigned then s else s.announce old none i

/-- The announcement of the function held now (R23). -/
def State.announceHeld (s : State) (f : ChannelFunction) (i : Fin 10) : State :=
  if f = .unassigned then s else s.announce f (some s.channels[i].state) i

/-- A channel takes new settings and announces the change (R23). -/
def State.setChannel (s : State) (i : Fin 10) (cfg : ChannelConfig) : State :=
  let old := s.channels[i].cfg.function
  ((s.setChannelRecord i (s.channels[i].restart cfg)).announceGivenUp old cfg.function i).announceHeld cfg.function i

/-- SET_CHANNEL of a channel with settings within R21 (R22, R23). -/
def State.setChannelChecked (s : State) (i : Fin 10) (cfg : ChannelConfig) : Answer :=
  if s.functionTaken i cfg.function then .refused .functionTaken s
  else if s.channels[i].state = .turning ∨ s.channels[i].state = .noisy then .refused .channelActive s
  else (s.setChannel i cfg).configured 1

/-- SET_CHANNEL (R22, R23). -/
def setChannelMeaning : Meaning := sized 11 fun p s =>
  if h : field p 0 1 < 10 then
    match readChannelConfig p with
    | some cfg => s.setChannelChecked ⟨field p 0 1, h⟩ cfg
    | none => .refused .outOfRange s
  else .refused .outOfRange s

def execSetChannel (tag : Byte) (payload : List Byte) (s : State) : Host.Outcome State Fault Refusal :=
  .next (s.serve { kind := 0x01, tag := tag, payload := payload } setChannelMeaning)

/-! ## SET_LINES (R39) -/

/-- A line takes a new setting: its timer is cancelled, and started anew where the level now means another state (R39). -/
def InputLine.reset (x : InputLine) (setting : LineSetting) (now : Nat) : InputLine :=
  let y := { x with setting := setting, timer := none }
  if y.meaning = y.filtered then y else { y with timer := some (now + setting.filter * Config.ms) }

/-- All five lines take their new settings at once (R39). -/
def State.setLines (s : State) (v : Vector LineSetting 5) : State :=
  { s with lines := tabulate 5 fun i => s.lines[i].reset v[i] s.now }

/-- SET_LINES (R39). -/
def setLinesMeaning : Meaning := sized 10 fun p s =>
  match readLines p with
  | some v => (s.setLines v).configured 3
  | none => .refused .outOfRange s

def execSetLines (tag : Byte) (payload : List Byte) (s : State) : Host.Outcome State Fault Refusal :=
  .next (s.serve { kind := 0x02, tag := tag, payload := payload } setLinesMeaning)

/-! ## SET_TIME (R19) -/

/-- The clock is SET to a value, and a pending CLOCK_UNSET is removed (R19). -/
def State.setTime (s : State) (value : Nat) : State :=
  { s with clock := { value := value, isSet := true, tick := s.startIn Config.second } }.dropNotice .clockUnset

/-- SET_TIME (R19). -/
def setTimeMeaning : Meaning := sized 4 fun p s => .done [] (s.setTime (field p 0 4))

def execSetTime (tag : Byte) (payload : List Byte) (s : State) : Host.Outcome State Fault Refusal :=
  .next (s.serve { kind := 0x03, tag := tag, payload := payload } setTimeMeaning)

/-! ## SET_ENGINE_THRESHOLDS (R42) -/

/-- The settings are replaced, the confirm timers cancelled and the conditions evaluated anew (R42). -/
def State.setEngine (s : State) (e : EngineSettings) : State :=
  { s with run := { s.run with settings := e, runTimer := none, stopTimer := none } }.evalConfirm

/-- SET_ENGINE_THRESHOLDS (R42). -/
def setEngineMeaning : Meaning := sized 6 fun p s =>
  if (readEngine p).ok then (s.setEngine (readEngine p)).configured 3 else .refused .outOfRange s

def execSetEngineThresholds (tag : Byte) (payload : List Byte) (s : State) : Host.Outcome State Fault Refusal :=
  .next (s.serve { kind := 0x04, tag := tag, payload := payload } setEngineMeaning)

/-! ## SET_GEAR_TABLE (R56, R57, R128) -/

/-- The slot FITTED at GEARBOX. -/
def State.gearSlot (s : State) : Option (Fin 20) :=
  match s.table.map[Position.gearbox.index] with
  | some i => if s.table.slots[i].ident.state = .fitted then some i else none
  | none => none

/-- A slot record resized to n Gear Table entries (R4). -/
def Slot.resize (x : Slot) (n : Nat) : Slot := { x with tally := x.tally.resize n }

/-- A staged list without the GEAR_SECONDS entries of index n and above (R128). -/
def Staged.resize (x : Staged) (n : Nat) : Staged :=
  { x with carried := x.carried.filter fun c => decide (c.quantity ≠ .gearSeconds) || decide (c.index < n) }

/-- A GEARBOX context resized (R57, R128). -/
def Context.resize (c : Context) (n : Nat) : Context :=
  if c.position = .gearbox then
    { c with interim := c.interim.resize n, outgoing := c.outgoing.map fun o => (o.1, o.2.resize n),
             staged := c.staged.map fun x => x.resize n }
  else c

/-- The GEARBOX FITTED slot resized, its histogram line dirty (R57). -/
def State.resizeSlot (s : State) (n : Nat) : State :=
  match s.gearSlot with
  | some i => (s.setSlot i (s.table.slots[i].resize n)).markDirty (histLine i)
  | none => s

/-- Every holder of GEAR_SECONDS takes a new entry count (R4, R57, R128). -/
def State.resizeGears (s : State) (n : Nat) : State :=
  let s1 := s.resizeSlot n
  let s2 := (s1.setOrphan .gearbox (s1.tally.orphans[Position.gearbox.index].resize n)).markDirty (orphanLine .gearbox)
  { s2 with fitment := s2.fitment.map fun c => c.resize n }

/-- The lines a changed entry count adds to the request's own (R57). -/
def State.gearLines (s : State) : List Nat :=
  (match s.gearSlot with
    | some i => [histLine i]
    | none => []) ++ [orphanLine .gearbox]

/-- The table is replaced and the gear state starts afresh (R57). -/
def State.newTable (s : State) (t : GearTable) : State :=
  { s with driveline := { s.driveline with table := t, gear := .idle, settleTimer := none, lastGear := none } }

/-- A Gear Table is taken (R57). -/
def State.setGearTable (s : State) (t : GearTable) : Answer :=
  let s1 := (s.newTable t).markDirty 2
  if t.entries.length = s.gearCount then .deferred [] [2] s1
  else .deferred [] (2 :: s.gearLines) (s1.resizeGears t.entries.length)

/-- SET_GEAR_TABLE after the length check (R56). -/
def gearTableChecked : Meaning := fun p s =>
  match readGearTable p with
  | some t => if anyOverlap t.entries then .refused .overlap s else s.setGearTable t
  | none => .refused .outOfRange s

/-- SET_GEAR_TABLE (R56): its length follows its entry count (R197). -/
def setGearTableMeaning : Meaning := fun p s =>
  if p.length = 3 + 4 * field p 2 1 then gearTableChecked p s else .refused .badLength s

def execSetGearTable (tag : Byte) (payload : List Byte) (s : State) : Host.Outcome State Fault Refusal :=
  .next (s.serve { kind := 0x05, tag := tag, payload := payload } setGearTableMeaning)

/-! ## SET_DRIVELINE (R73) -/

/-- The seven settings are replaced (R73). -/
def State.setDriveline (s : State) (d : DrivelineSettings) : State :=
  { s with driveline := { s.driveline with settings := d } }

/-- SET_DRIVELINE (R73). -/
def setDrivelineMeaning : Meaning := sized 11 fun p s =>
  if (readDriveline p).ok then (s.setDriveline (readDriveline p)).configured 3 else .refused .outOfRange s

def execSetDriveline (tag : Byte) (payload : List Byte) (s : State) : Host.Outcome State Fault Refusal :=
  .next (s.serve { kind := 0x06, tag := tag, payload := payload } setDrivelineMeaning)

/-! ## LOAD_SAMPLE (R66) -/

/-- A load of 0 to 100 % is taken (R66). -/
def State.takeLoad (s : State) (v : Nat) : State :=
  { s with driveline := { s.driveline with
      fresh := true, load := some v, staleTimer := s.startIn (s.driveline.settings.staleTime * Config.ms) } }

/-- LOAD_SAMPLE (R66). -/
def loadSampleMeaning : Meaning := sized 1 fun p s =>
  if field p 0 1 ≤ 100 then .done [] (s.takeLoad (field p 0 1)) else .refused .outOfRange s

def execLoadSample (tag : Byte) (payload : List Byte) (s : State) : Host.Outcome State Fault Refusal :=
  .next (s.serve { kind := 0x07, tag := tag, payload := payload } loadSampleMeaning)

/-! ## READ_LIVE (R74, R199) -/

/-- One channel of the live report (R199); the speed number of a NOISY channel is a free value (log 8). -/
def State.liveChannel (s : State) (i : Fin 10) : List Byte :=
  let c := s.channels[i]
  leBytes 1 c.state.code ++
  leBytes 4 (match c.speed with
    | some v => v
    | none => (Config.noisySpeed (s.free + i.val)).toNat) ++
  leBytes 1 (decide (c.speed = none)).toNat ++ leBytes 2 c.noise

/-- The highest of the six tow counts (R74). -/
def Driveline.highestTow (d : Driveline) : Nat := d.towCounts.toList.foldl max 0

/-- The part of the live report after the channels (R199). -/
def State.liveTail (s : State) : List Byte :=
  let d := s.driveline
  leBytes 1 s.run.state.code ++ leBytes 1 d.gear.code ++ optCode d.gear.entry ++ optCode d.lastGear ++
  leBytes 1 d.clutch.code ++ leBytes 1 (!d.fresh).toNat ++ optCode d.load ++ leBytes 1 d.tow.code ++
  leBytes 2 d.highestTow ++ leBytes 1 d.pto.code ++ leBytes 4 s.clock.value ++ leBytes 1 s.clock.isSet.toNat

/-- The live report (R74, R199). -/
def State.liveReport (s : State) : List Byte := (List.finRange 10).flatMap s.liveChannel ++ s.liveTail

/-- READ_LIVE (R74); it uses up ten free values (log 8). -/
def readLiveMeaning : Meaning := sized 0 fun _ s => .done s.liveReport { s with free := s.free + 10 }

def execReadLive (tag : Byte) (payload : List Byte) (s : State) : Host.Outcome State Fault Refusal :=
  .next (s.serve { kind := 0x08, tag := tag, payload := payload } readLiveMeaning)

end Sys2Proof.Machine
end

