-- ==== Sys2Proof/Machine/TallyRequests.lean ====
section
/-! DEFINITION. The Tally Engine's requests (05): SET_WEAR_WEIGHTS, READ_ORPHANS, CLEAR_ORPHANS, REARM_SERVICE. -/

namespace Sys2Proof.Machine

/-- The table is replaced (R87). -/
def State.setWeights (s : State) (v : Vector Nat 28) : State := { s with tally := { s.tally with weights := v } }

/-- SET_WEAR_WEIGHTS (R87). -/
def setWeightsMeaning : Meaning := sized 56 fun p s =>
  if weightsOk (readWeights p) then (s.setWeights (readWeights p)).configured 4 else .refused .outOfRange s

def execSetWearWeights (tag : Byte) (payload : List Byte) (s : State) : Host.Outcome State Fault Refusal :=
  .next (s.serve { kind := 0x09, tag := tag, payload := payload } setWeightsMeaning)

/-- A request that carries one position (R89, R90, R107). -/
def atPosition (m : Position → State → Answer) : Meaning := sized 1 fun p s =>
  match Position.ofCode (field p 0 1) with
  | some x => m x s
  | none => .refused .outOfRange s

/-- The reply of READ_ORPHANS: position, item count and every item (R198). -/
def State.orphanReport (s : State) (p : Position) : List Byte :=
  let items := s.tally.orphans[p.index].items
  leBytes 1 p.code ++ leBytes 1 items.length ++ items.flatten

/-- READ_ORPHANS (R89). -/
def readOrphansMeaning : Meaning := atPosition fun p s => .done (s.orphanReport p) s

def execReadOrphans (tag : Byte) (payload : List Byte) (s : State) : Host.Outcome State Fault Refusal :=
  .next (s.serve { kind := 0x0A, tag := tag, payload := payload } readOrphansMeaning)

/-- A scalar at 0 with its mark clear. -/
def Scalar.cleared (x : Scalar) : Scalar := { x with value := some 0, saturated := false }

/-- A histogram with every entry 0 and its mark clear. -/
def Hist.cleared (x : Hist) : Hist := { x with values := x.values.map (fun _ => some 0), saturated := false }

/-- A tally with every value, each histogram entry included, 0 and every mark clear (R90). -/
def Tally.cleared (t : Tally) : Tally :=
  { scalars := t.scalars.map Scalar.cleared, hists := t.hists.map Hist.cleared }

/-- An orphan tally is cleared and its line marked dirty (R90). -/
def State.clearOrphan (s : State) (p : Position) : State :=
  (s.setOrphan p s.tally.orphans[p.index].cleared).markDirty (orphanLine p)

/-- CLEAR_ORPHANS (R90). -/
def clearOrphansMeaning : Meaning := atPosition fun p s => .deferred [] [orphanLine p] (s.clearOrphan p)

def execClearOrphans (tag : Byte) (payload : List Byte) (s : State) : Host.Outcome State Fault Refusal :=
  .next (s.serve { kind := 0x0B, tag := tag, payload := payload } clearOrphansMeaning)

/-- The slot is the outgoing slot of the open fitment (R92, R104). -/
def State.isOutgoing (s : State) (i : Fin 20) : Bool :=
  match s.fitment with
  | some c => decide (c.outgoing.map Prod.fst = some i)
  | none => false

/-- A service threshold is given and armed (R92). -/
def Slot.rearm (x : Slot) (q : Quantity) (due : Nat) : Slot :=
  let armed : Service := { quantity := some q, due := due, armed := true }
  { x with ident := { x.ident with limits := x.ident.limits.map fun l => (armed, l.2) } }

/-- REARM_SERVICE taken: the threshold is replaced, armed and tested at once (R92). -/
def State.rearm (s : State) (i : Fin 20) (q : Quantity) (due : Nat) : Answer :=
  .deferred [] [identLine i] (((s.setSlot i (s.table.slots[i].rearm q due)).markDirty (identLine i)).testService i)

/-- The checks of REARM_SERVICE after the ranges (R92). -/
def State.rearmChecked (s : State) (i : Fin 20) (q : Quantity) (due : Nat) : Answer :=
  let x := s.table.slots[i].ident
  if x.state = .empty then .refused .slotEmpty s
  else if x.state ≠ .fitted then .refused .wrongState s
  else if s.isOutgoing i then .refused .positionHeld s
  else match x.position with
    | some p => if p.scalarProfile.contains q then s.rearm i q due else .refused .notInProfile s
    | none => .refused .notInProfile s

/-- REARM_SERVICE (R92). -/
def rearmMeaning : Meaning := sized 8 fun p s =>
  if h : field p 0 1 < 20 then
    match Quantity.ofCode (field p 1 1) with
    | some q => s.rearmChecked ⟨field p 0 1, h⟩ q (field p 2 6)
    | none => .refused .outOfRange s
  else .refused .outOfRange s

def execRearmService (tag : Byte) (payload : List Byte) (s : State) : Host.Outcome State Fault Refusal :=
  .next (s.serve { kind := 0x0C, tag := tag, payload := payload } rearmMeaning)

end Sys2Proof.Machine
end

