-- ==== Sys2Proof/Machine/Slots.lean ====
section
/-! DEFINITION. The Component Table's requests (06): READ_SLOT, READ_POSITION, DISCARD_SLOT; and the slot page (12 R199). -/

namespace Sys2Proof.Machine

/-- A flag byte from its bits, bit 0 first (R196). -/
def bitsByte (bs : List Bool) : List Byte := leBytes 1 (bs.foldr (fun b n => b.toNat + 2 * n) 0)

/-- The armed flag, as the presence mask marks it. -/
def SlotIdent.armed (x : SlotIdent) : Bool := match x.limits with
  | some l => l.1.armed
  | none => false

/-- OVER_LIFE, as the presence mask marks it. -/
def SlotIdent.over (x : SlotIdent) : Bool := match x.limits with
  | some l => l.2.overLife
  | none => false

/-- The presence mask of a slot page (R199). -/
def SlotIdent.mask (x : SlotIdent) : List Byte :=
  bitsByte [x.kind.isSome, x.serial.isSome, x.position.isSome, x.lastPosition.isSome, x.fittedAt.isSome, x.carried.isSome,
            x.limits.isSome]

/-- The flags of a slot page (R199). -/
def SlotIdent.flags (x : SlotIdent) (held : Bool) : List Byte := bitsByte [held, x.carried.getD false, x.armed, x.over]

/-- A text field that may be absent (R196). -/
def optText (area : Nat) (t : Option Text) : List Byte := textBytes area (t.getD [])

/-- A quantity or none (R196). -/
def optQuantity (q : Option Quantity) : List Byte := optCode (q.map Quantity.code)

/-- Service threshold and life limit: 14 bytes, 0x00 while absent (R199, log 12). -/
def limitBytes : Option (Service × Life) → List Byte
  | some (sv, lf) => optQuantity sv.quantity ++ leBytes 6 sv.due ++ leBytes 1 lf.quantity.code ++ leBytes 6 lf.limit
  | none => List.replicate 14 0

/-- Position or last position, 0x00 while both are absent (R199, log 12). -/
def SlotIdent.place (x : SlotIdent) : List Byte :=
  leBytes 1 (match x.position, x.lastPosition with
    | some p, _ => p.code
    | none, some p => p.code
    | none, none => 0)

/-- The slot page from a slot number, the record and its held mark (R104, R199). -/
def slotPage (number : Nat) (x : Slot) (held : Bool) (first : Nat) : List Byte :=
  leBytes 1 number ++ leBytes 1 x.ident.state.code ++ x.ident.mask ++ x.ident.flags held ++
  leBytes 1 ((x.ident.kind.map Kind.code).getD 0) ++ optText 20 x.ident.serial ++ x.ident.place ++
  leBytes 4 (x.ident.fittedAt.getD 0) ++ limitBytes x.ident.limits ++ pageBytes x.tally.items first

/-- READ_SLOT of a slot that exists (R104, R105). -/
def State.readSlot (s : State) (i : Fin 20) (first : Nat) : Answer :=
  if first ≤ s.table.slots[i].tally.items.length then
    .done (slotPage i.val s.table.slots[i] (s.isOutgoing i) first) s
  else .refused .outOfRange s

/-- READ_SLOT (R104, R105). -/
def readSlotMeaning : Meaning := sized 2 fun p s =>
  if h : field p 0 1 < 20 then s.readSlot ⟨field p 0 1, h⟩ (field p 1 1) else .refused .outOfRange s

def execReadSlot (tag : Byte) (payload : List Byte) (s : State) : Host.Outcome State Fault Refusal :=
  .next (s.serve { kind := 0x0D, tag := tag, payload := payload } readSlotMeaning)

/-- The hold of a position: the action of the fitment that holds it, or NOT_HELD (R107, R196). -/
def State.hold (s : State) (p : Position) : Nat :=
  match s.fitment with
  | some c => if c.position = p then c.action.code else 3
  | none => 3

/-- Orphan presence (R107). -/
def Tally.present (t : Tally) : Bool :=
  t.scalars.any (fun x => x.saturated || decide (0 < x.value.getD 0)) ||
  t.hists.any (fun x => x.saturated || x.values.any fun v => decide (0 < v.getD 0))

/-- The reply of READ_POSITION (R107, R198). -/
def State.positionReport (s : State) (p : Position) : List Byte :=
  optCode (s.table.map[p.index].map Fin.val) ++ leBytes 1 (s.hold p) ++ leBytes 1 s.tally.orphans[p.index].present.toNat

/-- READ_POSITION (R107). -/
def readPositionMeaning : Meaning := atPosition fun p s => .done (s.positionReport p) s

def execReadPosition (tag : Byte) (payload : List Byte) (s : State) : Host.Outcome State Fault Refusal :=
  .next (s.serve { kind := 0x0E, tag := tag, payload := payload } readPositionMeaning)

/-- The lines of a slot, identity line first (R98). -/
def slotLines (i : Fin 20) : List Nat := [identLine i, scalarLine i, histLine i]

/-- A slot becomes EMPTY, and its three lines are marked dirty (R98, R109, R122). -/
def State.emptySlot (s : State) (i : Fin 20) : State := (s.setSlot i .empty).markAll (slotLines i)

/-- The checks of DISCARD_SLOT after the range (R108, R109). -/
def State.discardChecked (s : State) (i : Fin 20) : Answer :=
  if s.table.slots[i].ident.state = .empty then .refused .slotEmpty s
  else if s.table.slots[i].ident.state = .fitted then .refused .slotFitted s
  else .deferred [] (slotLines i) (s.emptySlot i)

/-- DISCARD_SLOT (R108, R109). -/
def discardMeaning : Meaning := sized 1 fun p s =>
  if h : field p 0 1 < 20 then s.discardChecked ⟨field p 0 1, h⟩ else .refused .outOfRange s

def execDiscardSlot (tag : Byte) (payload : List Byte) (s : State) : Host.Outcome State Fault Refusal :=
  .next (s.serve { kind := 0x0F, tag := tag, payload := payload } discardMeaning)

end Sys2Proof.Machine
end

