-- ==== Sys2Proof/Machine/Periods.lean ====
section
/-! DEFINITION. The Period Book (08 R130 to R146): opening and closing records, and OPEN_RENTAL, CLOSE_RENTAL, LIST_PERIODS,
READ_PERIOD, RELEASE_PERIODS. -/

namespace Sys2Proof.Machine

/-! ## Opening and closing (R133, R134, R141) -/

/-- The header of a record as it opens (R133). -/
def openedHeader (seq : Nat) (kind : PeriodKind) (contract : Option Text) (segment : Nat) (reason : OpenReason)
    (openedAt : Option Nat) : Header :=
  { seq := seq, state := .opened,
    info := some { kind := kind, contract := contract, segment := segment, openReason := reason, restarts := 0, unwarned := 0,
                   tows := 0 },
    closeReason := none, openedAt := openedAt, closedAt := none, incomplete := false }

/-- A place formed anew for the record of a header (R133). -/
def openedPlace (h : Header) : Place :=
  { header := some h, lines := Vector.replicate 3 { seq := some h.seq, entries := [] } }

/-- The four lines of a record's place are formed anew, and marked dirty (R133). -/
def State.formRecord (s : State) (h : Header) : State :=
  (s.setPlace (placeOf h.seq) (openedPlace h)).markAll (placeLines (placeOf h.seq))

/-- A record opens as the newest (R133). -/
def State.openRecord (s : State) (h : Header) : State :=
  let s1 := s.formRecord h
  { s1 with book := { s1.book with newest := h.seq } }.markDirty 5

/-- The book can take one more record (R133). -/
def Book.canOpen (b : Book) : Bool := decide (b.count < Config.bookCapacity) && decide (b.newest < Config.max32)

/-- A header closed with a reason and a closed-at time (R134). -/
def Header.close (h : Header) (reason : CloseReason) (closedAt : Option Nat) : Header :=
  { h with state := .closed, closeReason := some reason, closedAt := closedAt }

/-- The open record closes (R134). -/
def State.closeOpen (s : State) (reason : CloseReason) : State :=
  let pl := s.book.openPlace
  let x := s.book.places[pl]
  match x.header with
  | some h => (s.setPlace pl { x with header := some (h.close reason s.timeField) }).markDirty (headerLine pl)
  | none => s

/-- BOOK_NEAR_FULL, when an opening has brought the count to 20 (R141). -/
def State.noteNearFull (s : State) : State := if s.book.count = 20 then s.raise .bookNearFull (.count 20) else s

/-- The open record closes and the next one opens (R133, R134); the notice of R141 is the caller's. -/
def State.turnPage (s : State) (close : CloseReason) (kind : PeriodKind) (contract : Option Text) (segment : Nat)
    (reason : OpenReason) : State :=
  let s1 := s.closeOpen close
  s1.openRecord (openedHeader (s.book.newest + 1) kind contract segment reason s.timeField)

/-- The lines of a closed record and the record opened after it, the new one's first (R137, R124), without line 5. -/
def turnLines (old : Nat) : List Nat := placeLines (placeOf (old + 1)) ++ placeLines (placeOf old)

/-- The fields of the open record that its kind comes with. -/
def State.openInfo (s : State) : Option PeriodInfo := s.book.openHeader.bind (·.info)

/-- The kind of the open record. -/
def State.openKind (s : State) : Option PeriodKind := s.openInfo.map (·.kind)

/-! ## OPEN_RENTAL (R136 to R138) -/

/-- The open IDLE record is discardable (R138). -/
def State.discardable (s : State) : Bool :=
  s.book.places[s.book.openPlace].increments.isEmpty && (match s.openInfo with
    | some i => decide (i.restarts = 0)
    | none => false)

/-- A rental opens in the place of the discarded record, with its sequence number (R138). -/
def State.openInPlace (s : State) (contract : Text) : Answer :=
  let seq := s.book.newest
  .deferred (leBytes 4 0 ++ leBytes 4 seq) (placeLines (placeOf seq) ++ [5])
    (s.formRecord (openedHeader seq .rental (some contract) 0 .rentalStart s.timeField))

/-- The idle record closes and a rental opens (R137). -/
def State.openAfter (s : State) (contract : Text) : Answer :=
  let old := s.book.newest
  .deferred (leBytes 4 old ++ leBytes 4 (old + 1)) (turnLines old ++ [5])
    (s.turnPage .rentalStart .rental (some contract) 0 .rentalStart).noteNearFull

/-- OPEN_RENTAL with a contract reference (R136). -/
def State.openRental (s : State) (contract : Text) : Answer :=
  if s.openKind ≠ some .idle then .refused .wrongState s
  else if s.fitment.isSome then .refused .fitmentOpen s
  else if s.discardable then s.openInPlace contract
  else if s.book.canOpen then s.openAfter contract
  else .refused .bookFull s

/-- A request that carries a contract reference (R136, R139). -/
def withContract (m : Text → State → Answer) : Meaning := sized 17 fun p s =>
  match textField 16 p 0 with
  | some t => m t s
  | none => .refused .outOfRange s

/-- OPEN_RENTAL (R136 to R138). -/
def openRentalMeaning : Meaning := withContract fun t s => s.openRental t

def execOpenRental (tag : Byte) (payload : List Byte) (s : State) : Host.Outcome State Fault Refusal :=
  .next (s.serve { kind := 0x16, tag := tag, payload := payload } openRentalMeaning)

/-! ## CLOSE_RENTAL (R139) -/

/-- The contract reference of the open record. -/
def State.openContract (s : State) : Option Text := s.openInfo.bind (·.contract)

/-- The rental closes and an idle record opens (R139). -/
def State.closeAfter (s : State) : Answer :=
  let old := s.book.newest
  .deferred (leBytes 4 old ++ leBytes 4 (old + 1)) (turnLines old ++ [5])
    (s.turnPage .request .idle none 0 .rentalEnd).noteNearFull

/-- CLOSE_RENTAL with a contract reference (R139). -/
def State.closeRental (s : State) (contract : Text) : Answer :=
  if s.openKind ≠ some .rental then .refused .wrongState s
  else if s.openContract ≠ some contract then .refused .contractMismatch s
  else if s.fitment.isSome then .refused .fitmentOpen s
  else if s.book.canOpen then s.closeAfter
  else .refused .bookFull s

/-- CLOSE_RENTAL (R139). -/
def closeRentalMeaning : Meaning := withContract fun t s => s.closeRental t

def execCloseRental (tag : Byte) (payload : List Byte) (s : State) : Host.Outcome State Fault Refusal :=
  .next (s.serve { kind := 0x17, tag := tag, payload := payload } closeRentalMeaning)

/-! ## LIST_PERIODS (R142) -/

/-- One line of the list (R142, R198). -/
def Book.listLine (b : Book) (seq : Nat) : List Byte :=
  let x := b.places[placeOf seq]
  match b.header seq with
  | some h =>
    leBytes 4 seq ++ leBytes 1 h.state.code ++ leBytes 1 ((h.info.map fun i => i.kind.code).getD 0) ++
    leBytes 1 ((h.info.map fun i => i.segment).getD 0) ++ bitsByte [h.info.isSome, !x.increments.isEmpty]
  | none => leBytes 4 seq ++ List.replicate 4 0

/-- The reply of LIST_PERIODS: the count, then the records oldest first (R142). -/
def Book.list (b : Book) : List Byte := leBytes 1 b.count ++ b.seqs.flatMap b.listLine

/-- LIST_PERIODS (R142). -/
def listPeriodsMeaning : Meaning := sized 0 fun _ s => .done s.book.list s

def execListPeriods (tag : Byte) (payload : List Byte) (s : State) : Host.Outcome State Fault Refusal :=
  .next (s.serve { kind := 0x18, tag := tag, payload := payload } listPeriodsMeaning)

/-! ## READ_PERIOD (R143, R144, R199) -/

/-- A pair of an entry (R199). -/
def Pair.bytes (x : Pair) : List Byte := leBytes 1 x.quantity.code ++ leBytes 1 x.saturated.toNat ++ leBytes 4 x.amount

/-- An entry: position, pair count, pairs (R199). -/
def Entry.bytes (x : Entry) : List Byte :=
  leBytes 1 x.position.code ++ leBytes 1 x.pairs.length ++ x.pairs.flatMap Pair.bytes

/-- The whole entries that fit in `room` bytes; the page stops before the first that does not (R199). -/
def fitting : Nat → List Entry → List Entry
  | _, [] => []
  | room, e :: es => if e.bytes.length ≤ room then e :: fitting (room - e.bytes.length) es else []

/-- The entries at or after a first position (R144). -/
def fromPosition (p : Position) (es : List Entry) : List Entry := es.filter fun e => decide (p.code ≤ e.position.code)

/-- A page of an increment list: entry count, entries carried, MORE, and the entries (R144, R199). -/
def entryPage (es : List Entry) (first : Position) : List Byte :=
  let rest := fromPosition first es
  let page := fitting 205 rest
  leBytes 1 es.length ++ leBytes 1 page.length ++ leBytes 1 (decide (page.length < rest.length)).toNat ++
  page.flatMap Entry.bytes

/-- The presence mask of a period page (R199). -/
def Header.mask (h : Header) : List Byte :=
  bitsByte [h.info.isSome, (h.info.bind (·.contract)).isSome, h.closeReason.isSome, h.openedAt.isSome, h.closedAt.isSome]

/-- Kind, contract text, segment and open reason: 20 bytes, 0x00 while absent (R199, log 12). -/
def infoBytes : Option PeriodInfo → List Byte
  | some i => leBytes 1 i.kind.code ++ optText 16 i.contract ++ leBytes 1 i.segment ++ leBytes 1 i.openReason.code
  | none => List.replicate 20 0

/-- Restarts, unwarned restarts and tow episodes (R199). -/
def countBytes : Option PeriodInfo → List Byte
  | some i => leBytes 1 i.restarts ++ leBytes 1 i.unwarned ++ leBytes 2 i.tows
  | none => List.replicate 4 0

/-- The period page (R143, R199). -/
def periodPage (h : Header) (es : List Entry) (first : Position) : List Byte :=
  leBytes 4 h.seq ++ leBytes 1 h.state.code ++ h.mask ++ infoBytes h.info ++
  leBytes 1 ((h.closeReason.map CloseReason.code).getD 0) ++ leBytes 4 (h.openedAt.getD 0) ++ leBytes 4 (h.closedAt.getD 0) ++
  countBytes h.info ++ bitsByte [h.incomplete] ++ entryPage es first

/-- READ_PERIOD of a sequence number from a first position (R143). -/
def State.readPeriod (s : State) (seq : Nat) (first : Position) : Answer :=
  if s.book.oldest ≤ seq ∧ seq ≤ s.book.newest then
    match s.book.header seq with
    | some h => .done (periodPage h s.book.places[placeOf seq].increments first) s
    | none => .refused .notFound s
  else .refused .notFound s

/-- READ_PERIOD (R143). -/
def readPeriodMeaning : Meaning := sized 5 fun p s =>
  match Position.ofCode (field p 4 1) with
  | some first => s.readPeriod (field p 0 4) first
  | none => .refused .outOfRange s

def execReadPeriod (tag : Byte) (payload : List Byte) (s : State) : Host.Outcome State Fault Refusal :=
  .next (s.serve { kind := 0x19, tag := tag, payload := payload } readPeriodMeaning)

/-! ## RELEASE_PERIODS (R145) -/

/-- The sequence numbers a release up to `upTo` removes, oldest first: the open record never (R145). -/
def Book.released (b : Book) (upTo : Nat) : List Nat := b.seqs.filter fun q => decide (q ≤ upTo ∧ q < b.newest)

/-- A place becomes free: its header is removed and its increment lines stay (R145). -/
def State.freePlace (s : State) (p : Fin 24) : State :=
  (s.setPlace p { s.book.places[p] with header := none }).markDirty (headerLine p)

/-- The header lines of records, in their order. -/
def headerLines (seqs : List Nat) : List Nat := seqs.map fun q => headerLine (placeOf q)

/-- The records leave the book, and the oldest bound moves (R145). -/
def State.removeRecords (s : State) (seqs : List Nat) : State :=
  let s1 := seqs.foldl (fun s q => s.freePlace (placeOf q)) s
  { s1 with book := { s1.book with oldest := s1.book.oldest + seqs.length } }.markDirty 5

/-- RELEASE_PERIODS taken (R145). -/
def State.release (s : State) (upTo : Nat) : Answer :=
  let seqs := s.book.released upTo
  let s1 := s.removeRecords seqs
  .deferred (leBytes 1 seqs.length ++ leBytes 4 s1.book.oldest) (headerLines seqs ++ [5]) s1

/-- RELEASE_PERIODS (R145): every 32-bit value is accepted. -/
def releaseMeaning : Meaning := sized 4 fun p s => s.release (field p 0 4)

def execReleasePeriods (tag : Byte) (payload : List Byte) (s : State) : Host.Outcome State Fault Refusal :=
  .next (s.serve { kind := 0x1A, tag := tag, payload := payload } releaseMeaning)

end Sys2Proof.Machine
end

