-- ==== Sys2Proof/Machine/Fitment.lean ====
section
/-! DEFINITION. The Fitment Manager (07 R111 to R129): the six fitment requests and FITMENT_DEADLINE_EXPIRY. -/

namespace Sys2Proof.Machine

/-! ## The deadline (R113) -/

/-- The deadline of an open context starts again with its full timeout (R113). -/
def State.touchDeadline (s : State) : State :=
  { s with fitment := s.fitment.map fun c => { c with deadline := s.now + c.timeout * Config.second } }

/-- An answer whose state has the deadline restarted, if a context is open in it (R113). -/
def Answer.touched : Answer → Answer
  | .refused reason s => .refused reason s.touchDeadline
  | .done body s => .done body s.touchDeadline
  | .deferred body lines s => .deferred body lines s.touchDeadline

/-- A fitment request: executed while a context exists, it restarts the deadline, whatever its answer (R113, log 10). -/
def fitmentRequest (m : Meaning) : Meaning := fun p s => (m p s).touched

/-- A fitment request that needs a context (R116, R118, R121, R125). -/
def State.withContext (s : State) (m : Context → Answer) : Answer :=
  match s.fitment with
  | some c => m c
  | none => .refused .noFitment s

/-! ## BEGIN_FITMENT (R114, R115) -/

/-- The context a taken BEGIN_FITMENT creates (R115). -/
def State.newContext (s : State) (p : Position) (a : Action) (timeout : Nat) (out : Option (Fin 20)) : Context :=
  { action := a, position := p, outgoing := out.map fun i => (i, s.table.slots[i]), interim := .zero p s.gearCount,
    exported := false, staged := none, timeout := timeout, deadline := s.now + timeout * Config.second }

/-- The answer to a taken BEGIN_FITMENT: outgoing slot or none, and the item count of the frozen image (R115). -/
def State.begin (s : State) (p : Position) (a : Action) (timeout : Nat) (out : Option (Fin 20)) : Answer :=
  .done (optCode (out.map Fin.val) ++ leBytes 1 (match out with
      | some i => s.table.slots[i].tally.items.length
      | none => 0))
    { s with fitment := some (s.newContext p a timeout out) }

/-- The checks of BEGIN_FITMENT after the ranges (R114). -/
def State.beginChecked (s : State) (p : Position) (a : Action) (timeout : Nat) : Answer :=
  if s.fitment.isSome then .refused .fitmentOpen s
  else match a, s.table.map[p.index] with
    | .install, none => s.begin p a timeout none
    | .install, some _ => .refused .positionOccupied s
    | .remove, none => .refused .positionEmpty s
    | .replace, none => .refused .positionEmpty s
    | .remove, some i => s.begin p a timeout (some i)
    | .replace, some i => s.begin p a timeout (some i)

/-- BEGIN_FITMENT (R114, R115). -/
def beginMeaning : Meaning := fitmentRequest <| sized 4 fun p s =>
  match Position.ofCode (field p 0 1), Action.ofCode (field p 1 1) with
  | some x, some a => if within 30 600 (field p 2 2) then s.beginChecked x a (field p 2 2) else .refused .outOfRange s
  | _, _ => .refused .outOfRange s

def execBeginFitment (tag : Byte) (payload : List Byte) (s : State) : Host.Outcome State Fault Refusal :=
  .next (s.serve { kind := 0x10, tag := tag, payload := payload } beginMeaning)

/-! ## STAGE_COMPONENT (R116, R117) -/

/-- A quantity or none from a code (R196); an unknown code gives nothing. -/
def quantityOrNone (n : Nat) : Option (Option Quantity) :=
  if n = noneCode then some none else (Quantity.ofCode n).map some

/-- Carried-in entry k of a STAGE_COMPONENT payload (R197). -/
def readCarried (p : List Byte) (k : Nat) : Option Carried :=
  (Quantity.ofCode (field p (37 + 8 * k) 1)).map fun q =>
    { quantity := q, index := field p (38 + 8 * k) 1, value := field p (39 + 8 * k) 6 }

/-- An entry stands before another: quantity order, then index order (R117). -/
def Carried.before (a b : Carried) : Bool :=
  decide (a.quantity.code < b.quantity.code) || (decide (a.quantity = b.quantity) && decide (a.index ≤ b.index))

/-- An entry put at its place in a sorted list. -/
def insertCarried (a : Carried) : List Carried → List Carried
  | [] => [a]
  | b :: bs => if a.before b then a :: b :: bs else b :: insertCarried a bs

/-- The entries in quantity order and, within a histogram, in index order (R117). -/
def sortCarried (xs : List Carried) : List Carried := xs.foldr insertCarried []

/-- The staged record a payload gives, if its values are in range (R116 check 3). -/
def readStaged (p : List Byte) : Option Staged :=
  match Kind.ofCode (field p 0 1), textField 20 p 1, quantityOrNone (field p 22 1), Quantity.ofCode (field p 29 1),
      allSome ((List.range (field p 36 1)).map (readCarried p)) with
  | some k, some t, some sq, some lq, some cs =>
    if field p 36 1 ≤ 26 then
      some { kind := k, serial := t, carried := cs, serviceQuantity := sq, due := field p 23 6, lifeQuantity := lq,
             limit := field p 30 6 }
    else none
  | _, _, _, _, _ => none

/-- Every quantity named belongs to the profile (R116 check 5). -/
def Staged.inProfile (x : Staged) (p : Position) : Bool :=
  x.carried.all (fun c => p.profile.contains c.quantity) &&
  (match x.serviceQuantity with
    | some q => p.scalarProfile.contains q
    | none => true) &&
  (decide (x.limit = 0) || p.scalarProfile.contains x.lifeQuantity)

/-- The index of an entry is one its quantity has (R116 check 6). -/
def Carried.indexOk (c : Carried) (gears : Nat) : Bool :=
  if c.quantity = .loadSeconds then decide (c.index < 6)
  else if c.quantity = .gearSeconds then decide (c.index < gears)
  else decide (c.index = 0)

/-- No two entries name the same quantity and index (R116 check 6). -/
def distinctCarried : List Carried → Bool
  | [] => true
  | c :: cs => cs.all (fun d => !(decide (d.quantity = c.quantity) && decide (d.index = c.index))) && distinctCarried cs

/-- The staged record is replaced as a whole, its entries sorted (R117). -/
def State.stage (s : State) (c : Context) (x : Staged) : Answer :=
  .done (leBytes 1 x.carried.length)
    { s with fitment := some { c with staged := some { x with carried := sortCarried x.carried } } }

/-- The checks of STAGE_COMPONENT after the ranges (R116). -/
def State.stageChecked (s : State) (c : Context) (x : Staged) : Answer :=
  if !x.kind.fits.contains c.position then .refused .kindMismatch s
  else if !x.inProfile c.position then .refused .notInProfile s
  else if x.carried.all (fun e => e.indexOk s.gearCount) && distinctCarried x.carried then s.stage c x
  else .refused .outOfRange s

/-- STAGE_COMPONENT after the length check (R116). -/
def stageInContext : Meaning := fun p s => s.withContext fun c =>
  if c.action = .remove then .refused .wrongState s
  else match readStaged p with
    | some x => s.stageChecked c x
    | none => .refused .outOfRange s

/-- STAGE_COMPONENT (R116): its length follows its count (R197). -/
def stageMeaning : Meaning := fitmentRequest fun p s =>
  if p.length = 37 + 8 * field p 36 1 then stageInContext p s else .refused .badLength s

def execStageComponent (tag : Byte) (payload : List Byte) (s : State) : Host.Outcome State Fault Refusal :=
  .next (s.serve { kind := 0x11, tag := tag, payload := payload } stageMeaning)

/-! ## EXPORT_OUTGOING (R118, R119) -/

/-- Part RECORD: a page of the frozen image, and the exported flag is set (R118, R119). -/
def State.exportRecord (s : State) (c : Context) (first : Nat) : Answer :=
  match c.outgoing with
  | none => .refused .wrongState s
  | some (i, image) =>
    if first ≤ image.tally.items.length then
      .done (slotPage i.val image true first) { s with fitment := some { c with exported := true } }
    else .refused .outOfRange s

/-- Part INTERIM: a page of the interim accumulator (R118, R199). -/
def State.exportInterim (s : State) (c : Context) (first : Nat) : Answer :=
  if first ≤ c.interim.items.length then
    .done (leBytes 1 c.action.code ++ leBytes 1 c.position.code ++ pageBytes c.interim.items first) s
  else .refused .outOfRange s

/-- EXPORT_OUTGOING (R118). -/
def exportMeaning : Meaning := fitmentRequest <| sized 2 fun p s =>
  match ExportPart.ofCode (field p 1 1) with
  | some .record => s.withContext fun c => s.exportRecord c (field p 0 1)
  | some .interim => s.withContext fun c => s.exportInterim c (field p 0 1)
  | none => .refused .outOfRange s

def execExportOutgoing (tag : Byte) (payload : List Byte) (s : State) : Host.Outcome State Fault Refusal :=
  .next (s.serve { kind := 0x12, tag := tag, payload := payload } exportMeaning)

/-! ## READ_FITMENT (R120) -/

/-- Kind, serial, carried-in count, service threshold and life limit of the staged record: 37 bytes, 0x00 while nothing is
staged (R198, log 12). -/
def stagedBytes : Option Staged → List Byte
  | some x => leBytes 1 x.kind.code ++ textBytes 20 x.serial ++ leBytes 1 x.carried.length ++ optQuantity x.serviceQuantity ++
      leBytes 6 x.due ++ leBytes 1 x.lifeQuantity.code ++ leBytes 6 x.limit
  | none => List.replicate 37 0

/-- Seconds left before the deadline, rounded down (R120). -/
def State.secondsLeft (s : State) (c : Context) : Nat := (c.deadline - s.now) / Config.second

/-- The reply of READ_FITMENT (R120, R198). -/
def State.fitmentReport (s : State) : List Byte :=
  match s.fitment with
  | none => leBytes 1 0
  | some c =>
    leBytes 1 1 ++ leBytes 1 c.action.code ++ leBytes 1 c.position.code ++ optCode (c.outgoing.map fun o => o.1.val) ++
    leBytes 1 c.exported.toNat ++ leBytes 1 c.staged.isSome.toNat ++ stagedBytes c.staged ++ leBytes 2 c.timeout ++
    leBytes 2 (s.secondsLeft c) ++ leBytes 1 c.interim.items.length

/-- READ_FITMENT (R120): the report is read before the deadline starts again. -/
def readFitmentMeaning : Meaning := fitmentRequest <| sized 0 fun _ s => .done s.fitmentReport s

def execReadFitment (tag : Byte) (payload : List Byte) (s : State) : Host.Outcome State Fault Refusal :=
  .next (s.serve { kind := 0x13, tag := tag, payload := payload } readFitmentMeaning)

/-! ## Moving the interim accumulator (R15, R122, R125) -/

/-- SATURATED for one quantity of a merge (R15). -/
def State.noteMerge (p : Position) (h : Holder) (src before after : Tally) (s : State) (q : Quantity) : State :=
  s.raiseSaturated h.named p (before.mark q) (after.mark q) q (mergeEntry src before q)

/-- The interim accumulator is added to a holder, one addition per quantity, and the marks it sets are notified (R15); several
SATURATED raises of one addition are made in quantity order (log 30: R190 leaves their order open). -/
def State.mergeInto (s : State) (p : Position) (h : Holder) (src : Tally) : State :=
  let before := s.tallyOf p h
  let after := src.merge before
  p.profile.foldl (State.noteMerge p h src before after) (s.setTally p h after)

/-- The interim accumulator is added to the position's orphan tally, whose line is marked dirty (R88, R122, R125). -/
def State.mergeOrphan (s : State) (c : Context) : State :=
  (s.mergeInto c.position .orphan c.interim).markDirty (orphanLine c.position)

/-! ## COMMIT_FITMENT (R121 to R124) -/

/-- The lowest-numbered EMPTY slot other than the outgoing slot, or else the outgoing slot (R122). -/
def State.incoming (s : State) (out : Option (Fin 20)) : Option (Fin 20) :=
  match (List.finRange 20).find? fun i => decide (some i ≠ out) && decide (s.table.slots[i].ident.state = .empty) with
  | some i => some i
  | none => out

def State.setEntry (s : State) (p : Position) (x : Option (Fin 20)) : State :=
  { s with table := { s.table with map := s.table.map.set p.index x } }

/-- Step 1 of the commit: the outgoing slot becomes EMPTY and its map entry none (R122). -/
def State.removeOutgoing (s : State) (c : Context) : State :=
  match c.outgoing with
  | some (i, _) => ((s.emptySlot i).setEntry c.position none).markDirty 5
  | none => s

/-- The carried-in value of a quantity and index, 0 where the list gives none (R122). -/
def carriedValue (cs : List Carried) (q : Quantity) (index : Nat) : Nat :=
  match cs.find? fun c => decide (c.quantity = q) && decide (c.index = index) with
  | some c => c.value
  | none => 0

/-- A scalar at its carried-in value. -/
def carriedScalar (cs : List Carried) (q : Quantity) : Scalar :=
  { quantity := q, value := some (carriedValue cs q 0), saturated := false }

/-- A histogram at its carried-in values. -/
def carriedHist (cs : List Carried) (n : Nat) (q : Quantity) : Hist :=
  { quantity := q, values := (List.range (histEntries n q)).map fun k => some (carriedValue cs q k), saturated := false }

/-- The starting tallies of the incoming slot (R122). -/
def carriedTally (cs : List Carried) (p : Position) (n : Nat) : Tally :=
  { scalars := p.scalarProfile.map (carriedScalar cs), hists := p.histProfile.map (carriedHist cs n) }

/-- The service threshold and the life limit a staged record gives (R122). -/
def Staged.limits (x : Staged) : Service × Life :=
  ({ quantity := x.serviceQuantity, due := x.due, armed := x.serviceQuantity.isSome },
   { quantity := x.lifeQuantity, limit := x.limit, overLife := false })

/-- The incoming slot's record (R122). -/
def Staged.fitted (x : Staged) (p : Position) (at_ : Option Nat) (n : Nat) : Slot :=
  { ident := { state := .fitted, kind := some x.kind, serial := some x.serial, position := some p, lastPosition := none,
               fittedAt := at_, carried := some (!x.carried.isEmpty), limits := some x.limits }
    tally := carriedTally x.carried p n }

/-- Steps 3 and 4 of the commit: the incoming slot becomes FITTED and mapped (R122). -/
def State.fitIncoming (s : State) (p : Position) (x : Staged) (i : Fin 20) : State :=
  ((s.setSlot i (x.fitted p s.timeField s.gearCount)).markAll (slotLines i)).setEntry p (some i) |>.markDirty 5

/-- Steps 3 and 4 where a component is staged and a slot is chosen. -/
def State.fitStaged (s : State) (c : Context) (inc : Option (Fin 20)) : State :=
  match c.staged, inc with
  | some x, some i => s.fitIncoming c.position x i
  | _, _ => s

/-- The segment number of a continuation (R123). -/
def State.nextSegment (s : State) : Nat := match s.openInfo with
  | some i => min Config.max8 (i.segment + 1)
  | none => 0

/-- Step 5 of the commit: the period split (R123, R140). -/
def State.split (s : State) : State :=
  s.turnPage .fitment (s.openKind.getD .idle) s.openContract s.nextSegment .continuation

/-- The incoming slot's thresholds are tested once, service first (R94). -/
def State.testIncoming (s : State) : Option (Fin 20) → State
  | some i => (s.testService i).testLife i
  | none => s

/-- Every effect of a taken COMMIT_FITMENT but its deferred record (R122, R123). -/
def State.commit (s : State) (c : Context) (inc : Option (Fin 20)) : State :=
  let s1 := (((s.removeOutgoing c).mergeOrphan c).fitStaged c inc).split
  ({ s1 with fitment := none }.noteNearFull).testIncoming inc

/-- The incoming slot's lines, identity line last, then the outgoing slot's where it is another slot (R124). -/
def commitSlotLines (out inc : Option (Fin 20)) : List Nat :=
  (match inc with
    | some i => [scalarLine i, histLine i, identLine i]
    | none => []) ++
  (match out with
    | some o => if inc = some o then [] else slotLines o
    | none => [])

/-- The lines of a commit in their order (R124). -/
def State.commitLines (s : State) (c : Context) (inc : Option (Fin 20)) : List Nat :=
  turnLines s.book.newest ++ commitSlotLines (c.outgoing.map Prod.fst) inc ++ [orphanLine c.position, 5]

/-- A listed line that is in flight is dirtied again, whether or not its contents changed (R124). -/
def State.dirtyFlight (s : State) (lines : List Nat) : State :=
  match s.ctl.flight with
  | some f => s.markIf (lines.contains f.line) f.line
  | none => s

/-- COMMIT_FITMENT taken (R122 to R124). -/
def State.commitTaken (s : State) (c : Context) (inc : Option (Fin 20)) : Answer :=
  let lines := s.commitLines c inc
  .deferred (optCode (inc.map Fin.val) ++ leBytes 4 s.book.newest ++ leBytes 4 (s.book.newest + 1)) lines
    ((s.commit c inc).dirtyFlight lines)

/-- The checks of COMMIT_FITMENT with a context (R121). -/
def State.commitChecked (s : State) (c : Context) : Answer :=
  let inc := if c.action = .remove then none else s.incoming (c.outgoing.map Prod.fst)
  if c.action ≠ .install ∧ c.exported = false then .refused .notExported s
  else if c.action ≠ .remove ∧ c.staged = none then .refused .nothingStaged s
  else if c.action ≠ .remove ∧ inc = none then .refused .noFreeSlot s
  else if !s.book.canOpen then .refused .bookFull s
  else s.commitTaken c inc

/-- COMMIT_FITMENT (R121 to R124). -/
def commitMeaning : Meaning := fitmentRequest <| sized 0 fun _ s => s.withContext s.commitChecked

def execCommitFitment (tag : Byte) (payload : List Byte) (s : State) : Host.Outcome State Fault Refusal :=
  .next (s.serve { kind := 0x14, tag := tag, payload := payload } commitMeaning)

/-! ## ABORT_FITMENT and the timeout (R125, R126) -/

/-- The context ends with the interim accumulator added back: to the outgoing slot, each of whose thresholds is then tested
once, or for INSTALL to the orphan tally (R125). -/
def State.endContext (s : State) (c : Context) : State :=
  match c.outgoing with
  | some (i, _) => (({ s.mergeInto c.position (.slot i) c.interim with fitment := none }.testService i).testLife i)
  | none => { s.mergeOrphan c with fitment := none }

/-- ABORT_FITMENT (R125). -/
def abortMeaning : Meaning := fitmentRequest <| sized 0 fun _ s => s.withContext fun c =>
  .done (leBytes 1 c.action.code ++ leBytes 1 c.position.code) (s.endContext c)

def execAbortFitment (tag : Byte) (payload : List Byte) (s : State) : Host.Outcome State Fault Refusal :=
  .next (s.serve { kind := 0x15, tag := tag, payload := payload } abortMeaning)

/-- FITMENT_DEADLINE_EXPIRY (R126). -/
def execFitmentDeadlineExpiry (s : State) : Host.Outcome State Fault Refusal :=
  match s.fitment with
  | some c => .next ((((s.reach c.deadline).endContext c).raise .fitmentTimeout (.position c.position)).supervise)
  | none => .next s

end Sys2Proof.Machine
end

