-- ==== Sys2Proof/Machine/Status.lean ====
section
/-! DEFINITION. The remaining requests: SET_STORE_TIMING, READ_STORE_STATUS (09), SET_DORMANCY, FACTORY_CLEAR (10), IDENTIFY,
READ_STATUS, TAKE_NOTICE, SET_NOTICE_LEVELS (11). -/

namespace Sys2Proof.Machine

/-! ## Store timing and status (R160, R166) -/

/-- Interval and step are replaced; running timers keep their expiries (R160). -/
def State.setTiming (s : State) (t : StoreTiming) : State := { s with ctl := { s.ctl with timing := t } }

/-- The settings of a SET_STORE_TIMING payload. -/
def readTiming (p : List Byte) : StoreTiming := { interval := field p 0 2, step := field p 2 1 }

/-- SET_STORE_TIMING (R160). -/
def setTimingMeaning : Meaning := sized 3 fun p s =>
  if (readTiming p).ok then (s.setTiming (readTiming p)).configured 3 else .refused .outOfRange s

def execSetStoreTiming (tag : Byte) (payload : List Byte) (s : State) : Host.Outcome State Fault Refusal :=
  .next (s.serve { kind := 0x1B, tag := tag, payload := payload } setTimingMeaning)

/-- The first 16 of the failed list, none after the last (R166, R198). -/
def failedBytes (ns : List Nat) : List Byte :=
  (ns.take 16).flatMap (leBytes 1) ++ List.replicate (16 - ns.length) 0xFF

/-- The number of queued entries per class (R166). -/
def WriteQueue.counts (q : WriteQueue) : List Byte :=
  leBytes 1 q.flush.length ++ leBytes 1 q.commit.length ++ leBytes 1 q.checkpoint.length ++ leBytes 1 q.repair.length

/-- The line in flight (R166). -/
def StoreController.flightLine (x : StoreController) : Option Nat := x.flight.map (·.line)

/-- The reply of READ_STORE_STATUS (R166, R198). -/
def State.storeReport (s : State) : List Byte :=
  leBytes 2 s.ctl.correctedCount ++ leBytes 2 s.ctl.repairedCount ++ leBytes 2 s.ctl.failures ++
  leBytes 1 s.ctl.failed.length ++ failedBytes s.ctl.failed ++ s.ctl.queue.counts ++ optCode s.ctl.flightLine ++
  leBytes 1 s.ctl.scrubPointer ++ s.sup.report.bytes

/-- READ_STORE_STATUS (R166). -/
def storeStatusMeaning : Meaning := sized 0 fun _ s => .done s.storeReport s

def execReadStoreStatus (tag : Byte) (payload : List Byte) (s : State) : Host.Outcome State Fault Refusal :=
  .next (s.serve { kind := 0x1C, tag := tag, payload := payload } storeStatusMeaning)

/-! ## Dormancy delay (R178) -/

/-- The delay is replaced; a running dormancy timer keeps its expiry (R178). -/
def State.setDelay (s : State) (d : Nat) : State := { s with sup := { s.sup with delay := d } }

/-- SET_DORMANCY (R178). -/
def setDormancyMeaning : Meaning := sized 2 fun p s =>
  if delayOk (field p 0 2) then (s.setDelay (field p 0 2)).configured 3 else .refused .outOfRange s

def execSetDormancy (tag : Byte) (payload : List Byte) (s : State) : Host.Outcome State Fault Refusal :=
  .next (s.serve { kind := 0x1D, tag := tag, payload := payload } setDormancyMeaning)

/-! ## FACTORY_CLEAR (R180) -/

/-- Every slot is EMPTY (R180). -/
def State.allEmpty (s : State) : Bool := s.table.slots.toList.all fun x => decide (x.ident.state = .empty)

/-- Every orphan tally is cleared, its line marked dirty (R180). -/
def State.clearAllOrphans (s : State) : State := Position.all.foldl State.clearOrphan s

/-- The records leave the book, newest first, and one CLEARED record opens in place 1 (R180). -/
def State.resetBook (s : State) : State :=
  let s1 := s.book.seqs.reverse.foldl (fun s q => s.freePlace (placeOf q)) s
  let s2 := s1.openRecord (openedHeader 1 .idle none 0 .cleared s.timeField)
  { s2 with book := { s2.book with oldest := 1 } }

/-- The orphan lines (R149). -/
def orphanLines : List Nat := Position.all.map orphanLine

/-- The lines of FACTORY_CLEAR in their order (R180). -/
def State.clearLines (s : State) : List Nat :=
  headerLines (s.book.seqs.reverse.filter fun q => decide (placeOf q ≠ 1)) ++ placeLines 1 ++ orphanLines ++ [5]

/-- FACTORY_CLEAR (R180). -/
def factoryClearMeaning : Meaning := sized 0 fun _ s =>
  if !s.allEmpty then .refused .slotsOccupied s
  else if s.fitment.isSome then .refused .fitmentOpen s
  else .deferred [] s.clearLines s.clearAllOrphans.resetBook

def execFactoryClear (tag : Byte) (payload : List Byte) (s : State) : Host.Outcome State Fault Refusal :=
  .next (s.serve { kind := 0x1E, tag := tag, payload := payload } factoryClearMeaning)

/-! ## IDENTIFY, READ_STATUS (R194, R195) -/

/-- The reply of IDENTIFY (R194, R198). -/
def State.identityReport (s : State) : List Byte :=
  s.ctl.identity ++ leBytes 1 Config.lineCount ++ leBytes 1 Config.slotCount ++ leBytes 1 Config.bookCapacity ++
  leBytes 1 Config.channelCount

/-- IDENTIFY (R194). -/
def identifyMeaning : Meaning := sized 0 fun _ s => .done s.identityReport s

def execIdentify (tag : Byte) (payload : List Byte) (s : State) : Host.Outcome State Fault Refusal :=
  .next (s.serve { kind := 0x1F, tag := tag, payload := payload } identifyMeaning)

/-- Book count, open sequence number, fitment action or none: 0, 0 and none in STARTING (R195). -/
def State.rebuiltStatus (s : State) : List Byte :=
  if s.sup.power = .starting then leBytes 1 0 ++ leBytes 4 0 ++ leBytes 1 noneCode
  else leBytes 1 s.book.count ++ leBytes 4 s.book.newest ++ optCode (s.fitment.map fun c => c.action.code)

/-- The reply of READ_STATUS (R195, R198). -/
def State.statusReport (s : State) : List Byte :=
  leBytes 1 s.sup.power.code ++ leBytes 1 s.clock.isSet.toNat ++ s.rebuiltStatus ++ leBytes 1 s.pendingKinds.length ++
  leBytes 1 s.link.intake.length ++ leBytes 1 s.ctl.records.length ++ leBytes 2 s.link.frameErrors ++
  leBytes 2 s.link.breaks ++ leBytes 2 s.link.dropped ++ leBytes 1 (decide (s.ctl.failed ≠ [])).toNat

/-- READ_STATUS (R195). -/
def readStatusMeaning : Meaning := sized 0 fun _ s => .done s.statusReport s

def execReadStatus (tag : Byte) (payload : List Byte) (s : State) : Host.Outcome State Fault Refusal :=
  .next (s.serve { kind := 0x20, tag := tag, payload := payload } readStatusMeaning)

/-! ## TAKE_NOTICE, SET_NOTICE_LEVELS (R192, R193) -/

/-- Kind, level, repeat count and detail of a pending notice (R192, R198). -/
def State.noticeReport (s : State) (k : NoticeKind) (n : Notice) : List Byte :=
  leBytes 1 k.index.val ++ leBytes 1 (s.level k) ++ leBytes 1 n.repeats ++ n.detail.bytes

/-- The winning notice leaves the set and is reported (R192). -/
def State.takeNotice (s : State) : Answer :=
  match s.winner with
  | none => .done [] s
  | some k =>
    match s.notice k with
    | some n => .done (s.noticeReport k n) (s.dropNotice k)
    | none => .done [] s

/-- TAKE_NOTICE (R192). -/
def takeNoticeMeaning : Meaning := sized 0 fun _ s => s.takeNotice

def execTakeNotice (tag : Byte) (payload : List Byte) (s : State) : Host.Outcome State Fault Refusal :=
  .next (s.serve { kind := 0x21, tag := tag, payload := payload } takeNoticeMeaning)

/-- Levels and threshold are replaced together, and pending notices now at level 0 are removed (R193). -/
def State.setNotices (s : State) (x : NoticeSettings) : State :=
  { s with link := { s.link with
      settings := x, notices := tabulate 14 fun i => if x.levels[i] = 0 then none else s.link.notices[i] } }

/-- SET_NOTICE_LEVELS (R193). -/
def setNoticesMeaning : Meaning := sized 15 fun p s =>
  if (readNotices p).ok then (s.setNotices (readNotices p)).configured 4 else .refused .outOfRange s

def execSetNoticeLevels (tag : Byte) (payload : List Byte) (s : State) : Host.Outcome State Fault Refusal :=
  .next (s.serve { kind := 0x22, tag := tag, payload := payload } setNoticesMeaning)

end Sys2Proof.Machine
end

