-- ==== Sys2Proof/Machine/StoreEvents.lean ====
section
/-! DEFINITION. The Store Controller's events (09): WRITE_COMPLETE, CHECKPOINT_TIMER_EXPIRY, SCRUB_TIMER_EXPIRY; and the
Supervisor's DORMANCY_TIMER_EXPIRY (10 R178). -/

namespace Sys2Proof.Machine

/-! ## WRITE_COMPLETE (R154, R155, R157, R164) -/

/-- The line's pending class takes effect: the line joins the queue as the newest entry of that class (R154). -/
def StoreController.rejoin (x : StoreController) (f : Flight) : StoreController :=
  match f.pending with
  | some c => { x with queue := x.queue.join c f.line }
  | none => x

/-- No write is in flight. -/
def State.landed (s : State) : State := { s with ctl := { s.ctl with flight := none } }

/-- The line is released from the records that existed at the write's start (R154, R157). -/
def State.releaseLine (s : State) (f : Flight) : State :=
  { s with ctl := { s.ctl with records := s.ctl.records.map (DeferredRecord.release f) } }

/-- The holdup flush after a write that passed: the write of the mark completes it (R164). -/
def FlushPhase.passed : FlushPhase → FlushPhase
  | .marking => .complete
  | p => p

/-- The holdup flush after a final failure: that of the mark ends it uncompleted (R164). -/
def FlushPhase.lost : FlushPhase → FlushPhase
  | .marking => .failed
  | p => p

/-- A write that passed verification completes (R154): release, failed mark, pending class. -/
def State.writePassed (s : State) (f : Flight) : State :=
  let s1 := ((s.landed).releaseLine f).endRecords .ok fun r => r.awaits.isEmpty
  { s1 with ctl := { s1.ctl with failed := s1.ctl.failed.filter (· != f.line), flush := s1.ctl.flush.passed }.rejoin f }

/-- A write ends in final failure (R155). -/
def State.writeFailed (s : State) (f : Flight) : State :=
  let s1 := s.landed.markDirty f.line
  let s2 := { s1 with ctl := { s1.ctl with
                failures := bump Config.max16 s1.ctl.failures, failed := insertLine f.line s1.ctl.failed,
                flush := s1.ctl.flush.lost } }
  let s3 := (s2.raise .storeFault (.line f.line)).endRecords .storeFault fun r => r.awaits.contains f.line
  { s3 with ctl := s3.ctl.rejoin f }

/-- The store's copy of line n is replaced. -/
def State.storeLine (s : State) (n : Nat) (l : StoredLine) : State := { s with store := storePut s.store n l }

/-- The store holds what a write that failed or was cut short left in its line (log 7, log 33). -/
def State.storeLeft (s : State) (f : Flight) (found : WriteEnd) : State :=
  s.storeLine f.line (leftBy (storeGet s.store f.line) f.image found)

/-- The end of the write in flight (R154, R155): it passes, is retried at once, or ends in final failure. -/
def State.endWrite (s : State) (f : Flight) (found : WriteEnd) : State :=
  let held := afterWrite (storeGet s.store f.line) f.image found
  let left := s.storeLeft f found
  if verified held f.image then ((s.storeLine f.line held).writePassed f).arbitrate
  else if f.retry then (left.writeFailed f).arbitrate
  else left.startWrite f.line left.ctl.queue true f.pending

/-- WRITE_COMPLETE (R154): of the write in flight, if there is one. -/
def execWriteComplete (found : WriteEnd) (s : State) : Host.Outcome State Fault Refusal :=
  match s.ctl.flight with
  | some f => .next (s.endWrite f found).supervise
  | none => .next s

/-! ## CHECKPOINT_TIMER_EXPIRY (R158) -/

/-- The checkpoint timer after its expiry (R158). -/
def State.nextCheckpoint (s : State) : Timer :=
  if s.inUse then s.startIn (s.ctl.timing.interval * Config.second) else none

/-- CHECKPOINT_TIMER_EXPIRY (R158): a checkpoint is made, and the timer is started again if the condition holds. -/
def execCheckpointTimerExpiry (s : State) : Host.Outcome State Fault Refusal :=
  match s.ctl.checkpointTimer with
  | some due =>
    let s1 := s.reach due
    .next { s1 with ctl := { s1.ctl with checkpointTimer := s1.nextCheckpoint } }.checkpoint
  | none => .next s

/-! ## SCRUB_TIMER_EXPIRY (R161, R162) -/

/-- The line is in flight or queued (R161). -/
def StoreController.inHand (x : StoreController) (n : Nat) : Bool :=
  decide (x.flightLine = some n) || (x.queue.classOf n).isSome

/-- A repair is queued at SCRUB_REPAIR, but not for a line 0 formed from an uncorrectable read (R162). -/
def State.queueRepair (s : State) (n : Nat) : State :=
  if n = 0 ∧ s.ctl.identityLost = true then s else s.queueLines .scrubRepair [n]

/-- What a scrub read finds and does (R162). -/
def State.scrubLine (s : State) (n : Nat) : State :=
  match (storeGet s.store n).outcome with
  | .clean => s
  | .corrected => { s with ctl := { s.ctl with correctedCount := bump Config.max16 s.ctl.correctedCount } }.queueRepair n
  | .uncorrectable => { s with ctl := { s.ctl with repairedCount := bump Config.max16 s.ctl.repairedCount } }.queueRepair n

/-- The scrub pointer after a step (R161). -/
def nextLine (n : Nat) : Nat := if n + 1 < Config.lineCount then n + 1 else 0

/-- One scrub step (R161): a line in hand is skipped. -/
def State.scrubStep (s : State) : State :=
  let n := s.ctl.scrubPointer
  let s1 := { s with ctl := { s.ctl with scrubPointer := nextLine n } }
  if s.ctl.inHand n then s1 else s1.scrubLine n

/-- SCRUB_TIMER_EXPIRY (R161): a step in ACTIVE only; the timer is started again. `decay` is what the store has become by now. -/
def execScrubTimerExpiry (decay : Decay) (s : State) : Host.Outcome State Fault Refusal :=
  match s.ctl.scrubTimer with
  | some due =>
    let s1 := { s.reach due with store := decayed s.store decay }
    let s2 := { s1 with ctl := { s1.ctl with scrubTimer := s1.startIn (s1.ctl.timing.step * Config.second) } }
    .next (if s2.sup.power = .active then s2.scrubStep else s2)
  | none => .next s

/-! ## DORMANCY_TIMER_EXPIRY (R178) -/

/-- The recorder moves to DRAINING: every dirty line is queued at CHECKPOINT class, and with nothing queued or in flight it
enters DORMANT at once (R159, R178). A dirty line 0 is queued with the others, as R159 lists it (log 34: R149 has it otherwise). -/
def State.drain (s : State) : State :=
  { s with sup := { s.sup with power := .draining, dormancy := none } }.queueLines .checkpoint s.ctl.dirty

/-- DORMANCY_TIMER_EXPIRY (R178); the timer runs in ACTIVE only. -/
def execDormancyTimerExpiry (s : State) : Host.Outcome State Fault Refusal :=
  match s.sup.dormancy with
  | some due => .next (s.reach due).drain
  | none => .next s

end Sys2Proof.Machine
end

