-- ==== Sys2Proof/Machine/Rebuild.lean ====
section
/-! DEFINITION. Start-up, steps 1 to 9 (10 R172 to R176; 06 R102, R103): the live state rebuilt from the stored lines. -/

namespace Sys2Proof.Machine

/-! ## Step 1: reading the lines (R172) -/

/-- What reading line n gives: its contents, or nothing where a word is uncorrectable (R150). -/
def readLine (st : Store) (n : Nat) : Option LineImage :=
  if (storeGet st n).outcome = .uncorrectable then none else some (storeGet st n).image

/-- The lines whose reading has an outcome, in rising order. -/
def linesWith (st : Store) (o : WordRead) : List Nat :=
  (List.range Config.lineCount).filter fun n => decide ((storeGet st n).outcome = o)

/-- The start-up report changes. -/
def State.reporting (s : State) (f : StartReport → StartReport) : State :=
  { s with sup := { s.sup with report := f s.sup.report } }

/-- Step 1 (R172): the corrected lines are queued at COMMIT in rising order, and the outcomes are counted. -/
def State.startRead (s : State) : State :=
  let s1 := { s with ctl := { s.ctl with queue := { s.ctl.queue with commit := linesWith s.store .corrected } } }
  s1.reporting fun r => { r with corrected := (linesWith s.store .corrected).length,
                                 uncorrectable := (linesWith s.store .uncorrectable).length }

/-! ## Step 2: the configuration (R172) -/

/-- The bytes of line 0's live image: a word read uncorrectable is taken as zero (R172). Contents that hold no identity in words
that can be read give 13 zero bytes (log 26: the spec names no bytes for them). -/
def identityFrom (l : StoredLine) : List Byte :=
  match l.image with
  | .identity bytes => bytes.zipIdx.map fun b =>
      if l.words.toList[b.2 / 8]? = some .uncorrectable then 0 else b.1
  | _ => List.replicate 13 0

/-- Line 0's contents hold the identity. -/
def LineImage.isIdentity : LineImage → Bool
  | .identity _ => true
  | _ => false

/-- A configuration line's settings, and whether they were defaulted (R172): a blank line means defaults. -/
def readConfig {α : Type} (get : LineImage → Option α) (dflt : α) : Option LineImage → α × Bool
  | some .blank => (dflt, false)
  | some x => match get x with
    | some v => (v, false)
    | none => (dflt, true)
  | none => (dflt, true)

/-- Valid channel settings of line 1 (R172). -/
def LineImage.channels? : LineImage → Option (Vector ChannelConfig 10)
  | .channels v => if channelsOk v then some v else none
  | _ => none

/-- A valid Gear Table of line 2 (R172). -/
def LineImage.gears? : LineImage → Option GearTable
  | .gears t => if t.ok then some t else none
  | _ => none

/-- Valid settings of line 3 (R172). -/
def LineImage.settings? : LineImage → Option SettingsLine
  | .settings x => if x.ok then some x else none
  | _ => none

/-- Valid weights and notice settings of line 4 (R172). -/
def LineImage.weights? : LineImage → Option (Vector Nat 28 × NoticeSettings)
  | .weights w x => if weightsOk w && x.ok then some (w, x) else none
  | _ => none

/-- The defaults of line 3 (R39, R42, R73, R160, R178). -/
def SettingsLine.default : SettingsLine :=
  { lines := Vector.replicate 5 .default, engine := .default, driveline := .default, timing := .default, delay := 300 }

/-- A configuration line was defaulted: it is marked dirty and counted (R172). -/
def State.noteDefaulted (s : State) (n : Nat) (defaulted : Bool) : State :=
  if defaulted then (s.markDirty n).reporting fun r => { r with configDefaulted := r.configDefaulted + 1 } else s

/-- Line 0's live image is formed (R172). Contents that hold no identity count as lost, as an uncorrectable read does, so that a
scrub finding queues no repair of line 0 (log 26; R162 names the uncorrectable read only). -/
def State.startIdentity (s : State) : State :=
  let l := storeGet s.store 0
  { s with ctl := { s.ctl with identity := identityFrom l,
                               identityLost := decide (l.outcome = .uncorrectable) || !l.image.isIdentity } }

/-- Line 1 applies its settings (R172). -/
def State.startChannels (s : State) : State :=
  let v := readConfig LineImage.channels? (Vector.replicate 10 .default) (readLine s.store 1)
  { s with channels := tabulate 10 fun i => Channel.rest v.1[i] }.noteDefaulted 1 v.2

/-- Line 2 applies its table (R172). -/
def State.startGears (s : State) : State :=
  let v := readConfig LineImage.gears? .default (readLine s.store 2)
  { s with driveline := { s.driveline with table := v.1 } }.noteDefaulted 2 v.2

/-- Settings of line 3 go to their owners. -/
def State.applySettings (s : State) (x : SettingsLine) : State :=
  { s with lines := tabulate 5 fun i => { s.lines[i] with setting := x.lines[i] }
           run := { s.run with settings := x.engine }
           driveline := { s.driveline with settings := x.driveline }
           ctl := { s.ctl with timing := x.timing }
           sup := { s.sup with delay := x.delay } }

/-- Line 3 applies its settings (R172). -/
def State.startSettings (s : State) : State :=
  let v := readConfig LineImage.settings? .default (readLine s.store 3)
  (s.applySettings v.1).noteDefaulted 3 v.2

/-- Line 4 applies its settings (R172). -/
def State.startWeights (s : State) : State :=
  let v := readConfig LineImage.weights? (defaultWeights, .default) (readLine s.store 4)
  { s with tally := { s.tally with weights := v.1.1 }, link := { s.link with settings := v.1.2 } }.noteDefaulted 4 v.2

/-- Step 2 (R172). -/
def State.startConfig (s : State) : State :=
  s.startIdentity.startChannels.startGears.startSettings.startWeights

/-! ## Step 3: the clean-shutdown mark (R173) -/

/-- What line 5 holds, when it is intact: a blank line means every entry none, no bounds and the mark clear (R172). Contents that
no layout reads are taken as a damaged line 5, though the line reads clean (log 27: R103 names the damaged line only). -/
def readMap (st : Store) : Option MapLine :=
  match readLine st 5 with
  | some .blank => some { entries := List.replicate 16 none, mark := false, bounds := none }
  | some (.map m) => some m
  | _ => none

/-- The mark as start-up finds it (R173). -/
def markFound (st : Store) : Bool := match readMap st with
  | some m => m.mark
  | none => false

/-- Step 3 (R173): the mark found is recorded and cleared in the live image. -/
def State.startMark (s : State) : State :=
  (({ s with sup := { s.sup with mark := false } }.markIf (markFound s.store) 5).reporting
    fun r => { r with markFound := markFound s.store })

/-! ## Step 4: the slots (R102) -/

/-- A serial of 1 to 20 printable characters (R97). -/
def serialOk (t : Text) : Bool := within 1 20 t.length && t.all printable

/-- The fields a slot record needs in its state (R97, R102). -/
def SlotIdent.valid (x : SlotIdent) : Bool :=
  (match x.serial with
    | some t => serialOk t
    | none => true) &&
  (match x.state with
    | .empty => decide (x = .bare .empty)
    | .fitted => x.kind.isSome && x.serial.isSome && x.position.isSome && x.lastPosition.isNone && x.carried.isSome &&
        x.limits.isSome
    | .stray => x.kind.isSome && x.serial.isSome && x.position.isNone && x.lastPosition.isSome && x.carried.isSome &&
        x.limits.isSome
    | .damaged => x.position.isNone)

/-- What an identity line tells (R102). -/
inductive IdentRead
  | damaged
  | empty
  | recorded (x : SlotIdent)
deriving DecidableEq, Repr

/-- An identity line read (R102). -/
def readIdent : Option LineImage → IdentRead
  | some .blank => .empty
  | some (.slotIdent x) => if !x.valid then .damaged else if x.state = .empty then .empty else .recorded x
  | _ => .damaged

/-- The scalar's value is not marked absent (R102). -/
def Scalar.held (x : Scalar) : Bool := x.value.isSome

/-- No entry of the histogram is marked absent (R102). -/
def Hist.held (x : Hist) : Bool := x.values.all Option.isSome

/-- The scalar line of a recorded slot, if it is intact and a valid tally; `absentOk` says that the slot is stored DAMAGED, so
that tallies marked absent count as held (R102). -/
def readScalars (absentOk : Bool) (p : Position) : Option LineImage → Option (List Scalar)
  | some .blank => if p.scalarProfile = [] then some [] else none
  | some (.scalars xs) =>
    if xs.map (·.quantity) = p.scalarProfile ∧ (absentOk || xs.all Scalar.held) = true then some xs else none
  | _ => none

/-- The entry count a histogram may have (R102). -/
def Hist.countOk (x : Hist) : Bool :=
  if x.quantity = .loadSeconds then decide (x.values.length = 6) else decide (x.values.length ≤ 12)

/-- The histogram line of a recorded slot, if it is intact and a valid tally, `absentOk` as with the scalar line (R102). -/
def readHists (absentOk : Bool) (p : Position) : Option LineImage → Option (List Hist)
  | some .blank => if p.histProfile = [] then some [] else none
  | some (.hists xs) =>
    if xs.map (·.quantity) = p.histProfile ∧ xs.all Hist.countOk = true ∧ (absentOk || xs.all Hist.held) = true then some xs
    else none
  | _ => none

/-- A rebuilt slot: the record, whether it became DAMAGED now, and the lines to mark dirty (R102). -/
structure SlotRebuild where
  slot  : Slot
  newly : Bool
  dirty : List Nat
deriving DecidableEq, Repr

/-- Slot i is stored DAMAGED: the contents last written to its identity line say so, whatever its words read now (log 15). -/
def slotStoredDamaged (st : Store) (i : Fin 20) : Bool := match (storeGet st (identLine i)).image with
  | .slotIdent x => decide (x.state = .damaged)
  | _ => false

/-- DAMAGED with every other field absent (R102); newly so, and dirty, only when it was not stored DAMAGED (R102, R109). -/
def SlotRebuild.bare (st : Store) (i : Fin 20) : SlotRebuild :=
  { slot := { ident := .bare .damaged, tally := .empty }, newly := !slotStoredDamaged st i,
    dirty := if slotStoredDamaged st i then [] else slotLines i }

/-- The lines among some that were not stored blank (R102). -/
def notBlank (st : Store) (ns : List Nat) : List Nat := ns.filter fun n => decide (readLine st n ≠ some .blank)

/-- A slot whose identity line records EMPTY (R102). -/
def rebuildEmpty (st : Store) (i : Fin 20) : SlotRebuild :=
  if (readLine st (scalarLine i)).isNone || (readLine st (histLine i)).isNone then .bare st i
  else { slot := .empty, newly := false, dirty := notBlank st [scalarLine i, histLine i] }

/-- A slot with a damaged tally line: DAMAGED, the identity recovered, the position becoming the last position (R102). -/
def damagedSlot (x : SlotIdent) (p : Position) (sc : Option (List Scalar)) (hs : Option (List Hist)) : Slot :=
  { ident := { x with state := .damaged, position := none, lastPosition := some p }
    tally := { scalars := sc.getD (absentScalars p), hists := hs.getD (absentHists p) } }

/-- A slot recorded FITTED, STRAY or DAMAGED with a position or last position (R102). -/
def rebuildAt (st : Store) (i : Fin 20) (x : SlotIdent) (p : Position) : SlotRebuild :=
  match readScalars (decide (x.state = .damaged)) p (readLine st (scalarLine i)),
      readHists (decide (x.state = .damaged)) p (readLine st (histLine i)) with
  | some a, some b => { slot := { ident := x, tally := { scalars := a, hists := b } }, newly := false, dirty := [] }
  | sc, hs =>
    { slot := damagedSlot x p sc hs, newly := decide (x.state ≠ .damaged),
      dirty := if x.state = .damaged then [] else slotLines i }

/-- Slot i from its three lines (R102). -/
def rebuildSlot (st : Store) (i : Fin 20) : SlotRebuild :=
  match readIdent (readLine st (identLine i)) with
  | .damaged => .bare st i
  | .empty => rebuildEmpty st i
  | .recorded x =>
    match x.position, x.lastPosition with
    | some p, _ => rebuildAt st i x p
    | none, some p => rebuildAt st i x p
    | none, none => { slot := { ident := x, tally := .empty }, newly := false, dirty := [] }

/-- One slot is rebuilt (R102). -/
def State.startSlot (s : State) (i : Fin 20) : State :=
  let r := rebuildSlot s.store i
  ((s.setSlot i r.slot).markAll r.dirty).reporting fun x => { x with slotsDamaged := x.slotsDamaged + r.newly.toNat }

/-- Step 4 (R102). -/
def State.startSlots (s : State) : State := (List.finRange 20).foldl State.startSlot s

/-! ## Steps 5 and 6: the Position Map (R103), and the gearbox slot's entry count (R174) -/

/-- A stored entry is kept when its slot is FITTED at the entry's position with a kind that fits it (R103). -/
def keepEntry (slots : Vector Slot 20) (p : Position) (n : Nat) : Option (Fin 20) :=
  if h : n < 20 then
    let x := slots[n].ident
    if x.state = .fitted ∧ x.position = some p ∧ (match x.kind with
      | some k => k.fits.contains p
      | none => false) = true then some ⟨n, h⟩ else none
  else none

/-- The stored entries; every one none where line 5 is damaged (R103). -/
def storedEntries (st : Store) : List (Option Nat) := match readMap st with
  | some m => m.entries
  | none => []

/-- One entry is checked (R103): a stored entry that is not kept is cleared, counted, and dirties line 5. -/
def State.startEntry (s : State) (p : Position) : State :=
  match (storedEntries s.store)[p.code]? with
  | some (some n) =>
    match keepEntry s.table.slots p n with
    | some i => s.setEntry p (some i)
    | none => ((s.setEntry p none).markDirty 5).reporting fun r => { r with mapCleared := r.mapCleared + 1 }
  | _ => s.setEntry p none

/-- Step 5 (R103). -/
def State.startMap (s : State) : State := Position.all.foldl State.startEntry s

/-- A slot's identity as STRAY: its position becomes its last position (R103). -/
def SlotIdent.strayed (x : SlotIdent) : SlotIdent := { x with state := .stray, position := none, lastPosition := x.position }

/-- A FITTED slot that no entry names becomes STRAY (R103). -/
def State.startStray (s : State) (i : Fin 20) : State :=
  let x := s.table.slots[i]
  if decide (x.ident.state = .fitted) && !s.table.map.toList.contains (some i) then
    ((s.setSlot i { x with ident := x.ident.strayed }).markDirty (identLine i)).reporting
      fun r => { r with slotsStray := r.slotsStray + 1 }
  else s

/-- The entry count of GEAR_SECONDS in a tally. -/
def Tally.gearEntries (t : Tally) : Option Nat :=
  (t.hists.find? fun x => decide (x.quantity = .gearSeconds)).map fun x => x.values.length

/-- The FITTED gearbox slot takes the applied table's entry count (R174). -/
def State.startGearSlot (s : State) : State :=
  match s.gearSlot with
  | some i => if s.table.slots[i].tally.gearEntries = some s.gearCount then s else s.resizeSlot s.gearCount
  | none => s

/-- Step 6 (R103, R174). -/
def State.startReconcile (s : State) : State := ((List.finRange 20).foldl State.startStray s).startGearSlot

/-! ## Step 7: the orphan tallies (R174) -/

/-- The tally holds each quantity of the profile, none marked absent, and no other (R174). -/
def Tally.validFor (t : Tally) (p : Position) : Bool :=
  decide (t.scalars.map (·.quantity) = p.scalarProfile) && decide (t.hists.map (·.quantity) = p.histProfile) &&
  t.hists.all Hist.countOk && t.scalars.all Scalar.held && t.hists.all Hist.held

/-- An orphan line's tally, if it is intact and valid: a blank line means all zero (R172, R174). -/
def readOrphan (p : Position) : Option LineImage → Option Tally
  | some .blank => some (.zero p 0)
  | some (.orphan t) => if t.validFor p then some t else none
  | _ => none

/-- One orphan tally is rebuilt, or restarts at zero (R174). -/
def State.startOrphan (s : State) (p : Position) : State :=
  match readOrphan p (readLine s.store (orphanLine p)) with
  | some t => s.setOrphan p t
  | none => ((s.setOrphan p (.zero p 0)).markDirty (orphanLine p)).reporting
      fun r => { r with orphansRestarted := r.orphansRestarted + 1 }

/-- The GEARBOX orphan tally takes the applied table's entry count (R174). -/
def State.startGearOrphan (s : State) : State :=
  let t := s.tally.orphans[Position.gearbox.index]
  if t.gearEntries = some s.gearCount then s
  else (s.setOrphan .gearbox (t.resize s.gearCount)).markDirty (orphanLine .gearbox)

/-- Step 7 (R174). -/
def State.startOrphans (s : State) : State := (Position.all.foldl State.startOrphan s).startGearOrphan

/-! ## Step 8: the Period Book (R175, R176) -/

/-- What the header line of a place tells (R175). -/
inductive PlaceRead
  | free
  | valid (h : Header)
  | damaged
deriving DecidableEq, Repr

/-- A record of the book in state OPEN or CLOSED has the fields its kind comes with (R131). -/
def Header.complete (h : Header) : Bool := decide (h.state = .damaged) || h.info.isSome

/-- A place by its header line (R175). -/
def readPlace (st : Store) (p : Fin 24) : PlaceRead :=
  match readLine st (headerLine p) with
  | some .blank => .free
  | some (.header h) =>
    if 1 ≤ h.seq ∧ h.seq ≤ Config.max32 ∧ placeOf h.seq = p ∧ h.complete = true then .valid h else .damaged
  | _ => .damaged

/-- Each number is above the one before it. -/
def rising : List Nat → Bool
  | a :: b :: ns => decide (a < b) && rising (b :: ns)
  | _ => true

/-- A pair as R132 has it: a scalar quantity of the profile, an increment from 1 up. -/
def Pair.ok (p : Position) (x : Pair) : Bool := p.scalarProfile.contains x.quantity && within 1 Config.max32 x.amount

/-- An entry as R132 has it, in its increment line. -/
def Entry.ok (k : Fin 3) (x : Entry) : Bool :=
  decide (x.position.incrementLine = k) && !x.pairs.isEmpty && x.pairs.all (Pair.ok x.position) &&
  rising (x.pairs.map fun y => y.quantity.code)

/-- The entries of an increment line keep R132 (R175). -/
def entriesOk (k : Fin 3) (es : List Entry) : Bool := es.all (Entry.ok k) && rising (es.map fun e => e.position.code)

/-- Increment line k of the record with a sequence number, if it is no damaged line (R175). -/
def readIncrements (st : Store) (seq : Nat) (k : Fin 3) : Option (List Entry) :=
  match readLine st (headerLine (placeOf seq) + 1 + k.val) with
  | some (.increments x) => if x.seq = some seq ∧ entriesOk k x.entries = true then some x.entries else none
  | _ => none

/-- The three increment lines of a record. -/
def readRecord (st : Store) (seq : Nat) : Vector (Option (List Entry)) 3 := tabulate 3 (readIncrements st seq)

/-- The bounds that are usable (R175): at most 24 numbers, none above 4,294,967,295 (log 14). -/
def usableBounds (st : Store) : Option (Nat × Nat) :=
  match (readMap st).bind (·.bounds) with
  | some (o, n) => if o ≤ n ∧ n + 1 ≤ o + 24 ∧ n ≤ Config.max32 then some (o, n) else none
  | none => none

/-- The highest sequence number among the valid places (R175). -/
def highest (reads : Vector PlaceRead 24) : Option Nat :=
  reads.toList.foldl (fun m r => match r, m with
    | .valid h, none => some h.seq
    | .valid h, some n => some (max n h.seq)
    | _, m => m) none

/-- The places of `len` sequence numbers from `lo` on are all damaged (R175); more than 24 numbers meet every place twice. -/
def allDamaged (reads : Vector PlaceRead 24) (lo len : Nat) : Bool :=
  decide (len ≤ 24) && (List.range (min len 24)).all fun k => decide (reads[placeOf (lo + k)] = .damaged)

/-- The top of the run (R175 step 1), if one can be formed. -/
def topOf (reads : Vector PlaceRead 24) (bounds : Option (Nat × Nat)) : Option Nat :=
  match highest reads, bounds with
  | some h, some (_, n) => if h < n ∧ allDamaged reads (h + 1) (n - h) = true then some n else some h
  | some h, none => some h
  | none, some (o, n) => if allDamaged reads o (n + 1 - o) then some n else none
  | none, none => none

/-- The run downward from a sequence number (R175 step 2), at most `room` records, newest first. -/
def runDown (reads : Vector PlaceRead 24) : Nat → Nat → List Nat
  | 0, _ => []
  | _ + 1, 0 => []
  | room + 1, q + 1 =>
    match reads[placeOf (q + 1)] with
    | .valid h => if h.seq = q + 1 then (q + 1) :: runDown reads room q else []
    | .damaged => (q + 1) :: runDown reads room q
    | .free => []

/-- The run with its bottom trimmed (R175 step 3), newest first. -/
def trimRun (reads : Vector PlaceRead 24) (bounds : Option (Nat × Nat)) (run : List Nat) : List Nat :=
  match bounds with
  | some (o, _) => run.filter fun q => decide (o ≤ q)
  | none => (run.reverse.dropWhile fun q => decide (reads[placeOf q] = .damaged)).reverse

/-- The sequence numbers of the rebuilt book, newest first; none where no run can be formed (R175). -/
def bookRun (st : Store) : List Nat :=
  let reads := tabulate 24 (readPlace st)
  match topOf reads (usableBounds st) with
  | some t => trimRun reads (usableBounds st) (runDown reads 24 t)
  | none => []

/-- The header a place of the run gives. -/
def storedHeader (st : Store) (seq : Nat) : Option Header := match readPlace st (placeOf seq) with
  | .valid h => some h
  | _ => none

/-- The record is damaged (R175): its header place, or a line of it. -/
def recordDamaged (st : Store) (seq : Nat) : Bool :=
  (storedHeader st seq).isNone || (readRecord st seq).toList.any Option.isNone

/-- The record was stored DAMAGED, as its header line, if it is valid, tells. -/
def storedDamaged (st : Store) (seq : Nat) : Bool := match storedHeader st seq with
  | some h => decide (h.state = .damaged)
  | none => false

/-- The header of a record that is DAMAGED (R147, R175). -/
def damagedHeader (seq : Nat) : Option Header → Header
  | some h => { h with state := .damaged, incomplete := true }
  | none => { seq := seq, state := .damaged, info := none, closeReason := none, openedAt := none, closedAt := none, incomplete := true }

/-- The header of a record of the run (R175). -/
def rebuiltHeader (st : Store) (seq : Nat) : Header :=
  match storedHeader st seq with
  | some h => if recordDamaged st seq then damagedHeader seq (some h) else h
  | none => damagedHeader seq none

/-- The place of a record of the run: the increments of its intact lines are recovered (R147, R175). -/
def rebuiltPlace (st : Store) (seq : Nat) : Place :=
  { header := some (rebuiltHeader st seq)
    lines := tabulate 3 fun k => { seq := some seq, entries := (readIncrements st seq k).getD [] } }

/-- A record below the top that becomes DAMAGED at this start-up (R175). A header line that is damaged tells no stored state, so its
record becomes DAMAGED, whatever it was stored as (log 14); slots are judged otherwise (R109, log 15). -/
def newlyDamaged (st : Store) (seq : Nat) : Bool := recordDamaged st seq && !storedDamaged st seq

/-- The four lines of a place outside the run that were not stored free and blank (R175). -/
def strayLines (st : Store) (p : Fin 24) : List Nat := notBlank st (placeLines p)

/-- One place of the book is formed (R175). -/
def State.startPlace (run : List Nat) (s : State) (p : Fin 24) : State :=
  match run.find? fun q => decide (placeOf q = p) with
  | some q => s.setPlace p (rebuiltPlace s.store q)
  | none => (s.setPlace p .free).markAll (strayLines s.store p)

/-- A record below the top is noted when it becomes DAMAGED: four lines dirty, counted (R175). -/
def State.noteDamaged (s : State) (seq : Nat) : State :=
  if newlyDamaged s.store seq then
    (s.markAll (placeLines (placeOf seq))).reporting fun r => { r with recordsDamaged := r.recordsDamaged + 1 }
  else s

/-- Rule 1 of R176 for one record below the top: an OPEN one closes with reason RECOVERY, its closed-at time absent. -/
def State.recoverOpen (s : State) (seq : Nat) : State :=
  let pl := placeOf seq
  let x := s.book.places[pl]
  match x.header with
  | some h =>
    if h.state = .opened then
      ((s.setPlace pl { x with header := some (h.close .recovery none) }).markDirty (headerLine pl)).reporting
        fun r => { r with recoveryCloses := r.recoveryCloses + 1 }
    else s
  | none => s

/-- The recovery opening is recorded. -/
def State.noteOpening (s : State) (o : RecoveryOpening) : State := s.reporting fun r => { r with opening := o }

/-- A header reopened (R176 rule 3). -/
def Header.reopen (h : Header) : Header := { h with state := .opened, closeReason := none, closedAt := none }

/-- Rule 3 of R176: a CLOSED record at the top. -/
def State.recoverClosed (s : State) (t : Nat) (h : Header) : State :=
  if s.book.canOpen then (s.openRecord (openedHeader (t + 1) .idle none 0 .recovery none)).noteOpening .new
  else ((s.setPlace (placeOf t) { s.book.places[placeOf t] with header := some h.reopen }).markDirty
    (headerLine (placeOf t))).noteOpening .reopen

/-- Rules 2 to 4 of R176 at the top T. -/
def State.recoverTop (s : State) (t : Nat) : State :=
  if recordDamaged s.store t || storedDamaged s.store t then
    (s.formRecord (openedHeader t .idle none 0 .recovery none)).noteOpening .reset
  else match s.book.places[placeOf t].header with
    | some h => if h.state = .closed then s.recoverClosed t h else s
    | none => s

/-- Rule 5 of R176: the book of a fresh part. -/
def State.recoverEmpty (s : State) : State :=
  let s1 := s.openRecord (openedHeader 1 .idle none 0 .cleared none)
  { s1 with book := { s1.book with oldest := 1 } }.noteOpening .cleared

/-- The rebuilt book is given its one OPEN record (R176); the run stands newest first. -/
def State.recoverBook (s : State) : List Nat → State
  | [] => s.recoverEmpty
  | t :: older =>
    let s1 := { s with book := { s.book with newest := t, oldest := t - older.length } }
    (older.foldl State.recoverOpen (older.foldl State.noteDamaged s1)).recoverTop t

/-- Line 5 is marked dirty when the bounds differ from the stored ones (R176). -/
def State.startBounds (s : State) : State :=
  s.markIf (decide ((readMap s.store).bind (·.bounds) ≠ some (s.book.oldest, s.book.newest))) 5

/-- Step 8 (R175, R176). -/
def State.startBook (s : State) : State :=
  let run := bookRun s.store
  (((List.finRange 24).foldl (State.startPlace run) s).recoverBook run).startBounds

/-! ## Step 9: the restart count (R173) -/

/-- The counts of a record after a restart (R173). -/
def PeriodInfo.restarted (x : PeriodInfo) (warned : Bool) : PeriodInfo :=
  { x with restarts := bump Config.max8 x.restarts, unwarned := if warned then x.unwarned else bump Config.max8 x.unwarned }

/-- Step 9 (R173): the restart is counted in the OPEN record, whose header line is marked dirty. -/
def State.startCount (s : State) : State :=
  let pl := s.book.openPlace
  let x := s.book.places[pl]
  match x.header with
  | some h =>
    (s.setPlace pl { x with header := some { h with info := h.info.map fun i => i.restarted s.sup.report.markFound } }).markDirty
      (headerLine pl)
  | none => s

/-- Steps 1 to 9 of start-up (R170). -/
def State.rebuild (s : State) : State :=
  s.startRead.startConfig.startMark.startSlots.startMap.startReconcile.startOrphans.startBook.startCount

end Sys2Proof.Machine
end

