-- ==== Sys2Proof/Machine/Power.lean ====
section
/-! DEFINITION. Supply, RESET and POWER_WARN (10 R168 to R171; 09 R165) and the end of start-up (10 R177): POWER_UP,
SUPPLY_LOSS, RESET_ASSERTED, RESET_RELEASED, POWER_WARN_ASSERTED, POWER_WARN_CLEARED, END_OF_START_UP. -/

namespace Sys2Proof.Machine

/-! ## At rest (R170, R171) -/

/-- A write in flight is cut short (R150): `cut` is what it leaves in its line; the mark it leaves clear (R164, log 33). -/
def State.cutWrite (s : State) (cut : WriteEnd) : State :=
  match s.ctl.flight with
  | some f => s.storeLeft f cut
  | none => s

/-- The Run Detector with nothing running. -/
def RunDetector.rest : RunDetector :=
  { state := .blind, runTimer := none, stopTimer := none, measure := none, attempt := 0, settings := .default }

/-- The Driveline Observer with nothing running. -/
def Driveline.rest : Driveline :=
  { table := .default, gear := .idle, lastGear := none, settleTimer := none, clutch := .released, launchTimer := none,
    fresh := false, load := none, staleTimer := none, pto := .off, tow := .notTowing, towCounts := Vector.replicate 6 0,
    quietTimer := none, settings := .default }

/-- What IDENTIFY reports before step 1 has read line 0 (R194): a part serial number of zero bytes, the vendor and part codes of
R198, revision 0 (log 17). -/
def unreadIdentity : List Byte := [0x42, 0x0A, 0x10, 0x00] ++ List.replicate 9 0

/-- The Store Controller with nothing queued, in flight, awaited or counted (R167). -/
def StoreController.rest : StoreController :=
  { dirty := [], queue := .empty, flight := none, records := [], failed := [], failures := 0, correctedCount := 0,
    repairedCount := 0, checkpointTimer := none, scrubTimer := none, scrubPointer := 0, timing := .default, flush := .absent,
    identity := unreadIdentity, identityLost := false }

/-- The Link Port at the beginning of start-up (R189). -/
def LinkPort.rest : LinkPort :=
  { framer := .hunt, gapTimer := none, intake := [], replies := [], notices := Vector.replicate 14 none, settings := .default,
    frameErrors := 0, breaks := 0, dropped := 0 }

/-- A line of which only the input level is known. -/
def InputLine.rest (x : InputLine) : InputLine := { level := x.level, filtered := false, setting := .default, timer := none }

/-- The recorder at rest (R170, R171): every piece of volatile state is gone, and the live images are formed anew by the next
start-up (log 18). The store, the levels of the pins, elapsed time and the model's own counters stay. -/
def State.atRest (s : State) : State :=
  { pending := s.pending, now := s.now, free := s.free, nextId := s.nextId, pins := s.pins
    clock := { value := 0, isSet := false, tick := none }
    channels := Vector.replicate 10 (.rest .default)
    lines := tabulate 5 fun i => s.lines[i].rest
    run := .rest
    driveline := .rest
    tally := { orphans := freshOrphans, weights := defaultWeights, accrual := none }
    table := { slots := Vector.replicate 20 .empty, map := Vector.replicate 16 none }
    fitment := none
    book := { places := Vector.replicate 24 .free, oldest := 1, newest := 0 }
    store := s.store
    ctl := .rest
    sup := { power := .starting, dormancy := none, delay := 300, mark := false, report := .none, unread := true }
    link := .rest }

/-- The lines have been read. -/
def State.setRead (s : State) : State := { s with sup := { s.sup with unread := false } }

/-- The start-up works on blank live images, and the Link Port goes on receiving and answering (R170). -/
def State.blank (s : State) : State := { s.atRest with link := s.link }

/-- Steps 1 to 9 of start-up on what the store holds (R170). -/
def State.startUp (s : State) : State := s.blank.rebuild.setRead

/-- What the block does of its own when no command waits: in STARTING, steps 1 to 9 are made, once (R170, log 3, log 17). -/
def State.tick (s : State) : State :=
  if s.live && decide (s.sup.power = .starting) && s.sup.unread then s.startUp else s

def State.setPins (s : State) (p : Pins) : State := { s with pins := p }

/-- The store as decay has left it (log 7). -/
def State.decay (s : State) (d : Decay) : State := { s with store := decayed s.store d }

/-- SUPPLY_LOSS (R170): volatile state ends, and a write in flight may be cut short. -/
def execSupplyLoss (cut : WriteEnd) (s : State) : Host.Outcome State Fault Refusal :=
  .next (if s.pins.supply then (s.cutWrite cut).atRest.setPins { s.pins with supply := false } else s)

/-- POWER_UP (R170): volatile state is discarded; start-up stands before step 1, where it waits while RESET is held (R171, log 16). -/
def execPowerUp (cut : WriteEnd) (decay : Decay) (s : State) : Host.Outcome State Fault Refusal :=
  .next (((s.cutWrite cut).decay decay).setPins { s.pins with supply := true }).atRest

/-- RESET_ASSERTED (R171): the power state is abandoned, and the recorder is held at rest. -/
def execResetAsserted (cut : WriteEnd) (s : State) : Host.Outcome State Fault Refusal :=
  .next (if s.pins.reset then s else (s.cutWrite cut).atRest.setPins { s.pins with reset := true })

/-- RESET_RELEASED (R171): start-up stands before step 1, if the supply is up (log 16). -/
def execResetReleased (decay : Decay) (s : State) : Host.Outcome State Fault Refusal :=
  .next (if s.pins.reset then
      let s1 := (s.decay decay).setPins { s.pins with reset := false }
      if s.pins.supply then s1.atRest else s1
    else s)

/-! ## POWER_WARN (R165, R169) -/

/-- POWER_WARN moves ACTIVE, DRAINING and DORMANT to HOLDUP (R169). -/
def State.warned (s : State) : State :=
  if s.live then
    match s.sup.power with
    | .active => s.enterHoldup
    | .draining => s.enterHoldup
    | .dormant => s.enterHoldup
    | .starting => s
    | .holdup => s
  else s

/-- POWER_WARN_ASSERTED (R169). -/
def execPowerWarnAsserted (s : State) : Host.Outcome State Fault Refusal :=
  .next (if s.pins.powerWarn then s else (s.setPins { s.pins with powerWarn := true }).warned)

/-- POWER_WARN_CLEARED (R165, R169). -/
def execPowerWarnCleared (s : State) : Host.Outcome State Fault Refusal :=
  .next (if s.pins.powerWarn then
      let s1 := s.setPins { s.pins with powerWarn := false }
      if s1.live && decide (s1.sup.power = .holdup) then s1.leaveHoldup else s1
    else s)

/-! ## END_OF_START_UP (R177) -/

/-- Something in the report calls for START_RECOVERY (R177). -/
def StartReport.notable (r : StartReport) : Bool :=
  decide (0 < r.uncorrectable) || decide (0 < r.configDefaulted) || decide (0 < r.slotsDamaged) || decide (0 < r.slotsStray) ||
  decide (0 < r.mapCleared) || decide (0 < r.orphansRestarted) || decide (0 < r.recordsDamaged) ||
  decide (0 < r.recoveryCloses) || decide (r.opening = .reset) || decide (r.opening = .new) || decide (r.opening = .reopen)

/-- Step 10 (R177): the Notice Set is emptied, CLOCK_UNSET is raised, and START_RECOVERY where due. -/
def State.startNotices (s : State) : State :=
  let s1 := { s with link := { s.link with notices := Vector.replicate 14 none } }.raise .clockUnset .empty
  if s1.sup.report.notable then s1.raise .startRecovery (.report s1.sup.report) else s1

/-- A channel's starting state (R24). -/
def Channel.started (c : Channel) : Channel := { Channel.rest c.cfg with state := c.cfg.startState }

/-- A line's starting state, set from its level without a transition (R40). -/
def InputLine.started (x : InputLine) : InputLine := { x with filtered := x.meaning, timer := none }

/-- The run state at the end of start-up (R54). -/
def State.startRun (s : State) : RunState := if s.shaft .engineSpeed = some .stopped then .off else .blind

/-- Step 11 for clock, channels and lines (R18, R24, R40). -/
def State.startSensing (s : State) : State :=
  { s with clock := { value := 0, isSet := false, tick := s.startIn Config.second }
           channels := tabulate 10 fun i => s.channels[i].started
           lines := tabulate 5 fun i => s.lines[i].started }

/-- Step 11 for the observers (R54, R75); no Fitment Context exists. -/
def State.startObservers (s : State) : State :=
  { s with run := { RunDetector.rest with state := s.startRun, settings := s.run.settings }
           driveline := { Driveline.rest with
             table := s.driveline.table, settings := s.driveline.settings,
             clutch := if s.lineActive .clutch then .engaged else .released
             pto := if s.lineActive .ptoOn then .on else .off }
           fitment := none }

/-- Step 12 (R177): the dirty lines are queued at COMMIT behind the corrections, and the recorder becomes ACTIVE with the
accrual and scrub timers started. -/
def State.becomeActive (s : State) : State :=
  ((s.enqueueAll .commit s.ctl.dirty).startActivity).setPower .active

/-- The end of start-up (R177); with POWER_WARN asserted the recorder moves to HOLDUP in the same act (R169). -/
def State.finishStart (s : State) : State :=
  let s1 := s.startNotices.startSensing.startObservers.becomeActive
  if s1.pins.powerWarn then s1.enterHoldup else s1.supervise.arbitrate

/-- END_OF_START_UP (R177): in STARTING; steps 1 to 9 are made first, if they have not been (log 17). -/
def execEndOfStartUp (s : State) : Host.Outcome State Fault Refusal :=
  .next (if s.live && decide (s.sup.power = .starting) then s.tick.finishStart else s)

end Sys2Proof.Machine
end

