-- ==== Sys2Proof/Machine/Dispatch.lean ====
section
/-! DEFINITION. What each command does: one arm per constructor, one meaning per arm. -/

namespace Sys2Proof.Machine

def exec (i : Instr) (s : State) : Host.Outcome State Fault Refusal :=
  match i with
  | .setChannel tag payload => Sys2Proof.Machine.execSetChannel tag payload s
  | .setLines tag payload => Sys2Proof.Machine.execSetLines tag payload s
  | .setTime tag payload => Sys2Proof.Machine.execSetTime tag payload s
  | .setEngineThresholds tag payload => Sys2Proof.Machine.execSetEngineThresholds tag payload s
  | .setGearTable tag payload => Sys2Proof.Machine.execSetGearTable tag payload s
  | .setDriveline tag payload => Sys2Proof.Machine.execSetDriveline tag payload s
  | .loadSample tag payload => Sys2Proof.Machine.execLoadSample tag payload s
  | .readLive tag payload => Sys2Proof.Machine.execReadLive tag payload s
  | .setWearWeights tag payload => Sys2Proof.Machine.execSetWearWeights tag payload s
  | .readOrphans tag payload => Sys2Proof.Machine.execReadOrphans tag payload s
  | .clearOrphans tag payload => Sys2Proof.Machine.execClearOrphans tag payload s
  | .rearmService tag payload => Sys2Proof.Machine.execRearmService tag payload s
  | .readSlot tag payload => Sys2Proof.Machine.execReadSlot tag payload s
  | .readPosition tag payload => Sys2Proof.Machine.execReadPosition tag payload s
  | .discardSlot tag payload => Sys2Proof.Machine.execDiscardSlot tag payload s
  | .beginFitment tag payload => Sys2Proof.Machine.execBeginFitment tag payload s
  | .stageComponent tag payload => Sys2Proof.Machine.execStageComponent tag payload s
  | .exportOutgoing tag payload => Sys2Proof.Machine.execExportOutgoing tag payload s
  | .readFitment tag payload => Sys2Proof.Machine.execReadFitment tag payload s
  | .commitFitment tag payload => Sys2Proof.Machine.execCommitFitment tag payload s
  | .abortFitment tag payload => Sys2Proof.Machine.execAbortFitment tag payload s
  | .openRental tag payload => Sys2Proof.Machine.execOpenRental tag payload s
  | .closeRental tag payload => Sys2Proof.Machine.execCloseRental tag payload s
  | .listPeriods tag payload => Sys2Proof.Machine.execListPeriods tag payload s
  | .readPeriod tag payload => Sys2Proof.Machine.execReadPeriod tag payload s
  | .releasePeriods tag payload => Sys2Proof.Machine.execReleasePeriods tag payload s
  | .setStoreTiming tag payload => Sys2Proof.Machine.execSetStoreTiming tag payload s
  | .readStoreStatus tag payload => Sys2Proof.Machine.execReadStoreStatus tag payload s
  | .setDormancy tag payload => Sys2Proof.Machine.execSetDormancy tag payload s
  | .factoryClear tag payload => Sys2Proof.Machine.execFactoryClear tag payload s
  | .identify tag payload => Sys2Proof.Machine.execIdentify tag payload s
  | .readStatus tag payload => Sys2Proof.Machine.execReadStatus tag payload s
  | .takeNotice tag payload => Sys2Proof.Machine.execTakeNotice tag payload s
  | .setNoticeLevels tag payload => Sys2Proof.Machine.execSetNoticeLevels tag payload s
  | .unknownKind kind tag payload => Sys2Proof.Machine.execUnknownKind kind tag payload s
  | .frameArrival body crc => Sys2Proof.Machine.execFrameArrival body crc s
  | .gapTimerExpiry => Sys2Proof.Machine.execGapTimerExpiry s
  | .breakReceived sending => Sys2Proof.Machine.execBreakReceived sending s
  | .replySent => Sys2Proof.Machine.execReplySent s
  | .powerUp cut decay => Sys2Proof.Machine.execPowerUp cut decay s
  | .resetAsserted cut => Sys2Proof.Machine.execResetAsserted cut s
  | .resetReleased decay => Sys2Proof.Machine.execResetReleased decay s
  | .supplyLoss cut => Sys2Proof.Machine.execSupplyLoss cut s
  | .powerWarnAsserted => Sys2Proof.Machine.execPowerWarnAsserted s
  | .powerWarnCleared => Sys2Proof.Machine.execPowerWarnCleared s
  | .wallClockTick => Sys2Proof.Machine.execWallClockTick s
  | .activeEdge channel rising wait => Sys2Proof.Machine.execActiveEdge channel rising wait s
  | .stallTimerExpiry channel => Sys2Proof.Machine.execStallTimerExpiry channel s
  | .lineLevelChange line high wait => Sys2Proof.Machine.execLineLevelChange line high wait s
  | .lineFilterExpiry line => Sys2Proof.Machine.execLineFilterExpiry line s
  | .runConfirmExpiry => Sys2Proof.Machine.execRunConfirmExpiry s
  | .stopConfirmExpiry => Sys2Proof.Machine.execStopConfirmExpiry s
  | .settleTimerExpiry => Sys2Proof.Machine.execSettleTimerExpiry s
  | .launchWindowExpiry => Sys2Proof.Machine.execLaunchWindowExpiry s
  | .staleTimerExpiry => Sys2Proof.Machine.execStaleTimerExpiry s
  | .quietTimerExpiry => Sys2Proof.Machine.execQuietTimerExpiry s
  | .accrualTimerExpiry => Sys2Proof.Machine.execAccrualTimerExpiry s
  | .fitmentDeadlineExpiry => Sys2Proof.Machine.execFitmentDeadlineExpiry s
  | .checkpointTimerExpiry => Sys2Proof.Machine.execCheckpointTimerExpiry s
  | .scrubTimerExpiry decay => Sys2Proof.Machine.execScrubTimerExpiry decay s
  | .writeComplete found => Sys2Proof.Machine.execWriteComplete found s
  | .dormancyTimerExpiry => Sys2Proof.Machine.execDormancyTimerExpiry s
  | .characterReceived byte stop => Sys2Proof.Machine.execCharacterReceived byte stop s
  | .endOfStartUp => Sys2Proof.Machine.execEndOfStartUp s

end Sys2Proof.Machine
end

