-- ==== Sys2Proof/Machine/Step.lean ====
section
/-! DEFINITION. One step: the command at the front of the queue is taken and run; on an empty queue the block does what it does
of its own: in STARTING it reads the store, otherwise it idles (log 3). -/

namespace Sys2Proof.Machine

def step (s : State) : Host.Outcome State Fault Refusal :=
  match s.pending with
  | [] => .next s.tick
  | c :: rest => exec c { s with pending := rest }

/-- s with the command that a word spells put at the front of the queue; unchanged where the word spells none. -/
def State.withFetchWord (s : State) (nbits w : Nat) : State :=
  match decodeTableWord nbits w with
  | some c => { s with pending := c :: s.pending }
  | none => s

end Sys2Proof.Machine
end

