-- ==== Sys2Proof/Safety.lean ====
section
/-! DEFINITION. What the statements speak of: the parts of a state a command leaves alone, the request a command carries, when a
request can be taken at once, and the invariants of the machine. -/

namespace Sys2Proof

/-- The request that a request row carries: kind code, tag and payload (12 R197). -/
def Instr.request? : Instr → Option Machine.Request
  | .setChannel t p => some ⟨0x01, t, p⟩
  | .setLines t p => some ⟨0x02, t, p⟩
  | .setTime t p => some ⟨0x03, t, p⟩
  | .setEngineThresholds t p => some ⟨0x04, t, p⟩
  | .setGearTable t p => some ⟨0x05, t, p⟩
  | .setDriveline t p => some ⟨0x06, t, p⟩
  | .loadSample t p => some ⟨0x07, t, p⟩
  | .readLive t p => some ⟨0x08, t, p⟩
  | .setWearWeights t p => some ⟨0x09, t, p⟩
  | .readOrphans t p => some ⟨0x0A, t, p⟩
  | .clearOrphans t p => some ⟨0x0B, t, p⟩
  | .rearmService t p => some ⟨0x0C, t, p⟩
  | .readSlot t p => some ⟨0x0D, t, p⟩
  | .readPosition t p => some ⟨0x0E, t, p⟩
  | .discardSlot t p => some ⟨0x0F, t, p⟩
  | .beginFitment t p => some ⟨0x10, t, p⟩
  | .stageComponent t p => some ⟨0x11, t, p⟩
  | .exportOutgoing t p => some ⟨0x12, t, p⟩
  | .readFitment t p => some ⟨0x13, t, p⟩
  | .commitFitment t p => some ⟨0x14, t, p⟩
  | .abortFitment t p => some ⟨0x15, t, p⟩
  | .openRental t p => some ⟨0x16, t, p⟩
  | .closeRental t p => some ⟨0x17, t, p⟩
  | .listPeriods t p => some ⟨0x18, t, p⟩
  | .readPeriod t p => some ⟨0x19, t, p⟩
  | .releasePeriods t p => some ⟨0x1A, t, p⟩
  | .setStoreTiming t p => some ⟨0x1B, t, p⟩
  | .readStoreStatus t p => some ⟨0x1C, t, p⟩
  | .setDormancy t p => some ⟨0x1D, t, p⟩
  | .factoryClear t p => some ⟨0x1E, t, p⟩
  | .identify t p => some ⟨0x1F, t, p⟩
  | .readStatus t p => some ⟨0x20, t, p⟩
  | .takeNotice t p => some ⟨0x21, t, p⟩
  | .setNoticeLevels t p => some ⟨0x22, t, p⟩
  | .unknownKind k t p => if 1 ≤ k.toNat ∧ k.toNat ≤ 0x22 then none else some ⟨k, t, p⟩
  | _ => none

namespace Machine

/-- The parts of a state, for frames. -/
inductive Block
  | time | free | nextId | pins | clock | channels | lines | run | driveline | tally | table | fitment | book | store | ctl | sup | link
deriving DecidableEq, Repr

/-- t is s but for the parts named, and the queue of commands is the same. -/
def State.sameExcept (s t : State) (bs : List Block) : Prop :=
  t.pending = s.pending ∧
  (.time ∉ bs → t.now = s.now) ∧ (.free ∉ bs → t.free = s.free) ∧ (.nextId ∉ bs → t.nextId = s.nextId) ∧
  (.pins ∉ bs → t.pins = s.pins) ∧ (.clock ∉ bs → t.clock = s.clock) ∧ (.channels ∉ bs → t.channels = s.channels) ∧
  (.lines ∉ bs → t.lines = s.lines) ∧ (.run ∉ bs → t.run = s.run) ∧ (.driveline ∉ bs → t.driveline = s.driveline) ∧
  (.tally ∉ bs → t.tally = s.tally) ∧ (.table ∉ bs → t.table = s.table) ∧ (.fitment ∉ bs → t.fitment = s.fitment) ∧
  (.book ∉ bs → t.book = s.book) ∧ (.store ∉ bs → t.store = s.store) ∧ (.ctl ∉ bs → t.ctl = s.ctl) ∧
  (.sup ∉ bs → t.sup = s.sup) ∧ (.link ∉ bs → t.link = s.link)

/-- The Store Controller is the same but for dirty marks, Write Queue, write in flight and deferred records. -/
def StoreController.sameSettings (x y : StoreController) : Prop :=
  y.failed = x.failed ∧ y.failures = x.failures ∧ y.correctedCount = x.correctedCount ∧ y.repairedCount = x.repairedCount ∧
  y.checkpointTimer = x.checkpointTimer ∧ y.scrubTimer = x.scrubTimer ∧ y.scrubPointer = x.scrubPointer ∧
  y.timing = x.timing ∧ y.flush = x.flush ∧ y.identity = x.identity ∧ y.identityLost = x.identityLost

/-- Line n is in the Write Queue or in flight. -/
def StoreController.holds (x : StoreController) (n : Nat) : Prop := n ∈ x.queue.lines ∨ x.flightLine = some n

/-- The executor cannot take the head request (R186, R188): fewer than 2 free places, or a deferred kind while 4 records exist. -/
def State.blocked (s : State) (r : Request) : Prop :=
  s.freePlaces < 2 ∨ r.kind ∈ deferredKinds ∧ Config.recordPlaces ≤ s.ctl.records.length

/-- The request is, or at its arrival becomes, the head request, and the executor can take it in ACTIVE (R185, R186). -/
def State.ready (s : State) (r : Request) : Prop :=
  s.live = true ∧ s.sup.power = .active ∧ (s.link.intake = [] ∨ s.link.intake.head? = some r) ∧ 2 ≤ s.freePlaces ∧
  (r.kind ∈ deferredKinds → s.ctl.records.length < Config.recordPlaces)

/-- The Link Port after a request was taken and answered (R186): the request has left the intake queue, the reply is queued. -/
def State.answered (s t : State) (reply : Reply) : Prop :=
  t.link = { s.link with intake := s.link.intake.tail, replies := s.link.replies ++ [reply] }

/-- The same, where the request may also have raised or removed notices. -/
def State.replied (s t : State) (reply : Reply) : Prop :=
  t.link = { s.link with intake := s.link.intake.tail, replies := s.link.replies ++ [reply], notices := t.link.notices }

/-- The power state, the dormancy delay, the mark and the report stay; the dormancy timer follows its conditions (R178). -/
def State.samePower (s t : State) : Prop := t.sup = { s.sup with dormancy := t.sup.dormancy }

/-- A deferred record that awaits `lines` has been created for a request, each of the lines is queued or in flight (R156), and
what was queued or in flight still is. -/
def State.awaiting (s t : State) (r : Request) (lines : List Nat) : Prop :=
  t.ctl.records = s.ctl.records ++ [{ id := s.nextId, tag := r.tag, kind := r.kind, awaits := lines, silent := false }] ∧
  t.nextId = s.nextId + 1 ∧ ∀ n, t.ctl.holds n ↔ s.ctl.holds n ∨ n ∈ lines

/-- The command is refused with a reason and changes nothing else but the dormancy timer (R186). -/
def State.refuses (s : State) (c : Instr) (r : Request) (reason : Reason) : Prop :=
  ∃ t, exec c s = .next t ∧ s.answered t (.refused r.tag r.kind reason) ∧ s.samePower t ∧ s.sameExcept t [.link, .sup]

/-- The command is answered DONE with a body and changes nothing else but the dormancy timer (R186). -/
def State.reports (s : State) (c : Instr) (tag : Byte) (body : List Byte) : Prop :=
  ∃ t, exec c s = .next t ∧ s.answered t (.done tag body) ∧ s.samePower t ∧ s.sameExcept t [.link, .sup]

/-- The deadline of an open fitment starts again with its full timeout, and nothing else of it changes (R113). -/
def State.deadlineRestarted (s t : State) : Prop :=
  t.fitment = s.fitment.map fun c => { c with deadline := s.now + c.timeout * 250000 }

/-- A fitment request is refused with a reason: an open fitment's deadline restarts, and nothing else changes (R113, R186). -/
def State.turnsAway (s : State) (c : Instr) (r : Request) (reason : Reason) : Prop :=
  ∃ t, exec c s = .next t ∧ s.answered t (.refused r.tag r.kind reason) ∧ s.samePower t ∧ s.deadlineRestarted t ∧
    s.sameExcept t [.fitment, .link, .sup]

/-- The payload length that a request kind requires (R197); SET_GEAR_TABLE and STAGE_COMPONENT carry a count. -/
def requestLength (r : Request) : Nat :=
  if r.kind = 0x05 then 3 + 4 * field r.payload 2 1
  else if r.kind = 0x11 then 37 + 8 * field r.payload 36 1
  else [0, 11, 10, 4, 6, 0, 11, 1, 0, 56, 1, 1, 8, 2, 1, 1, 4, 0, 2, 0, 0, 0, 17, 17, 0, 5, 4, 3, 0, 2, 0, 0, 0, 0, 15].getD r.kind.toNat 0

/-- Service threshold and life limit after each is tested once against a tally (R91, R93). -/
def testedLimits (tally : Tally) (l : Service × Life) : Service × Life :=
  ({ l.1 with armed := l.1.armed && (match l.1.quantity with
      | some q => decide ((tally.value q).getD 0 < l.1.due)
      | none => true) },
   { l.2 with overLife := l.2.overLife || decide (0 < l.2.limit ∧ l.2.limit ≤ (tally.value l.2.quantity).getD 0) })

/-- A fitment has ended with its interim accumulator added back (R125, R126): to the outgoing slot, whose thresholds are then
tested once, or with no outgoing slot to the orphan tally. No line is queued and no record created. -/
def State.fitmentEnded (s t : State) (c : Context) : Prop :=
  t.fitment = none ∧ t.table.map = s.table.map ∧
  (∀ o, c.outgoing = some o →
    t.table.slots[o.1].tally = c.interim.merge s.table.slots[o.1].tally ∧
    t.table.slots[o.1].ident = { s.table.slots[o.1].ident with
      limits := s.table.slots[o.1].ident.limits.map (testedLimits t.table.slots[o.1].tally) } ∧ t.tally = s.tally) ∧
  (∀ j : Fin 20, c.outgoing.map Prod.fst ≠ some j → t.table.slots[j] = s.table.slots[j]) ∧
  (c.outgoing = none → t.tally = { s.tally with
    orphans := s.tally.orphans.set c.position.index (c.interim.merge s.tally.orphans[c.position.index]) }) ∧
  t.ctl = { s.ctl with dirty := t.ctl.dirty }

/-! ## What events hand on, in words of the state before (s) and the state after (t) -/

/-- A position's tallies after quanta: each of the position's with a nonzero amount is added (R10, R13, R78). -/
def borne (p : Position) (xs : List Quantum) (x : Tally) : Tally :=
  xs.foldl (fun x y => if y.position = p ∧ y.amount ≠ 0 then x.add y.quantity y.entry y.amount else x) x

/-- A record's place after quanta: each scalar one with a nonzero amount is added to the increment of its position (R11, R14). -/
def recorded (xs : List Quantum) (x : Place) : Place :=
  xs.foldl (fun x y => if y.quantity.isHist = false ∧ y.amount ≠ 0 then x.add y.position y.quantity y.amount else x) x

/-- The thresholds of a slot after additions (R79 step 4, R91, R93): each is tested where the value of its quantity changed (log 32: and
only there), `old` and `new` being the slot's tallies. -/
def changedLimits (old new : Tally) (l : Service × Life) : Service × Life :=
  ({ l.1 with armed := l.1.armed && (match l.1.quantity with
      | some q => decide (new.value q = old.value q ∨ (new.value q).getD 0 < l.1.due)
      | none => true) },
   { l.2 with overLife := l.2.overLife || decide (0 < l.2.limit ∧ new.value l.2.quantity ≠ old.value l.2.quantity ∧
      l.2.limit ≤ (new.value l.2.quantity).getD 0) })

/-- The pending notice of a kind after a raise with detail d, `n` the one before (R190). -/
def State.noticeAfter (s : State) (k : NoticeKind) (d : Detail) (n : Option Notice) : Option Notice :=
  if s.level k = 0 then n
  else some (match n with
    | some x => { x with repeats := min 255 (x.repeats + 1) }
    | none => { detail := d, repeats := 0 })

/-- Between s and t a notice of kind k has been raised once where `raised` holds, and not otherwise (R190). -/
def State.noticed (s t : State) (k : NoticeKind) (raised : Prop) (d : Detail) : Prop :=
  (raised → t.notice k = s.noticeAfter k d (s.notice k)) ∧ (¬raised → t.notice k = s.notice k)

/-- The holder of p takes the quanta of p alone: no two map entries name one slot (R101). -/
def State.ownHolder (s : State) (p : Position) : Prop := ∀ q, s.holder q = s.holder p → q = p ∨ s.holder p = .orphan

/-- Exactly the quanta xs have been routed (R9, R10, R11, R78, R79). Each position's holder, be it a FITTED slot, the interim accumulator
or the orphan tally, has taken the quanta of the position, a slot's thresholds have been tested where a value changed (log 32), and the
open record has taken the scalar quanta as increments, each in the line that keeps its position (log 6); no other tally, record or map
entry has changed. -/
def State.routed (s t : State) (xs : List Quantum) : Prop :=
  (∀ p, s.ownHolder p → t.tallyOf p (s.holder p) = borne p xs (s.tallyOf p (s.holder p)) ∧
    ∀ i : Fin 20, s.holder p = .slot i → t.table.slots[i].ident = { s.table.slots[i].ident with
      limits := s.table.slots[i].ident.limits.map (changedLimits s.table.slots[i].tally t.table.slots[i].tally) }) ∧
  (∀ p : Position, s.holder p ≠ .orphan → t.tally.orphans[p.index] = s.tally.orphans[p.index]) ∧
  (∀ i : Fin 20, (∀ p, s.holder p ≠ .slot i) → t.table.slots[i] = s.table.slots[i]) ∧ t.table.map = s.table.map ∧
  t.fitment = s.fitment.map (fun c => { c with interim := t.tallyOf c.position .interim }) ∧
  t.book.places[s.book.openPlace].lines = (recorded xs s.book.places[s.book.openPlace]).lines ∧
  (∀ pl : Fin 24, pl ≠ s.book.openPlace → t.book.places[pl] = s.book.places[pl]) ∧
  t.book.oldest = s.book.oldest ∧ t.book.newest = s.book.newest ∧ t.tally.weights = s.tally.weights

/-- The quanta an edge of a channel with function f brings, in the order of R34: those of a revolution (REVOLUTIONS by the driven source
while RUNNING, else TOWED_REVOLUTIONS by the towed source), a launch, an overspeed entry (R6, R7, R35, R63). -/
def State.edgeQuanta (s : State) (f : ChannelFunction) (rev launch speeding : Bool) : List Quantum :=
  let one (p : Position) (q : Quantity) : Quantum := { position := p, quantity := q, entry := 0, amount := 1 }
  (if rev = false then []
    else if s.run.state = .running then
      (Position.all.filter fun p => decide (p.drivenSource = some f)).map fun p => one p .revolutions
    else (Position.all.filter fun p => decide (p.towedSource = some f)).map fun p => one p .towedRevolutions) ++
  (if launch = true then [one .clutch .launches] else []) ++
  (if speeding = true ∧ f = .engineSpeed then [one .engine .overspeedEvents]
    else if speeding = true ∧ f = .gearIn then [one .gearbox .overspeedEvents] else [])

/-- What an edge of a channel with function f brings to the holders and the open record (R6, R7, R35, R63). -/
def State.edgeTallies (s t : State) (f : ChannelFunction) (rev launch speeding : Bool) : Prop :=
  s.routed t (s.edgeQuanta f rev launch speeding)

/-- A towed-revolution report of an output-side function (R69, R70): its count, the tow state, and at the threshold TOW_STARTED and
one more tow episode. The channel of the notice is the one that holds the function (log 31: none where no channel does). -/
def State.towReported (s t : State) (f : ChannelFunction) : Prop :=
  ∀ k, f.towIndex = some k →
    let d := s.driveline
    let counts := if d.tow = .notTowing then Vector.replicate 6 0 else d.towCounts
    let n := min 65535 (counts[k] + 1)
    let pl := s.book.openPlace
    t.driveline.towCounts = counts.set k n ∧ (d.tow = .towing → t.driveline.tow = .towing) ∧
    (d.tow ≠ .towing → d.settings.towThreshold ≤ n →
      t.driveline.tow = .towing ∧ (s.level .towStarted ≠ 0 → t.notice .towStarted ≠ none) ∧
      (s.level .towStarted ≠ 0 → s.notice .towStarted = none →
        t.notice .towStarted = some { detail := .channel (s.channelOf f), repeats := 0 }) ∧
      ∀ h i, s.book.places[pl].header = some h → h.info = some i →
        t.book.places[pl].header = some { h with info := some { i with tows := min 65535 (i.tows + 1) } }) ∧
    (d.tow ≠ .towing → (∀ j : Fin 6, (counts.set k n)[j] < d.settings.towThreshold) →
      t.driveline.tow = .towSuspect ∧ t.notice .towStarted = s.notice .towStarted ∧
      t.book.places[pl].header = s.book.places[pl].header)

/-- No tow report is made: RUNNING, or a function that is not output-side (R80). -/
def State.noTow (s t : State) : Prop := t.driveline.towCounts = s.driveline.towCounts ∧ t.driveline.tow = s.driveline.tow

/-- GEAR_OUT is STOPPED, or TURNING below the launch threshold (R62, R64). -/
def State.stands (s : State) : Prop :=
  s.shaft .gearOut = some .stopped ∨
  s.shaft .gearOut = some .turning ∧ s.shaftSpeed .gearOut < s.driveline.settings.launchThreshold * 10

/-- The clutch is in LAUNCH_PENDING with a launch window started now (R62, R64). -/
def State.pends (t : State) : Prop :=
  t.driveline.clutch = .launchPending ∧
  t.driveline.launchTimer = some (t.now + t.driveline.settings.launchWindow * 250000)

/-- The clutch state and its launch window are as before. -/
def State.clutchSame (s t : State) : Prop :=
  t.driveline.clutch = s.driveline.clutch ∧ t.driveline.launchTimer = s.driveline.launchTimer

/-- A launch in LAUNCH_PENDING ends in ENGAGED without a count; another clutch state stays (R63, R64). -/
def State.launchDropped (s t : State) : Prop :=
  (s.driveline.clutch = .launchPending → t.driveline.clutch = .engaged ∧ t.driveline.launchTimer = none) ∧
  (s.driveline.clutch ≠ .launchPending → s.clutchSame t)

/-- A run-state transition and what it does at clutch, PTO, tow detector and checkpoint timer (R53, R64, R68, R71, R158). -/
def State.ranTo (s t : State) (new : RunState) : Prop :=
  t.run.state = new ∧
  t.driveline.pto = (if t.lineActive .ptoOn = true then (if new = .running then .working else .on) else .off) ∧
  t.driveline.tow = (if new = .running then .notTowing else s.driveline.tow) ∧
  (s.run.state = .running → s.launchDropped t) ∧
  (s.run.state ≠ .running → new = .running → s.driveline.clutch = .engaged → t.stands → t.pends) ∧
  (s.run.state ≠ .running → ¬(new = .running ∧ s.driveline.clutch = .engaged ∧ t.stands) → s.clutchSame t) ∧
  (new = .running → s.run.state ≠ .running → s.driveline.tow = .notTowing → s.ctl.checkpointTimer = none →
    t.ctl.checkpointTimer = some (t.now + t.ctl.timing.interval * 250000))

/-- Each confirm timer follows its condition (R43): kept or started now while it holds, cancelled otherwise. -/
def State.timersFollow (s t : State) : Prop :=
  let timer (holds : Bool) (d : Timer) : Timer :=
    if holds = true then some (d.getD (t.now + t.run.settings.confirm * 250)) else none
  t.run.runTimer = timer t.runCondition s.run.runTimer ∧ t.run.stopTimer = timer t.stopCondition s.run.stopTimer

/-- The Run Detector is as before, but that its confirm timers follow their conditions (R43). -/
def State.confirmFollows (s t : State) : Prop :=
  t.run = { s.run with runTimer := t.run.runTimer, stopTimer := t.run.stopTimer } ∧ s.timersFollow t

/-- The gear state is evaluated (R55, R58, R59). -/
def State.gearJudged (s t : State) : Prop :=
  let out := t.shaftSpeed .gearOut
  let ratio := t.shaftSpeed .gearIn * 1000 / out
  let fits (e : GearEntry) : Prop :=
    e.direction = (if t.lineActive .reverse = true then .reverse else .forward) ∧
    e.ratio - e.ratio * e.tolerance / 1000 ≤ ratio ∧ ratio ≤ e.ratio + e.ratio * e.tolerance / 1000
  let able := t.shaft .gearIn = some .turning ∧ t.shaft .gearOut = some .turning ∧ t.lineActive .clutch = true
  let table := s.driveline.table
  (¬able → t.driveline.gear = .idle ∧ t.driveline.settleTimer = none) ∧
  (able → (out = 0 ∨ ∀ e ∈ table.entries, ¬fits e) → t.driveline.gear = .seeking ∧ t.driveline.settleTimer = none) ∧
  ∀ g e, able → out ≠ 0 → table.entries[g]? = some e → fits e → (∀ x ∈ table.entries.take g, ¬fits x) →
    ((s.driveline.gear = .settling g ∨ s.driveline.gear = .engaged g) →
      t.driveline.gear = s.driveline.gear ∧ t.driveline.settleTimer = s.driveline.settleTimer) ∧
    (s.driveline.gear ≠ .settling g → s.driveline.gear ≠ .engaged g →
      t.driveline.gear = .settling g ∧ t.driveline.settleTimer = some (t.now + table.settle * 250))

/-- Gear state and settle timer are as before. -/
def State.gearSame (s t : State) : Prop :=
  t.driveline.gear = s.driveline.gear ∧ t.driveline.settleTimer = s.driveline.settleTimer

/-- The quiet timer at a state announcement of an output-side function (R71). -/
def State.quietHeard (s t : State) : Prop :=
  let still := ∀ f ∈ outputSide, t.shaft f = none ∨ t.shaft f = some .stopped ∨ t.shaft f = some .disabled
  (t.driveline.tow = .notTowing → t.driveline.quietTimer = s.driveline.quietTimer) ∧
  (t.driveline.tow ≠ .notTowing → ¬still → t.driveline.quietTimer = none) ∧
  (t.driveline.tow ≠ .notTowing → still → t.driveline.quietTimer =
    some (s.driveline.quietTimer.getD (t.now + t.driveline.settings.quietTime * 250000)))

/-- The Run Detector and the Driveline Observer are as before. -/
def State.observersSame (s t : State) : Prop := t.run = s.run ∧ t.driveline = s.driveline

/-- A state announcement of a channel with function f that is not TURNING (R34, R48, R51, R58, R64, R71): NOISY moves the Run
Detector to BLIND, STOPPED to OFF from RUNNING and BLIND, and the driveline functions are evaluated. -/
def State.heardStill (s t : State) (f : ChannelFunction) (noisy : Bool) : Prop :=
  (f = .engineSpeed →
    (noisy = true → s.run.state ≠ .blind → s.ranTo t .blind) ∧ (noisy = true → s.run.state = .blind → s.observersSame t) ∧
    (noisy = false → (s.run.state = .running ∨ s.run.state = .blind) → s.ranTo t .off) ∧
    (noisy = false → s.run.state ≠ .running → s.run.state ≠ .blind → s.confirmFollows t ∧ t.driveline = s.driveline)) ∧
  (f ≠ .engineSpeed → t.run = s.run ∧ s.noTow t) ∧
  ((f = .gearIn ∨ f = .gearOut) → s.gearJudged t) ∧
  (f = .gearOut → (noisy = true → s.launchDropped t) ∧ (noisy = false → s.clutchSame t)) ∧
  (f.towIndex ≠ none → s.quietHeard t) ∧
  (f.towIndex = none → f ≠ .engineSpeed → f ≠ .gearIn → t.driveline = s.driveline) ∧ s.edgeTallies t f false false false

/-- The edge of a good period (R34, R35, R36, R48, R52, R58, R63, R69, R80), `v` the new speed: the revolution it completes, the
announcement of TURNING where the channel was not, and outside DORMANT the speed update and the overspeed entry. -/
def State.heardTurning (s t : State) (c : Channel) (v : Nat) (rev announced : Bool) : Prop :=
  let f := c.cfg.function
  let published := decide (s.sup.power ≠ .dormant)
  let heard := announced || published
  let launch := heard && decide (f = .gearOut ∧ s.driveline.clutch = .launchPending ∧
    s.driveline.settings.launchThreshold * 10 ≤ t.shaftSpeed .gearOut)
  let speeding := published && decide (0 < c.cfg.overspeed ∧ c.episode = false ∧ c.cfg.overspeed * 10 < v)
  s.edgeTallies t f rev launch speeding ∧ (speeding = true → s.level .overspeed ≠ 0 → t.notice .overspeed ≠ none) ∧
  (f = .engineSpeed →
    (heard = false → s.observersSame t) ∧
    (announced = true → s.run.state = .blind →
      s.ranTo t (if s.run.settings.runThreshold * 10 ≤ t.shaftSpeed .engineSpeed ∧ t.shaft .engineSpeed = some .turning
        then .running else .off)) ∧
    (heard = true → ¬(announced = true ∧ s.run.state = .blind) → s.confirmFollows t ∧ t.driveline = s.driveline)) ∧
  (f ≠ .engineSpeed → t.run = s.run ∧
    (rev = true → s.run.state ≠ .running → s.towReported t f) ∧
    ((rev = false ∨ s.run.state = .running ∨ f.towIndex = none) → s.noTow t)) ∧
  ((f = .gearIn ∨ f = .gearOut) → (heard = true → s.gearJudged t) ∧ (heard = false → s.gearSame t)) ∧
  (f ≠ .engineSpeed → (launch = true → t.driveline.clutch = .engaged ∧ t.driveline.launchTimer = none) ∧
    (launch = false → s.clutchSame t))

/-! ## What ends a write -/

/-- The lines queued at a class, oldest first (R152). -/
def WriteQueue.linesAt (q : WriteQueue) : WriteClass → List Nat
  | .flush => q.flush
  | .commit => q.commit
  | .checkpoint => q.checkpoint
  | .scrubRepair => q.repair

/-- The write of line n has started, the head of the queue q (R151, R153, R157). -/
def State.writes (s t : State) (q : WriteQueue) (n : Nat) : Prop :=
  t.ctl.flight = some { line := n, image := s.liveImage n, retry := false, pending := none,
                        records := t.ctl.records.map fun r => r.id } ∧
  t.ctl.queue.lines = q.lines.tail ∧
  (∀ d, t.ctl.queue.linesAt d = q.linesAt d ∨ (q.linesAt d).head? = some n ∧ t.ctl.queue.linesAt d = (q.linesAt d).tail)

/-- What the arbiter does once nothing is in flight, the queue being q, the dirty lines `dirty` and the phase of the holdup flush
`flush` (R153, R164, R178). -/
def State.looksAgain (s t : State) (q : WriteQueue) (dirty : List Nat) (flush : FlushPhase) : Prop :=
  let may := s.sup.power ≠ .holdup ∨ flush ≠ .complete
  let idle := t.ctl.flight = none ∧ t.ctl.queue = q ∧ t.ctl.dirty = dirty ∧ t.ctl.flush = flush
  (∀ n, may → q.lines.head? = some n → s.writes t q n ∧ t.ctl.dirty = dirty.filter (· != n) ∧ t.ctl.flush = flush ∧
    s.samePower t ∧ t.tally = s.tally) ∧
  (may → q.lines = [] →
    (s.sup.power = .active → idle ∧ s.samePower t ∧ t.tally = s.tally) ∧
    (s.sup.power = .draining → idle ∧ t.sup = { s.sup with power := .dormant, dormancy := none } ∧
      t.tally = { s.tally with accrual := none } ∧ t.ctl.checkpointTimer = none ∧ t.ctl.scrubTimer = none) ∧
    (s.sup.power = .holdup → flush ≠ .running → idle ∧ s.samePower t ∧ t.tally = s.tally) ∧
    (s.sup.power = .holdup → flush = .running →
      t.sup = { s.sup with mark := true, dormancy := none } ∧ t.ctl.flush = .marking ∧ t.ctl.queue.lines = [] ∧
      t.ctl.flight = some { line := 5, image := .map { s.mapLine with mark := true }, retry := false, pending := none,
                            records := t.ctl.records.map fun r => r.id } ∧
      t.ctl.dirty = dirty.filter (· != 5) ∧ t.tally = s.tally)) ∧
  (¬may → idle ∧ s.samePower t ∧ t.tally = s.tally)

/-! ## What start-up reads -/

/-- A configuration line, 1 to 4, holds settings that start-up applies (R172): it is not uncorrectable, and it is blank or a valid set. -/
def configIntact (st : Store) (n : Nat) : Bool :=
  decide ((storeGet st n).outcome ≠ .uncorrectable) && (match (storeGet st n).image with
    | .blank => true
    | .channels v => decide (n = 1) && channelsOk v
    | .gears x => decide (n = 2) && x.ok
    | .settings x => decide (n = 3) && x.ok
    | .weights w x => decide (n = 4) && weightsOk w && x.ok
    | _ => false)

/-- The scalar line of a slot gives the tallies xs of a profile (R102); `damaged` says that the slot is stored DAMAGED. -/
def scalarsStored (l : StoredLine) (p : Position) (damaged : Bool) (xs : List Scalar) : Prop :=
  l.outcome ≠ .uncorrectable ∧ l.image = .scalars xs ∧ xs.map (·.quantity) = p.scalarProfile ∧
  (damaged = false → ∀ x ∈ xs, x.value ≠ none)

/-- The histogram line of a slot gives the tallies xs of a profile (R102); a blank line does, where the profile has none. -/
def histsStored (l : StoredLine) (p : Position) (damaged : Bool) (xs : List Hist) : Prop :=
  l.outcome ≠ .uncorrectable ∧ (l.image = .hists xs ∨ l.image = .blank ∧ xs = []) ∧
  xs.map (·.quantity) = p.histProfile ∧
  (∀ x ∈ xs, if x.quantity = .loadSeconds then x.values.length = 6 else x.values.length ≤ 12) ∧
  (damaged = false → ∀ x ∈ xs, none ∉ x.values)

/-- An orphan line gives a position's tally (R172, R174): it is not uncorrectable, and it is blank or holds each quantity of the profile
and no other, LOAD_SECONDS with 6 entries, GEAR_SECONDS with at most 12, and no value marked absent. -/
def orphanIntact (st : Store) (p : Position) : Bool :=
  decide ((storeGet st (66 + p.code)).outcome ≠ .uncorrectable) && (match (storeGet st (66 + p.code)).image with
    | .blank => true
    | .orphan x =>
      decide (x.scalars.map (·.quantity) = p.scalarProfile) && decide (x.hists.map (·.quantity) = p.histProfile) &&
      x.hists.all (fun h => if h.quantity = .loadSeconds then decide (h.values.length = 6) else decide (h.values.length ≤ 12)) &&
      x.scalars.all (fun y => y.value.isSome) && x.hists.all (fun h => h.values.all Option.isSome)
    | _ => false)

/-- The state in which the identity line of a slot was stored (R109). -/
def storedState (st : Store) (i : Fin 20) : Option SlotState := match (storeGet st (6 + 3 * i.val)).image with
  | .slotIdent x => some x.state
  | _ => none

/-- The stored map entry of a position (R103): none where line 5 is damaged or holds none. -/
def storedEntry (st : Store) (p : Position) : Option Nat :=
  if (storeGet st 5).outcome = .uncorrectable then none
  else match (storeGet st 5).image with
    | .map m => (m.entries[p.code]?).join
    | _ => none

/-- The clean-shutdown mark is found set (R173): line 5 is intact and holds it set. -/
def markStored (st : Store) : Bool :=
  decide ((storeGet st 5).outcome ≠ .uncorrectable) && (match (storeGet st 5).image with
    | .map m => m.mark
    | _ => false)

/-- The header and the increment lists of a record of the Period Book, all four lines of its place intact (R131, R132, R175; which line
keeps a position: log 6). -/
def recordStored (st : Store) (q : Nat) (h : Header) (es : Fin 3 → List Entry) : Prop :=
  let l (n : Nat) := storeGet st (82 + 4 * (q % 24) + n)
  (l 0).outcome ≠ .uncorrectable ∧ (l 0).image = .header h ∧ h.seq = q ∧ (h.state ≠ .damaged → h.info ≠ none) ∧
  ∀ k : Fin 3, (l (k.val + 1)).outcome ≠ .uncorrectable ∧
    (l (k.val + 1)).image = .increments { seq := some q, entries := es k } ∧ entriesOk k (es k) = true

/-- Increment line k of the record q is no damaged line of it (R175): it is not uncorrectable, it carries the number q, and its entries
keep R132 (which line keeps a position: log 6). -/
def incrementsIntact (st : Store) (q : Nat) (k : Fin 3) : Bool :=
  let l := storeGet st (83 + 4 * (q % 24) + k.val)
  decide (l.outcome ≠ .uncorrectable) && (match l.image with
    | .increments x => decide (x.seq = some q) && entriesOk k x.entries
    | _ => false)

/-- The entries that increment line k of the record q keeps; none in a damaged line (R175). -/
def incrementsKept (st : Store) (q : Nat) (k : Fin 3) : List Entry :=
  if incrementsIntact st q k = true then (match (storeGet st (83 + 4 * (q % 24) + k.val)).image with
    | .increments x => x.entries
    | _ => [])
  else []

/-- The header that the header line of the record q's place gives it (R131, R175); none where the line is damaged. -/
def headerKept (st : Store) (q : Nat) : Option Header :=
  let l := storeGet st (82 + 4 * (q % 24))
  if l.outcome = .uncorrectable then none
  else match l.image with
    | .header h => if h.seq = q ∧ (h.state ≠ .damaged → h.info ≠ none) then some h else none
    | _ => none

/-- Each increment line of the record q is intact (R175). -/
def linesIntact (st : Store) (q : Nat) : Bool := (List.finRange 3).all (incrementsIntact st q)

/-- Commands run one after another. -/
def execAll : List Instr → State → Host.Outcome State Fault Refusal
  | [], s => .next s
  | c :: cs, s => match exec c s with
    | .next t => execAll cs t
    | o => o

/-! ## Invariants -/

/-- The bounds of the link (R185, R186, R188): intake queue, deferred records, and the places of the reply queue. -/
def State.linkBounds (s : State) : Prop :=
  s.link.intake.length ≤ Config.intakePlaces ∧ s.ctl.records.length ≤ Config.recordPlaces ∧
  s.link.replies.length + s.reserved ≤ Config.replyPlaces

/-- The Write Queue (R151, R152): no line twice among the queued lines and the line in flight, the dirty lines rising, and
every one of them a line of the store (R149). -/
def StoreController.queueOk (x : StoreController) : Prop :=
  (x.flightLine.toList ++ x.queue.lines).Nodup ∧ x.dirty.Pairwise (· < ·) ∧
  ∀ n, x.holds n ∨ n ∈ x.dirty → n < Config.lineCount

/-- The nonvolatile store keeps its canonical form, and the Write Queue is as R152 has it. -/
def State.storeOk (s : State) : Prop := Store.wf s.store ∧ s.ctl.queueOk

/-- The maxima of the counts (R18, R31, R50, R69, R155, R162, R183, R184, R188, R190): clock, noise counts, attempt total, tow counts,
write failures, corrected and repaired lines, frame errors, breaks, dropped replies, repeat counts of pending notices. -/
def State.countsOk (s : State) : Prop :=
  s.run.attempt ≤ Config.max32 ∧ (∀ i : Fin 14, (s.link.notices[i].map (·.repeats)).getD 0 ≤ Config.max8) ∧
  s.clock.value ≤ Config.max32 ∧ (∀ i : Fin 10, s.channels[i].noise ≤ Config.max16) ∧
  (∀ k : Fin 6, s.driveline.towCounts[k] ≤ Config.max16) ∧ s.ctl.failures ≤ Config.max16 ∧
  s.ctl.correctedCount ≤ Config.max16 ∧ s.ctl.repairedCount ≤ Config.max16 ∧ s.link.frameErrors ≤ Config.max16 ∧
  s.link.breaks ≤ Config.max16 ∧ s.link.dropped ≤ Config.max16

/-- The Position Map and the slots (R101): an entry names a slot exactly when that slot is FITTED at the entry's position, a FITTED slot
has a position and a kind that fits it; and an open fitment agrees with the map (R112, R116). -/
def State.tableOk (s : State) : Prop :=
  (∀ (p : Position) (i : Fin 20), s.table.map[p.index] = some i ↔
    s.table.slots[i].ident.state = .fitted ∧ s.table.slots[i].ident.position = some p) ∧
  (∀ i : Fin 20, s.table.slots[i].ident.state = .fitted →
    ∃ p k, s.table.slots[i].ident.position = some p ∧ s.table.slots[i].ident.kind = some k ∧ p ∈ k.fits) ∧
  (∀ c, s.fitment = some c → s.table.map[c.position.index] = c.outgoing.map Prod.fst ∧
    (c.action = .install ↔ c.outgoing = none) ∧ ∀ x, c.staged = some x → c.position ∈ x.kind.fits)

/-- The Period Book (R130, R131), once start-up has read the store: consecutive sequence numbers from the oldest to the newest, at most
24, each in its place, the newest OPEN and no other, and every other place free. -/
def State.bookOk (s : State) : Prop :=
  let b := s.book
  (s.sup.unread = true → s.sup.power = .starting ∧ s.sup.dormancy = none) ∧
  (s.sup.unread = false →
    1 ≤ b.oldest ∧ b.oldest ≤ b.newest ∧ b.newest ≤ Config.max32 ∧ b.newest < b.oldest + Config.bookCapacity ∧
    (∀ q, b.oldest ≤ q → q ≤ b.newest → ∃ h, b.places[placeOf q].header = some h ∧ h.seq = q ∧
      (h.state = .opened ↔ q = b.newest) ∧ (h.state ≠ .damaged → h.info ≠ none)) ∧
    (∀ p : Fin 24, (∀ q, b.oldest ≤ q → q ≤ b.newest → placeOf q ≠ p) → b.places[p].header = none))

end Machine

end Sys2Proof
end

