-- ==== Sys2Proof/Certificates/Slice0/Obligations.lean ====
section
/-! DEFINITION. The statements for the provers. -/

open Sys2Proof Sys2Proof.Machine

/-! ## The machine -/

/-- A step takes the command at the front of the queue and runs it on the state with the queue's rest. MODEL'S CHOICE (log 3, log 17): on
an empty queue the block makes steps 1 to 9 of start-up where they are still to be made, and idles otherwise. -/
def Obligations.StepTakesFrontCommand : Prop :=
  ∀ s : State,
    (∀ (c : Instr) (rest : List Instr), step { s with pending := c :: rest } = exec c { s with pending := rest }) ∧
    (s.pending = [] → s.live = true → s.sup.power = .starting → s.sup.unread = true → step s = .next s.startUp) ∧
    (s.pending = [] → ¬(s.live = true ∧ s.sup.power = .starting ∧ s.sup.unread = true) → step s = .next s)

/-- No command ends in a fault or a refusal, and none touches the queue of commands. -/
def Obligations.EveryCommandAnswersNext : Prop :=
  ∀ (c : Instr) (s : State), ∃ t, exec c s = .next t ∧ t.pending = s.pending

/-- The store keeps its canonical form, and the Write Queue keeps R152, at every step. -/
def Obligations.StoreInvariantKept : Prop :=
  ∀ s t : State, s.storeOk → step s = .next t → t.storeOk

/-- The intake queue, the deferred records and the reply queue keep their bounds at every step (R185, R186, R188). -/
def Obligations.LinkBoundsKept : Prop :=
  ∀ s t : State, s.linkBounds → step s = .next t → t.linkBounds

/-- The counts named in countsOk keep their maxima at every step: the clock's value, the noise counts, the attempt total, the tow counts,
the write failures, the corrected and repaired lines, frame errors, breaks and dropped replies, and the repeat counts of pending notices.
(Tallies, increments and the counts of a period record are not among them: what bounds those is in QuantumHasOneHolder,
EdgeIgnoredOrCaptured and StartUpRebuildsBook.) -/
def Obligations.CountsStayWithinMaxima : Prop :=
  ∀ s t : State, s.countsOk → step s = .next t → t.countsOk

/-- The slots and the Position Map keep R101 at every step: an entry names a slot exactly when that slot is FITTED at the entry's position,
with a kind that fits it; and an open fitment agrees with the map. -/
def Obligations.SlotsMatchMap : Prop :=
  ∀ s t : State, s.tableOk → step s = .next t → t.tableOk

/-- The Period Book keeps R130 at every step, once start-up has read the store: consecutive sequence numbers, at most 24, each in its place,
exactly one record OPEN, the newest, and every other place free. -/
def Obligations.BookStaysConsecutive : Prop :=
  ∀ s t : State, s.bookOk → step s = .next t → t.bookOk

/-- The invariants hold at reset. -/
def Obligations.InvariantsHoldAtReset : Prop :=
  State.reset.storeOk ∧ State.reset.linkBounds ∧ State.reset.countsOk ∧ State.reset.tableOk ∧ State.reset.bookOk

/-- What the end of start-up leaves on a fresh part, in the values the chapters give. MODEL'S CHOICE (log 4): State.reset is what the first
start-up of a part fresh from manufacture leaves: POWER_UP of a part whose every line is as manufactured, then the end of start-up. -/
def Obligations.ResetValues : Prop :=
  let s := State.reset
  s.sup.power = .active ∧ s.clock.value = 0 ∧ s.clock.isSet = false ∧
  (∀ i : Fin 10, s.channels[i].state = .disabled ∧ s.channels[i].cfg = .default ∧ s.channels[i].speed = some 0 ∧
    s.channels[i].noise = 0 ∧ s.channels[i].tooth = 0) ∧
  (∀ l : LineId, s.lines[l.index].setting = { filter := 20, activeHigh := true } ∧ s.lines[l.index].timer = none) ∧
  s.run.state = .blind ∧ s.run.settings = { runThreshold := 400, stopThreshold := 250, confirm := 1000 } ∧
  s.driveline.table = { settle := 300, entries := [] } ∧ s.driveline.gear = .idle ∧ s.driveline.lastGear = none ∧
  s.driveline.clutch = .released ∧ s.driveline.fresh = false ∧ s.driveline.load = none ∧ s.driveline.pto = .off ∧
  s.driveline.tow = .notTowing ∧ s.driveline.settings = .default ∧
  (∀ i : Fin 20, s.table.slots[i].ident.state = .empty) ∧ (∀ p : Position, s.table.map[p.index] = none) ∧
  s.fitment = none ∧ s.book.oldest = 1 ∧ s.book.newest = 1 ∧
  (s.book.openHeader.map fun h => (h.seq, h.state, h.info.map fun i => (i.kind, i.openReason, i.restarts, i.unwarned))) =
    some (1, .opened, some (.idle, .cleared, 1, 1)) ∧
  s.tally.weights = defaultWeights ∧ s.ctl.timing = { interval := 60, step := 10 } ∧ s.sup.delay = 300 ∧
  s.ctl.records = [] ∧ s.ctl.failed = [] ∧ s.link.intake = [] ∧ s.link.replies = [] ∧ s.link.frameErrors = 0 ∧
  s.link.breaks = 0 ∧ s.link.dropped = 0 ∧ s.pendingKinds = [.clockUnset] ∧ s.link.settings = .default ∧
  ∀ cut : WriteEnd,
    execAll [.powerUp cut [], .endOfStartUp]
      (State.reset.atRest.setPins { supply := false, reset := false, powerWarn := false }) = .next State.reset

/-! ## Channels (02) -/

/-- R24, R25, R28, R30, R7, R69, R70, R80, R179: a transition that is not active, an edge at a DISABLED channel and an edge in STARTING
change nothing; time passes. In STOPPED an active edge that finds no capture running starts one and advances the tooth counter; where that
completes a revolution, the revolution is routed to the holders and the open record, and reported to the tow detector unless the engine is
RUNNING. The edge wakes DRAINING and DORMANT. MODEL'S CHOICES: the edge's time is elapsed ticks (log 2); the increment line of a position
(log 6); a value that stays as it was tests no threshold (log 32); the channel in TOW_STARTED where none holds the function (log 31);
without supply or under RESET an edge is nothing but time (log 16). -/
def Obligations.EdgeIgnoredOrCaptured : Prop :=
  ∀ (s : State) (i : Fin 10) (rising : Bool) (wait : Nat),
    let c := s.channels[i]
    let e := if c.cfg.edgeMode = .both then 2 * c.cfg.teeth else c.cfg.teeth
    let f := c.cfg.function
    let rev := decide (e ≤ c.tooth + 1)
    ((s.live = false ∨ c.state = .disabled ∨ s.sup.power = .starting ∨ c.cfg.edgeMode.isActive rising = false) →
      exec (.activeEdge i rising wait) s = .next (s.pass wait)) ∧
    (s.live = true → s.sup.power ≠ .starting → c.state = .stopped → c.cfg.edgeMode.isActive rising = true → c.capture = none →
    ∃ t, exec (.activeEdge i rising wait) s = .next t ∧ t.now = s.now + wait ∧
      t.channels[i] = { c with capture := some (s.now + wait), tooth := if c.tooth + 1 < e then c.tooth + 1 else 0 } ∧
      (∀ j : Fin 10, j ≠ i → t.channels[j] = s.channels[j]) ∧ s.edgeTallies t f rev false false ∧ t.run = s.run ∧
      (rev = true → s.run.state ≠ .running → s.towReported t f) ∧
      (rev = true → s.run.state ≠ .running → f.towIndex ≠ none → t.driveline.quietTimer =
        if t.quiet = true then some (t.now + t.driveline.settings.quietTime * 250000) else s.driveline.quietTimer) ∧
      ((rev = false ∨ s.run.state = .running ∨ f.towIndex = none) → t.driveline = s.driveline) ∧
      t.sup.power = (if s.sup.power = .draining ∨ s.sup.power = .dormant then .active else s.sup.power) ∧
      s.sameExcept t [.time, .channels, .driveline, .tally, .table, .fitment, .book, .ctl, .sup, .link])

/-- R26, R27, R28, R29, R30, R35, R36, R7, R48, R52, R59, R63, R69, R70, R80: in STOPPED and TURNING a good period makes the channel
TURNING with the speed 600,000,000 ÷ (P × T × E) tenths, at most 200,000; its edge is accepted, and outside DORMANT the overspeed test is
made. The edge hands on, in the order of R34, the revolution it completes, the announcement of TURNING where the channel was STOPPED, and
outside DORMANT the speed update and the overspeed entry (heardTurning); what it counts goes to the positions' holders and the open record
(routed, with log 6 and log 32). MODEL'S CHOICES: the period P is the whole ticks elapsed from edge to edge, at most 65,535 (log 2); the
edge that wakes DORMANT publishes no speed update and makes no overspeed test (log 9). -/
def Obligations.GoodPeriodGivesSpeed : Prop :=
  ∀ (s : State) (i : Fin 10) (rising : Bool) (wait start : Nat),
    let c := s.channels[i]
    let e := if c.cfg.edgeMode = .both then 2 * c.cfg.teeth else c.cfg.teeth
    let tick := if c.cfg.timeBase = .fine then 1 else 64
    let p := min 65535 ((s.now + wait - start) / tick)
    let v := min 200000 (600000000 / (p * (4 * tick) * e))
    s.live = true → s.sup.power ≠ .starting → (c.state = .stopped ∨ c.state = .turning) →
    c.cfg.edgeMode.isActive rising = true → c.capture = some start → c.cfg.minPeriod ≤ p →
    ∃ t, exec (.activeEdge i rising wait) s = .next t ∧ t.now = s.now + wait ∧
      t.channels[i] = { c with
        state := .turning, speed := some v, capture := some (s.now + wait), short := 0, good := 0,
        tooth := if c.tooth + 1 < e then c.tooth + 1 else 0,
        episode :=
          if s.sup.power = .dormant then c.episode
          else if 0 < c.cfg.overspeed ∧ c.episode = false ∧ c.cfg.overspeed * 10 < v then true
          else if c.episode = true ∧ 2 * v < 19 * c.cfg.overspeed then false else c.episode } ∧
      (∀ j : Fin 10, j ≠ i → t.channels[j] = s.channels[j]) ∧
      s.heardTurning t c v (decide (e ≤ c.tooth + 1)) (decide (c.state = .stopped)) ∧
      t.sup.power = (if s.sup.power = .draining ∨ s.sup.power = .dormant then .active else s.sup.power) ∧
      s.sameExcept t [.time, .channels, .run, .driveline, .tally, .table, .fitment, .book, .ctl, .sup, .link]

/-- R28, R29, R31, R51, R58, R64, R71: in STOPPED and TURNING a short period discards its edge and counts it as noise; the third in a row
makes the channel NOISY with an invalid speed, SENSOR_FAULT is raised, and NOISY is announced: the Run Detector enters BLIND for
ENGINE_SPEED, and the driveline functions are evaluated (heardStill). No tally, increment or threshold changes. MODEL'S CHOICE (log 2):
the period judged is the whole ticks elapsed from edge to edge, at most 65,535. -/
def Obligations.ShortPeriodCountsNoise : Prop :=
  ∀ (s : State) (i : Fin 10) (rising : Bool) (wait start : Nat),
    let c := s.channels[i]
    let tick := if c.cfg.timeBase = .fine then 1 else 64
    let noise := min 65535 (c.noise + 1)
    s.live = true → s.sup.power ≠ .starting → (c.state = .stopped ∨ c.state = .turning) →
    c.cfg.edgeMode.isActive rising = true → c.capture = some start →
    min 65535 ((s.now + wait - start) / tick) < c.cfg.minPeriod →
    ∃ t, exec (.activeEdge i rising wait) s = .next t ∧ t.now = s.now + wait ∧
      (c.short < 2 → t.channels[i] = { c with capture := some (s.now + wait), noise := noise, short := c.short + 1 } ∧
        s.observersSame t ∧ s.edgeTallies t c.cfg.function false false false) ∧
      (2 ≤ c.short → t.channels[i] = { c with
        state := .noisy, speed := none, capture := some (s.now + wait), noise := noise, short := 0, good := 0, episode := false } ∧
        (s.level .sensorFault ≠ 0 → t.notice .sensorFault ≠ none) ∧ s.heardStill t c.cfg.function true) ∧
      (∀ j : Fin 10, j ≠ i → t.channels[j] = s.channels[j]) ∧
      s.sameExcept t [.time, .channels, .run, .driveline, .tally, .table, .fitment, .book, .ctl, .sup, .link]

/-- R31, R32, R34, R52: in NOISY an edge is discarded and counted as noise, a short period clears the good count, and the edge of the
eighth good period in a row is accepted and makes the channel TURNING, which is announced (heardTurning); what it counts goes to the
positions' holders and the open record (routed, with log 6 and log 32). MODEL'S CHOICE (log 2): the period judged, and the speed formed
from it, rest on the whole ticks elapsed from edge to edge, at most 65,535. -/
def Obligations.NoisyChannelRecovers : Prop :=
  ∀ (s : State) (i : Fin 10) (rising : Bool) (wait start : Nat),
    let c := s.channels[i]
    let e := if c.cfg.edgeMode = .both then 2 * c.cfg.teeth else c.cfg.teeth
    let tick := if c.cfg.timeBase = .fine then 1 else 64
    let p := min 65535 ((s.now + wait - start) / tick)
    let noise := min 65535 (c.noise + 1)
    s.live = true → s.sup.power ≠ .starting → c.state = .noisy → c.cfg.edgeMode.isActive rising = true →
    c.capture = some start →
    ∃ t, exec (.activeEdge i rising wait) s = .next t ∧ t.now = s.now + wait ∧
      (p < c.cfg.minPeriod → t.channels[i] = { c with capture := some (s.now + wait), noise := noise, good := 0 } ∧
        s.observersSame t ∧ s.edgeTallies t c.cfg.function false false false) ∧
      (c.cfg.minPeriod ≤ p → c.good < 7 →
        t.channels[i] = { c with capture := some (s.now + wait), noise := noise, good := c.good + 1 } ∧
        s.observersSame t ∧ s.edgeTallies t c.cfg.function false false false) ∧
      (c.cfg.minPeriod ≤ p → 7 ≤ c.good →
        t.channels[i].state = .turning ∧ t.channels[i].speed = some (min 200000 (600000000 / (p * (4 * tick) * e))) ∧
        t.channels[i].tooth = (if c.tooth + 1 < e then c.tooth + 1 else 0) ∧ t.channels[i].noise = c.noise ∧
        t.channels[i].good = 0 ∧ t.channels[i].short = 0 ∧ t.channels[i].capture = some (s.now + wait) ∧
        t.channels[i].cfg = c.cfg ∧
        s.heardTurning t c (min 200000 (600000000 / (p * (4 * tick) * e))) (decide (e ≤ c.tooth + 1)) true) ∧
      (∀ j : Fin 10, j ≠ i → t.channels[j] = s.channels[j]) ∧
      s.sameExcept t [.time, .channels, .run, .driveline, .tally, .table, .fitment, .book, .ctl, .sup, .link]

/-- R33, R48, R49, R52, R58, R64, R71: at the expiry of the stall timer, 65,535 ticks after the last active edge, the capture stops, the
counts become 0, and a TURNING or NOISY channel becomes STOPPED with speed 0. STOPPED is announced (heardStill): for ENGINE_SPEED the Run
Detector goes from RUNNING and BLIND to OFF, from RUNNING with KEY INACTIVE and in ACTIVE with every dirty line from 5 on queued or in
flight. -/
def Obligations.StallStopsChannel : Prop :=
  ∀ (s : State) (i : Fin 10) (start : Nat),
    let c := s.channels[i]
    let tick := if c.cfg.timeBase = .fine then 1 else 64
    c.state ≠ .disabled → c.capture = some start →
    ∃ t, exec (.stallTimerExpiry i) s = .next t ∧ t.now = max s.now (start + 65535 * tick) ∧
      t.channels[i] = { c with
        capture := none, short := 0, good := 0, state := .stopped,
        speed := if c.state = .stopped then c.speed else some 0,
        episode := if c.state = .stopped then c.episode else false } ∧
      (∀ j : Fin 10, j ≠ i → t.channels[j] = s.channels[j]) ∧
      (c.state = .stopped → s.sameExcept t [.time, .channels, .sup]) ∧
      (c.state ≠ .stopped → s.heardStill t c.cfg.function false) ∧
      (c.state ≠ .stopped → c.cfg.function = .engineSpeed → s.run.state = .running → s.lineActive .key = false →
        s.sup.power = .active → ∀ n ∈ s.ctl.dirty, 5 ≤ n → n ≤ 177 → t.ctl.holds n) ∧
      s.sameExcept t [.time, .channels, .run, .driveline, .tally, .table, .fitment, .book, .ctl, .sup, .link]

/-! ## Lines, clock (02) -/

/-- R37: a level that means another state than the filtered one starts the filter timer with the filter time; a level that agrees with the
filtered state cancels it; with a filter time of 0 the filtered state follows at once, and what then happens is what the expiry of a
filter timer does (FilterExpiryTurnsLine). -/
def Obligations.LineLevelMeetsFilter : Prop :=
  ∀ (s : State) (l : LineId) (high : Bool) (wait : Nat),
    let x := s.lines[l.index]
    s.live = true → s.sup.power ≠ .starting → x.level ≠ high →
    ∃ t, exec (.lineLevelChange l high wait) s = .next t ∧ t.now = s.now + wait ∧
      (((high == x.setting.activeHigh) = x.filtered →
        t.lines[l.index] = { x with level := high, timer := none } ∧ s.sameExcept t [.time, .lines]) ∧
      ((high == x.setting.activeHigh) ≠ x.filtered → 0 < x.setting.filter →
        t.lines[l.index] = { x with level := high, timer := some (s.now + wait + x.setting.filter * 250) } ∧
        s.sameExcept t [.time, .lines]) ∧
      ((high == x.setting.activeHigh) ≠ x.filtered → x.setting.filter = 0 →
        t.lines[l.index] = { x with level := high, filtered := !x.filtered, timer := none } ∧
        exec (.lineLevelChange l high wait) s = exec (.lineFilterExpiry l)
          ((s.pass wait).setLineRecord l { x with level := high, timer := some (s.now + wait) }))) ∧
      (∀ k : LineId, k ≠ l → t.lines[k.index] = s.lines[k.index]) ∧
      t.channels = s.channels ∧ t.clock = s.clock ∧ t.pins = s.pins ∧ t.store = s.store

/-- R37, R38, R44, R47, R50, R59, R62, R68, R179: when the filter timer expires, the filtered state takes the new value. CRANK ACTIVE in
OFF with KEY ACTIVE begins a crank attempt (CRANKS 1, run state CRANKING), in CRANKING it keeps or starts a measurement; CRANK INACTIVE
delivers the measurement as CRANK_TENTHS and adds it to the attempt total. CLUTCH and REVERSE evaluate the gear, and CLUTCH sets the
clutch state. PTO_ON sets the PTO state and counts an engagement while RUNNING. KEY, CRANK and PTO_ON becoming ACTIVE wake DRAINING and
DORMANT. What is counted goes to the position's holder, whichever it is, and to the open record (routed). MODEL'S CHOICES: the increment
line of a position (log 6); a value that stays as it was tests no threshold (log 32). -/
def Obligations.FilterExpiryTurnsLine : Prop :=
  ∀ (s : State) (l : LineId) (due : Nat),
    let x := s.lines[l.index]
    let active := !x.filtered
    let running := s.run.state = .running
    x.timer = some due → (x.level == x.setting.activeHigh) ≠ x.filtered →
    ∃ t, exec (.lineFilterExpiry l) s = .next t ∧ t.now = max s.now due ∧
      t.lines[l.index] = { x with filtered := active, timer := none } ∧
      (∀ k : LineId, k ≠ l → t.lines[k.index] = s.lines[k.index]) ∧
      t.channels = s.channels ∧ t.clock = s.clock ∧ t.pins = s.pins ∧ t.store = s.store ∧
      t.link = { s.link with notices := t.link.notices } ∧ t.tally.weights = s.tally.weights ∧
      t.sup.power = (if active = true ∧ (l = .key ∨ l = .crank ∨ l = .ptoOn) ∧
        (s.sup.power = .draining ∨ s.sup.power = .dormant) then .active else s.sup.power) ∧
      ((l = .key ∨ l = .reverse ∨ l = .clutch) →
        t.run = s.run ∧ t.book = s.book ∧ t.table = s.table ∧ t.fitment = s.fitment ∧ t.tally.orphans = s.tally.orphans ∧
        t.link = s.link) ∧
      (l = .key → t.driveline = s.driveline) ∧ (l = .reverse → s.gearJudged t ∧ s.clutchSame t) ∧
      (l = .clutch → s.gearJudged t ∧
        (active = true → running → t.stands → t.pends) ∧
        (active = true → ¬(running ∧ t.stands) → t.driveline.clutch = .engaged ∧ t.driveline.launchTimer = none) ∧
        (active = false → t.driveline.clutch = .released ∧ t.driveline.launchTimer = none)) ∧
      (l = .ptoOn → t.run = s.run ∧
        t.driveline = { s.driveline with pto := if active = true then (if running then .working else .on) else .off } ∧
        s.routed t (if active = true ∧ running then [quantum .pto .ptoEngagements 1] else [])) ∧
      (l = .crank → active = true →
        (s.run.state = .off → s.lineActive .key = true → s.ranTo t .cranking ∧ t.run.measure = some t.now ∧ t.run.attempt = 0 ∧
          t.run.settings = s.run.settings ∧ s.routed t [quantum .starter .cranks 1]) ∧
        (s.run.state = .cranking → s.timersFollow t ∧ t.driveline = s.driveline ∧ s.routed t [] ∧ t.run = { s.run with
          measure := some (s.run.measure.getD t.now), runTimer := t.run.runTimer, stopTimer := t.run.stopTimer }) ∧
        ((s.run.state = .running ∨ s.run.state = .blind ∨ s.run.state = .off ∧ s.lineActive .key = false) →
          s.confirmFollows t ∧ t.driveline = s.driveline ∧ s.routed t [])) ∧
      (l = .crank → active = false → t.driveline = s.driveline ∧
        (s.run.measure = none → s.confirmFollows t ∧ s.routed t []) ∧
        ∀ m, s.run.measure = some m →
          let n := (t.now - m) / 25000
          s.timersFollow t ∧ t.run = { s.run with
            measure := none, attempt := min 4294967295 (s.run.attempt + n), runTimer := t.run.runTimer,
            stopTimer := t.run.stopTimer } ∧
          s.routed t [quantum .starter .crankTenths n])

/-- R18, R19: each second the clock's value increases by 1 and stays at 4,294,967,295 once there, and its state does not change.
SET_TIME gives it a value and makes it SET, the next second falls one second later, and CLOCK_UNSET leaves the Notice Set. -/
def Obligations.ClockCountsAndIsSet : Prop :=
  ∀ s : State,
    (∀ due, s.clock.tick = some due →
      ∃ t, exec .wallClockTick s = .next t ∧ t.now = max s.now due ∧
        t.clock.value = min 4294967295 (s.clock.value + 1) ∧ t.clock.isSet = s.clock.isSet ∧
        t.clock.tick = some (t.now + 250000) ∧ s.sameExcept t [.time, .clock]) ∧
    (∀ (tag : Byte) (payload : List Byte), s.ready ⟨0x03, tag, payload⟩ → payload.length = 4 →
      ∃ t, exec (.setTime tag payload) s = .next t ∧ s.replied t (.done tag []) ∧ s.samePower t ∧
        t.clock = { value := field payload 0 4, isSet := true, tick := some (s.now + 250000) } ∧
        t.notice .clockUnset = none ∧ (∀ k, k ≠ .clockUnset → t.notice k = s.notice k) ∧ s.sameExcept t [.clock, .link, .sup])

/-! ## Run Detector, Driveline Observer (03, 04) -/

/-- R44, R45, R53, R64, R68, R71, R158: the run confirm expiry makes the engine RUNNING. From CRANKING it counts STARTS 1 for ENGINE and
STARTER; from OFF it counts STARTS 1 and UNCRANKED_STARTS 1 for ENGINE and raises UNCRANKED_START. A crank measurement keeps running. The
transition acts on clutch, PTO, tow detector and checkpoint timer (ranTo). The counts go to the positions' holders and to the open record
(routed, with the model's choices log 6 and log 32). -/
def Obligations.RunConfirmStartsEngine : Prop :=
  ∀ (s : State) (due : Nat), s.run.runTimer = some due → s.runCondition = true →
    ∃ t, exec .runConfirmExpiry s = .next t ∧ t.now = max s.now due ∧ s.ranTo t .running ∧ t.run.runTimer = none ∧
      t.run.measure = s.run.measure ∧ t.run.attempt = s.run.attempt ∧ t.run.settings = s.run.settings ∧
      (s.run.state = .cranking → s.routed t [quantum .engine .starts 1, quantum .starter .starts 1]) ∧
      (s.run.state = .off → s.routed t [quantum .engine .starts 1, quantum .engine .uncrankedStarts 1]) ∧
      (s.run.state = .cranking → t.notice .uncrankedStart = s.notice .uncrankedStart) ∧
      (s.run.state = .off → s.level .uncrankedStart ≠ 0 → t.notice .uncrankedStart ≠ none) ∧
      s.sameExcept t [.time, .run, .driveline, .tally, .table, .fitment, .book, .ctl, .sup, .link]

/-- R46, R48, R49, R53, R64, R68: the stop confirm expiry makes the run state OFF. From CRANKING it counts FAILED_CRANKS 1 for STARTER and
raises FAILED_START with the attempt total; nothing else is counted (routed, with the model's choices log 6 and log 32); the transition
acts on clutch and PTO (ranTo); from RUNNING with KEY INACTIVE, in ACTIVE, every dirty line from 5 on is then queued or in flight. -/
def Obligations.StopConfirmStopsEngine : Prop :=
  ∀ (s : State) (due : Nat), s.run.stopTimer = some due → s.stopCondition = true →
    ∃ t, exec .stopConfirmExpiry s = .next t ∧ t.now = max s.now due ∧ s.ranTo t .off ∧ t.run.stopTimer = none ∧
      t.run.measure = s.run.measure ∧ t.run.attempt = s.run.attempt ∧ t.run.settings = s.run.settings ∧
      s.routed t (if s.run.state = .cranking then [quantum .starter .failedCranks 1] else []) ∧
      (s.run.state = .cranking → s.level .failedStart ≠ 0 → t.notice .failedStart ≠ none) ∧
      (s.run.state = .cranking → s.level .failedStart ≠ 0 → s.notice .failedStart = none →
        t.notice .failedStart = some { detail := .tenths (min 65535 s.run.attempt), repeats := 0 }) ∧
      (s.run.state = .running → s.lineActive .key = false → s.sup.power = .active →
        ∀ n ∈ s.ctl.dirty, 5 ≤ n → n ≤ 177 → t.ctl.holds n) ∧
      s.sameExcept t [.time, .run, .driveline, .tally, .table, .fitment, .book, .ctl, .sup, .link]

/-- R60: when the settle timer expires the gear is ENGAGED and becomes the last engaged gear; a shift is counted for GEARBOX when the last
engaged gear was another entry, by GEARBOX's holder and the open record (routed, with the model's choices log 6 and log 32), and none when
it was none or the same. -/
def Obligations.SettledGearEngages : Prop :=
  ∀ (s : State) (due g : Nat), s.driveline.settleTimer = some due → s.driveline.gear = .settling g →
    ∃ t, exec .settleTimerExpiry s = .next t ∧ t.now = max s.now due ∧
      t.driveline = { s.driveline with gear := .engaged g, lastGear := some g, settleTimer := none } ∧
      ((s.driveline.lastGear = none ∨ s.driveline.lastGear = some g) → s.sameExcept t [.time, .driveline]) ∧
      (∀ h, s.driveline.lastGear = some h → h ≠ g → s.routed t [quantum .gearbox .shifts 1]) ∧
      s.sameExcept t [.time, .driveline, .tally, .table, .fitment, .book, .ctl, .link]

/-- R63, R67, R71: the expiries of the launch window, the stale timer and the quiet timer. LAUNCH_PENDING becomes ENGAGED and no launch
is counted; the load becomes STALE, keeps its value, and LOAD_STALE is raised; the tow state becomes NOT_TOWING and the counts
keep their values. -/
def Obligations.DrivelineTimersExpire : Prop :=
  ∀ (s : State) (due : Nat),
    (s.driveline.launchTimer = some due → s.driveline.clutch = .launchPending →
      ∃ t, exec .launchWindowExpiry s = .next t ∧ t.now = max s.now due ∧
        t.driveline = { s.driveline with clutch := .engaged, launchTimer := none } ∧ s.sameExcept t [.time, .driveline]) ∧
    (s.driveline.staleTimer = some due →
      ∃ t, exec .staleTimerExpiry s = .next t ∧ t.now = max s.now due ∧
        t.driveline = { s.driveline with fresh := false, staleTimer := none } ∧
        (s.level .loadStale ≠ 0 → t.notice .loadStale ≠ none) ∧ (s.level .loadStale = 0 → t.link = s.link) ∧
        s.sameExcept t [.time, .driveline, .link]) ∧
    (s.driveline.quietTimer = some due →
      ∃ t, exec .quietTimerExpiry s = .next t ∧ t.now = max s.now due ∧
        t.driveline = { s.driveline with tow := .notTowing, quietTimer := none } ∧ s.samePower t ∧
        s.sameExcept t [.time, .driveline, .sup])

/-- R66: a load of 0 to 100 is taken: the load is FRESH with the sample's value, the stale timer starts, and the reply is DONE with
an empty body; a load above 100 is refused OUT_OF_RANGE. -/
def Obligations.LoadSampleTaken : Prop :=
  ∀ (s : State) (tag b : Byte), s.ready ⟨0x07, tag, [b]⟩ →
    (b.toNat ≤ 100 → ∃ t, exec (.loadSample tag [b]) s = .next t ∧ s.answered t (.done tag []) ∧ s.samePower t ∧
      t.driveline = { s.driveline with
        fresh := true, load := some b.toNat, staleTimer := some (s.now + s.driveline.settings.staleTime * 250) } ∧
      s.sameExcept t [.driveline, .link, .sup]) ∧
    (100 < b.toNat → s.refuses (.loadSample tag [b]) ⟨0x07, tag, [b]⟩ .outOfRange)

/-! ## Tally Engine (05, 01) -/

/-- R81, R82, R83, R85: at its expiry the accrual timer starts again, and the second's quanta, each formed from the one reading before any
is routed, are routed in position order and then quantity order: every position's holder takes those of its position, be it a FITTED slot
(whose thresholds are tested), the interim accumulator or the orphan tally, and the open record takes the scalar ones as increments.
MODEL'S CHOICES: the increment line of a position (log 6); a value that stays as it was tests no threshold (log 32). -/
def Obligations.AccrualSecondRoutesQuanta : Prop :=
  ∀ (s : State) (due : Nat), s.tally.accrual = some due →
    ∃ t, exec .accrualTimerExpiry s = .next t ∧ t.now = max s.now due ∧ t.tally.accrual = some (t.now + 250000) ∧
      s.routed t (Position.all.flatMap fun p => p.profile.map fun q =>
        { position := p, quantity := q, entry := (s.secondAmount p q).2, amount := (s.secondAmount p q).1 }) ∧
      t.book.places[s.book.openPlace].header = s.book.places[s.book.openPlace].header ∧
      s.sameExcept t [.time, .tally, .table, .fitment, .book, .ctl, .link]

/-- R6, R8, R65, R67, R82, R83, R84, R86: what the accrual second reads for each per-second quantity: the time quantities, LOAD_SECONDS and
GEAR_SECONDS with their entries, the wear weight of the position's group and column, and the slip amount. -/
def Obligations.AccrualAmounts : Prop :=
  ∀ (s : State) (p : Position),
    let running := s.run.state = .running
    let v := s.driveline.load.getD 0
    let bin := if s.driveline.fresh = false then 0
      else if v < 20 then 1 else if v < 40 then 2 else if v < 60 then 3 else if v < 80 then 4 else 5
    let turns (f : Option ChannelFunction) : Prop := ∃ g, f = some g ∧ s.shaft g = some .turning
    let weight (row col : Nat) := s.tally.weights.toList.getD (7 * row + col) 0
    let diff := (max (s.shaftSpeed .engineSpeed) (s.shaftSpeed .gearIn) - min (s.shaftSpeed .engineSpeed) (s.shaftSpeed .gearIn)) / 10
    let load := if s.driveline.fresh = true then v else s.driveline.settings.defaultLoad
    let slips := running ∧ s.lineActive .clutch = true ∧ (s.shaft .gearIn = some .turning ∨ s.shaft .gearIn = some .stopped)
    (s.secondAmount p .runSeconds = (if s.run.state = .running then 1 else 0, 0)) ∧
    (s.secondAmount p .blindSeconds = (if s.run.state = .blind ∧ s.lineActive .key = true then 1 else 0, 0)) ∧
    (s.secondAmount p .ptoSeconds = (if s.driveline.pto = .working then 1 else 0, 0)) ∧
    (∀ g, s.driveline.gear = .engaged g → s.secondAmount p .gearSeconds = (1, g)) ∧
    ((∀ g, s.driveline.gear ≠ .engaged g) → (s.secondAmount p .gearSeconds).1 = 0) ∧
    (running → s.secondAmount p .loadSeconds = (1, bin)) ∧ (¬running → (s.secondAmount p .loadSeconds).1 = 0) ∧
    (∀ i, s.channelOf (if p = .engine then .engineSpeed else .gearIn) = some i →
      s.secondAmount p .overspeedSeconds = (if s.channels[i].episode = true then 1 else 0, 0)) ∧
    (s.channelOf (if p = .engine then .engineSpeed else .gearIn) = none → s.secondAmount p .overspeedSeconds = (0, 0)) ∧
    ((s.driveline.tow = .towing ∧ turns p.towedSource) → s.secondAmount p .towSeconds = (1, 0)) ∧
    (¬(s.driveline.tow = .towing ∧ turns p.towedSource) → s.secondAmount p .towSeconds = (0, 0)) ∧
    (p = .engine → running → s.secondAmount p .wearUnits = (weight 0 bin, 0)) ∧
    (p = .engine → ¬running → (s.secondAmount p .wearUnits).1 = 0) ∧
    (p = .gearbox → running → s.secondAmount p .wearUnits = (weight 1 bin, 0)) ∧
    (p = .gearbox → ¬running → turns (some .gearOut) → s.secondAmount p .wearUnits = (weight 1 6, 0)) ∧
    (p = .gearbox → ¬running → ¬turns (some .gearOut) → (s.secondAmount p .wearUnits).1 = 0) ∧
    (∀ g : WearGroup, p.wearGroup = some g → (g = .driveline ∨ g = .hub) →
      (turns p.towedSource → s.secondAmount p .wearUnits = (weight g.row.val (if running then bin else 6), 0)) ∧
      (¬turns p.towedSource → (s.secondAmount p .wearUnits).1 = 0)) ∧
    (p = .pto → s.driveline.pto = .working → s.secondAmount p .wearUnits = (weight 0 bin, 0)) ∧
    (p = .pto → s.driveline.pto ≠ .working → (s.secondAmount p .wearUnits).1 = 0) ∧
    ((p = .starter ∨ p = .clutch ∨ p = .aux1 ∨ p = .aux2) → (s.secondAmount p .wearUnits).1 = 0) ∧
    (slips → s.driveline.settings.slipTolerance < diff → s.secondAmount p .slipUnits = (diff * load / 100, 0)) ∧
    (¬(slips ∧ s.driveline.settings.slipTolerance < diff) → s.secondAmount p .slipUnits = (0, 0))

/-- R10, R11, R13, R14, R79, R91, R93, R132, R190: a quantum goes to the one holder of its position and, if it is scalar, to the open
record, and to no other tally. The holder is the interim accumulator while an open fitment holds the position, else the FITTED slot its
map entry names, else the orphan tally. A value stops at 281,474,976,710,655 and an increment at 4,294,967,295; what would pass it sets
the mark, and what reaches it exactly sets none. A mark that goes from clear to set raises SATURATED, naming the holder or the period, the
position, the quantity and a histogram's entry. A slot's service threshold and life limit are tested against the new value, which disarms
the one or sets OVER_LIFE, and raises SERVICE_DUE or LIFE_LIMIT. Exactly the lines whose live image changed are marked dirty. The
increments are stated of an increment line in the order of R132. MODEL'S CHOICES: which line keeps a position (log 6); where one quantum
sets both marks the holder's raise comes first (log 30); a value that stays as it was tests no threshold (log 32). -/
def Obligations.QuantumHasOneHolder : Prop :=
  (∀ (s : State) (x : Quantum), x.amount ≠ 0 →
    let h := s.holder x.position
    let t := s.route x
    let old := s.tallyOf x.position h
    let new := t.tallyOf x.position h
    let k := x.position.incrementLine
    let a := s.book.places[s.book.openPlace]
    let b := t.book.places[s.book.openPlace]
    (∀ c, s.fitment = some c → c.position = x.position → h = .interim) ∧
    ((∀ c, s.fitment = some c → c.position ≠ x.position) →
      (∀ i, s.table.map[x.position.index] = some i → s.table.slots[i].ident.state = .fitted → h = .slot i) ∧
      (∀ i, s.table.map[x.position.index] = some i → s.table.slots[i].ident.state ≠ .fitted → h = .orphan) ∧
      (s.table.map[x.position.index] = none → h = .orphan)) ∧
    new = old.add x.quantity x.entry x.amount ∧
    new.scalars = old.scalars.map (fun y => if y.quantity = x.quantity then y.add x.amount else y) ∧
    new.hists = old.hists.map (fun y => match y.values[x.entry]? with
      | some (some v) => if y.quantity = x.quantity then { y with
          values := y.values.set x.entry (some (min 281474976710655 (v + x.amount))),
          saturated := y.saturated || decide (281474976710655 < v + x.amount) } else y
      | _ => y) ∧
    (∀ i : Fin 20, h ≠ .slot i → t.table.slots[i] = s.table.slots[i]) ∧
    (∀ p : Position, h ≠ .orphan ∨ p ≠ x.position → t.tally.orphans[p.index] = s.tally.orphans[p.index]) ∧
    (h ≠ .interim → t.fitment = s.fitment) ∧ t.table.map = s.table.map ∧
    (∀ pl : Fin 24, pl ≠ s.book.openPlace → t.book.places[pl] = s.book.places[pl]) ∧
    (x.quantity.isHist = true → t.book = s.book) ∧
    (x.quantity.isHist = false → b = a.add x.position x.quantity x.amount ∧ b.header = a.header ∧
      (∀ j : Fin 3, j ≠ k → b.lines[j] = a.lines[j]) ∧ b.lines[k].seq = a.lines[k].seq ∧
      ((a.lines[k].entries.map fun e => e.position.code).Pairwise (· < ·) →
        (∀ e ∈ a.lines[k].entries, (e.pairs.map fun y => y.quantity.code).Pairwise (· < ·)) →
        b.increment x.position x.quantity = min 4294967295 (a.increment x.position x.quantity + x.amount) ∧
        b.mark x.position x.quantity =
          (a.mark x.position x.quantity || decide (4294967295 < a.increment x.position x.quantity + x.amount)) ∧
        ∀ (p : Position) (q : Quantity), p ≠ x.position ∨ q ≠ x.quantity →
          b.increment p q = a.increment p q ∧ b.mark p q = a.mark p q)) ∧
    -- the thresholds
    (∀ i : Fin 20, h = .slot i →
      let armed (y : State) := (y.table.slots[i].ident.limits.map fun l => l.1.armed).getD false
      let past (y : State) := (y.table.slots[i].ident.limits.map fun l => l.2.overLife).getD false
      t.table.slots[i].ident = { s.table.slots[i].ident with
        limits := s.table.slots[i].ident.limits.map (changedLimits old new) } ∧
      s.noticed t .serviceDue (armed s = true ∧ armed t = false) (.slot i) ∧
      s.noticed t .lifeLimit (past s = false ∧ past t = true) (.slot i)) ∧
    ((∀ i : Fin 20, h ≠ .slot i) → t.notice .serviceDue = s.notice .serviceDue ∧ t.notice .lifeLimit = s.notice .lifeLimit) ∧
    -- SATURATED
    (let named := match h with
      | .slot i => .slot i
      | .interim => .interim
      | .orphan => .orphan
    let entry := if x.quantity.isHist = true then some x.entry else none
    let first := if old.mark x.quantity = false ∧ new.mark x.quantity = true then
        s.noticeAfter .saturated (.saturated named x.position x.quantity entry) (s.notice .saturated)
      else s.notice .saturated
    t.notice .saturated =
      if a.mark x.position x.quantity = false ∧ b.mark x.position x.quantity = true then
        s.noticeAfter .saturated (.saturated (.period s.book.newest) x.position x.quantity none) first
      else first) ∧
    -- nothing else
    (∀ k, k ≠ .saturated → k ≠ .serviceDue → k ≠ .lifeLimit → t.notice k = s.notice k) ∧
    t.link = { s.link with notices := t.link.notices } ∧ t.ctl = { s.ctl with dirty := t.ctl.dirty } ∧
    (∀ n, n ∈ t.ctl.dirty ↔ n ∈ s.ctl.dirty ∨ t.liveImage n ≠ s.liveImage n) ∧
    s.sameExcept t [.tally, .table, .fitment, .book, .ctl, .link]) ∧
  ∀ (x : Scalar) (v n : Nat), x.value = some v →
    (v + n ≤ 281474976710655 → x.add n = { x with value := some (v + n) }) ∧
    (281474976710655 < v + n → x.add n = { x with value := some 281474976710655, saturated := true })

/-- R90: CLEAR_ORPHANS sets every value of the position's orphan tally to 0 and clears its marks; the reply is DEFERRED with an
empty body, and the record awaits the orphan line. An unknown position is refused OUT_OF_RANGE. -/
def Obligations.OrphansCleared : Prop :=
  ∀ (s : State) (tag : Byte),
    (∀ b : Byte, 15 < b.toNat → s.ready ⟨0x0B, tag, [b]⟩ → s.refuses (.clearOrphans tag [b]) ⟨0x0B, tag, [b]⟩ .outOfRange) ∧
    ∀ p : Position,
    let r : Request := ⟨0x0B, tag, [BitVec.ofNat 8 p.code]⟩
    s.ready r →
    ∃ t, exec (.clearOrphans tag [BitVec.ofNat 8 p.code]) s = .next t ∧ s.answered t (.deferred tag []) ∧ s.samePower t ∧
      (∀ x ∈ t.tally.orphans[p.index].scalars, x.value = some 0 ∧ x.saturated = false) ∧
      (∀ x ∈ t.tally.orphans[p.index].hists, (∀ v ∈ x.values, v = some 0) ∧ x.saturated = false) ∧
      t.tally.orphans[p.index].scalars.map (·.quantity) = s.tally.orphans[p.index].scalars.map (·.quantity) ∧
      (∀ q : Position, q ≠ p → t.tally.orphans[q.index] = s.tally.orphans[q.index]) ∧
      t.tally.weights = s.tally.weights ∧ t.tally.accrual = s.tally.accrual ∧
      s.awaiting t r [66 + p.code] ∧ s.ctl.sameSettings t.ctl ∧ s.sameExcept t [.nextId, .tally, .ctl, .link, .sup]

/-- R92, R91: REARM_SERVICE. The refusals are made in the order of R92: OUT_OF_RANGE, SLOT_EMPTY, WRONG_STATE, POSITION_HELD,
NOT_IN_PROFILE. When it is taken the threshold gets its quantity and due value; it stays armed unless the value has reached the due value,
and then SERVICE_DUE is raised and it is disarmed. -/
def Obligations.ServiceRearmed : Prop :=
  ∀ (s : State) (tag : Byte) (payload : List Byte),
    let r : Request := ⟨0x0C, tag, payload⟩
    let c : Instr := .rearmService tag payload
    let due := field payload 2 6
    s.ready r → payload.length = 8 →
    ((20 ≤ field payload 0 1 ∨ 20 ≤ field payload 1 1) → s.refuses c r .outOfRange) ∧
    ∀ (i : Fin 20) (q : Quantity), field payload 0 1 = i.val → field payload 1 1 = q.code →
      let old := s.table.slots[i]
      (old.ident.state = .empty → s.refuses c r .slotEmpty) ∧
      ((old.ident.state = .damaged ∨ old.ident.state = .stray) → s.refuses c r .wrongState) ∧
      (old.ident.state = .fitted → s.isOutgoing i = true → s.refuses c r .positionHeld) ∧
      ∀ p, old.ident.state = .fitted → s.isOutgoing i = false → old.ident.position = some p →
        (q ∉ p.scalarProfile → s.refuses c r .notInProfile) ∧
        ∀ l, q ∈ p.scalarProfile → old.ident.limits = some l →
          let armed : Service := { quantity := some q, due := due, armed := decide ((old.tally.value q).getD 0 < due) }
          ∃ t, exec c s = .next t ∧ s.replied t (.deferred tag []) ∧ s.samePower t ∧
            t.table.slots[i] = { old with ident := { old.ident with limits := some (armed, l.2) } } ∧
            (∀ j : Fin 20, j ≠ i → t.table.slots[j] = s.table.slots[j]) ∧ t.table.map = s.table.map ∧
            (due ≤ (old.tally.value q).getD 0 → s.level .serviceDue ≠ 0 → t.notice .serviceDue ≠ none) ∧
            ((old.tally.value q).getD 0 < due → t.link.notices = s.link.notices) ∧
            s.awaiting t r [6 + 3 * i.val] ∧ s.ctl.sameSettings t.ctl ∧ s.sameExcept t [.nextId, .table, .ctl, .link, .sup]

/-! ## Settings requests -/

/-- R22, R23: SET_CHANNEL. The checks are made in order: a channel number or a setting outside its values is refused
OUT_OF_RANGE, a function that another channel holds FUNCTION_TAKEN, a TURNING or NOISY channel CHANNEL_ACTIVE. When it is taken
the channel's measurement starts afresh under the new settings, its noise count is kept, an ENGINE_SPEED channel given up or
disabled moves the Run Detector to BLIND, and the record awaits line 1. -/
def Obligations.ChannelSetOrRefused : Prop :=
  ∀ (s : State) (tag : Byte) (payload : List Byte),
    let r : Request := ⟨0x01, tag, payload⟩
    let f (off len : Nat) := field payload off len
    let ok := f 0 1 ≤ 9 ∧ f 1 1 ≤ 10 ∧ 1 ≤ f 2 2 ∧ f 2 2 ≤ 1023 ∧ f 4 1 ≤ 2 ∧ f 5 1 ≤ 1 ∧ 1 ≤ f 6 2 ∧
      (f 8 2 = 0 ∨ 100 ≤ f 8 2 ∧ f 8 2 ≤ 20000) ∧ f 10 1 ≤ 1
    s.ready r → payload.length = 11 →
    (¬ok → s.refuses (.setChannel tag payload) r .outOfRange) ∧
    ∀ (i : Fin 10) (g : ChannelFunction), f 0 1 = i.val → ChannelFunction.ofCode (f 1 1) = some g → ok →
      let c := s.channels[i]
      let taken := g ≠ .unassigned ∧ ∃ j : Fin 10, j ≠ i ∧ s.channels[j].cfg.function = g
      (taken → s.refuses (.setChannel tag payload) r .functionTaken) ∧
      (¬taken → (c.state = .turning ∨ c.state = .noisy) → s.refuses (.setChannel tag payload) r .channelActive) ∧
      (¬taken → (c.state = .disabled ∨ c.state = .stopped) →
        ∃ t, exec (.setChannel tag payload) s = .next t ∧ s.replied t (.deferred tag []) ∧ s.samePower t ∧
          t.channels[i].cfg.function = g ∧ t.channels[i].cfg.teeth = f 2 2 ∧
          EdgeMode.ofCode (f 4 1) = some t.channels[i].cfg.edgeMode ∧
          TimeBase.ofCode (f 5 1) = some t.channels[i].cfg.timeBase ∧ t.channels[i].cfg.minPeriod = f 6 2 ∧
          t.channels[i].cfg.overspeed = f 8 2 ∧ t.channels[i].cfg.enabled = decide (f 10 1 = 1) ∧
          t.channels[i] = {
            cfg := t.channels[i].cfg, state := if f 10 1 = 1 ∧ g ≠ .unassigned then .stopped else .disabled, speed := some 0,
            capture := none, short := 0, good := 0, tooth := 0, noise := c.noise, episode := false } ∧
          (∀ j : Fin 10, j ≠ i → t.channels[j] = s.channels[j]) ∧
          (c.cfg.function = .engineSpeed → g ≠ .engineSpeed → t.run.state = .blind) ∧
          (g = .engineSpeed → f 10 1 = 0 → t.run.state = .blind) ∧
          (g = .engineSpeed → f 10 1 = 1 → s.run.state = .blind → t.run.state = .off) ∧
          t.ctl.records = s.ctl.records ++ [{ id := s.nextId, tag := tag, kind := 0x01, awaits := [1], silent := false }] ∧
          t.nextId = s.nextId + 1 ∧ (∀ n, s.ctl.holds n ∨ n = 1 → t.ctl.holds n) ∧
          s.sameExcept t [.nextId, .channels, .run, .driveline, .tally, .table, .fitment, .book, .ctl, .link, .sup])

/-- R39: SET_LINES. All five lines take their new settings at once; a running filter timer is cancelled, and a line whose level
means another state than its filtered one under the new polarity starts its timer with its new filter time; the filtered states
stay. An unknown polarity code is refused OUT_OF_RANGE. -/
def Obligations.LinesSet : Prop :=
  ∀ (s : State) (tag : Byte) (payload : List Byte),
    let r : Request := ⟨0x02, tag, payload⟩
    s.ready r → payload.length = 10 →
    ((∃ k : Fin 5, 1 < field payload (2 * k.val + 1) 1) → s.refuses (.setLines tag payload) r .outOfRange) ∧
    ((∀ k : Fin 5, field payload (2 * k.val + 1) 1 ≤ 1) →
      ∃ t, exec (.setLines tag payload) s = .next t ∧ s.answered t (.deferred tag []) ∧ s.samePower t ∧
        (∀ l : LineId,
          let x := s.lines[l.index]
          let filter := field payload (2 * l.index.val) 1
          let high := decide (field payload (2 * l.index.val + 1) 1 = 0)
          t.lines[l.index] = {
            level := x.level, filtered := x.filtered, setting := { filter := filter, activeHigh := high },
            timer := if (x.level == high) = x.filtered then none else some (s.now + filter * 250) }) ∧
        s.awaiting t r [3] ∧ s.ctl.sameSettings t.ctl ∧ s.sameExcept t [.nextId, .lines, .ctl, .link, .sup])

/-- R42, R43: SET_ENGINE_THRESHOLDS. The three settings are replaced, both confirm timers are cancelled, and a condition that
holds under the new settings starts its timer; run state and crank measurement stay. A value outside its range is refused. -/
def Obligations.EngineThresholdsSet : Prop :=
  ∀ (s : State) (tag : Byte) (payload : List Byte),
    let r : Request := ⟨0x04, tag, payload⟩
    let e : EngineSettings := { runThreshold := field payload 0 2, stopThreshold := field payload 2 2, confirm := field payload 4 2 }
    let ok := 100 ≤ e.runThreshold ∧ e.runThreshold ≤ 3000 ∧ 50 ≤ e.stopThreshold ∧ e.stopThreshold + 50 ≤ e.runThreshold ∧
      100 ≤ e.confirm ∧ e.confirm ≤ 5000
    let u : State := { s with run := { s.run with settings := e } }
    s.ready r → payload.length = 6 →
    (¬ok → s.refuses (.setEngineThresholds tag payload) r .outOfRange) ∧
    (ok → ∃ t, exec (.setEngineThresholds tag payload) s = .next t ∧ s.answered t (.deferred tag []) ∧ s.samePower t ∧
      t.run = { s.run with
        settings := e
        runTimer := if u.runCondition = true then some (s.now + e.confirm * 250) else none
        stopTimer := if u.stopCondition = true then some (s.now + e.confirm * 250) else none } ∧
      s.awaiting t r [3] ∧ s.ctl.sameSettings t.ctl ∧ s.sameExcept t [.nextId, .run, .ctl, .link, .sup])

/-- R56, R57, R4, R128: SET_GEAR_TABLE. Values outside R55 are refused OUT_OF_RANGE, then windows of one direction that share a value
OVERLAP. When it is taken the table is replaced, the gear state is IDLE, the settle timer and the last engaged gear go. With another entry
count GEAR_SECONDS is resized in the GEARBOX orphan tally, in the GEARBOX FITTED slot, and in an open GEARBOX fitment (interim
accumulator, frozen image; staged entries of a removed index go), and the record awaits the lines in the order of R57. -/
def Obligations.GearTableSet : Prop :=
  ∀ (s : State) (tag : Byte) (payload : List Byte),
    let r : Request := ⟨0x05, tag, payload⟩
    let f (off len : Nat) := field payload off len
    (s.ready r → payload.length = 3 + 4 * f 2 1 →
      ¬(f 2 1 ≤ 12 ∧ 50 ≤ f 0 2 ∧ f 0 2 ≤ 2000 ∧ ∀ k, k < f 2 1 → 500 ≤ f (3 + 4 * k) 2 ∧ f (3 + 4 * k) 2 ≤ 20000 ∧
        5 ≤ f (5 + 4 * k) 1 ∧ f (5 + 4 * k) 1 ≤ 200 ∧ f (6 + 4 * k) 1 ≤ 1) →
      s.refuses (.setGearTable tag payload) r .outOfRange) ∧
    ∀ x : GearTable,
    let n := x.entries.length
    let p := Position.gearbox
    let hist (h : Hist) : Hist := { h with values :=
      if h.quantity = .gearSeconds then h.values.take n ++ List.replicate (n - h.values.length) (some 0) else h.values }
    let resized (t : Tally) : Tally := { t with hists := t.hists.map hist }
    s.ready r → payload.length = 3 + 4 * n → field payload 0 2 = x.settle → field payload 2 1 = n →
    (∀ (k : Nat) (h : k < n), field payload (3 + 4 * k) 2 = x.entries[k].ratio ∧
      field payload (5 + 4 * k) 1 = x.entries[k].tolerance ∧
      Direction.ofCode (field payload (6 + 4 * k) 1) = some x.entries[k].direction) →
    n ≤ 12 → 50 ≤ x.settle → x.settle ≤ 2000 →
    (∀ e ∈ x.entries, 500 ≤ e.ratio ∧ e.ratio ≤ 20000 ∧ 5 ≤ e.tolerance ∧ e.tolerance ≤ 200) →
    ((¬x.entries.Pairwise fun a b => a.direction = b.direction → a.upper < b.lower ∨ b.upper < a.lower) →
      s.refuses (.setGearTable tag payload) r .overlap) ∧
    ((x.entries.Pairwise fun a b => a.direction = b.direction → a.upper < b.lower ∨ b.upper < a.lower) →
      ∃ t, exec (.setGearTable tag payload) s = .next t ∧ s.answered t (.deferred tag []) ∧ s.samePower t ∧
        t.driveline = { s.driveline with table := x, gear := .idle, settleTimer := none, lastGear := none } ∧
        (n = s.driveline.table.entries.length → s.awaiting t r [2] ∧ s.sameExcept t [.nextId, .driveline, .ctl, .link, .sup]) ∧
        (n ≠ s.driveline.table.entries.length →
          t.tally = { s.tally with orphans := s.tally.orphans.set p.index (resized s.tally.orphans[p.index]) } ∧
          (s.table.map[p.index] = none → s.awaiting t r [2, 69] ∧ t.table = s.table) ∧
          (∀ i : Fin 20, s.table.map[p.index] = some i → s.table.slots[i].ident.state = .fitted →
            s.awaiting t r [2, 8 + 3 * i.val, 69] ∧ t.table = { s.table with
              slots := s.table.slots.set i { s.table.slots[i] with tally := resized s.table.slots[i].tally } }) ∧
          t.fitment = s.fitment.map fun c => if c.position ≠ p then c else { c with
            interim := resized c.interim
            outgoing := c.outgoing.map fun o => (o.1, { o.2 with tally := resized o.2.tally })
            staged := c.staged.map fun y => { y with
              carried := y.carried.filter fun z => decide (z.quantity ≠ .gearSeconds ∨ z.index < n) } }) ∧
        s.ctl.sameSettings t.ctl ∧ s.sameExcept t [.nextId, .driveline, .tally, .table, .fitment, .ctl, .link, .sup])

/-- R73, R160, R178: SET_DRIVELINE, SET_STORE_TIMING and SET_DORMANCY replace their settings together and await line 3; a value outside its
range is refused OUT_OF_RANGE. The running timers of driveline and store stay; a running dormancy timer is cancelled, because a
deferred record now exists (R178). -/
def Obligations.LineThreeSettingsReplaced : Prop :=
  ∀ (s : State) (tag : Byte) (payload : List Byte),
    let f (off len : Nat) := field payload off len
    (let r : Request := ⟨0x06, tag, payload⟩
      let ok := 5 ≤ f 0 2 ∧ f 0 2 ≤ 200 ∧ 1 ≤ f 2 1 ∧ f 2 1 ≤ 10 ∧ 10 ≤ f 3 2 ∧ f 3 2 ≤ 1000 ∧ 500 ≤ f 5 2 ∧ f 5 2 ≤ 10000 ∧
        f 7 1 ≤ 100 ∧ 5 ≤ f 8 2 ∧ f 8 2 ≤ 500 ∧ 2 ≤ f 10 1 ∧ f 10 1 ≤ 60
      let d : DrivelineSettings :=
        { launchThreshold := f 0 2, launchWindow := f 2 1, slipTolerance := f 3 2, staleTime := f 5 2, defaultLoad := f 7 1,
          towThreshold := f 8 2, quietTime := f 10 1 }
      s.ready r → payload.length = 11 →
      (¬ok → s.refuses (.setDriveline tag payload) r .outOfRange) ∧
      (ok → ∃ t, exec (.setDriveline tag payload) s = .next t ∧ s.answered t (.deferred tag []) ∧ s.samePower t ∧
        t.driveline = { s.driveline with settings := d } ∧ s.awaiting t r [3] ∧ s.ctl.sameSettings t.ctl ∧
        s.sameExcept t [.nextId, .driveline, .ctl, .link, .sup])) ∧
    (let r : Request := ⟨0x1B, tag, payload⟩
      let ok := 10 ≤ f 0 2 ∧ f 0 2 ≤ 600 ∧ 1 ≤ f 2 1 ∧ f 2 1 ≤ 60
      s.ready r → payload.length = 3 →
      (¬ok → s.refuses (.setStoreTiming tag payload) r .outOfRange) ∧
      (ok → ∃ t, exec (.setStoreTiming tag payload) s = .next t ∧ s.answered t (.deferred tag []) ∧ s.samePower t ∧
        t.ctl.timing = { interval := f 0 2, step := f 2 1 } ∧ t.ctl.checkpointTimer = s.ctl.checkpointTimer ∧
        t.ctl.scrubTimer = s.ctl.scrubTimer ∧ t.ctl.scrubPointer = s.ctl.scrubPointer ∧ s.awaiting t r [3] ∧
        s.sameExcept t [.nextId, .ctl, .link, .sup])) ∧
    (let r : Request := ⟨0x1D, tag, payload⟩
      let ok := 30 ≤ f 0 2 ∧ f 0 2 ≤ 3600
      s.ready r → payload.length = 2 →
      (¬ok → s.refuses (.setDormancy tag payload) r .outOfRange) ∧
      (ok → ∃ t, exec (.setDormancy tag payload) s = .next t ∧ s.answered t (.deferred tag []) ∧
        t.sup = { s.sup with delay := f 0 2, dormancy := none } ∧ s.awaiting t r [3] ∧ s.ctl.sameSettings t.ctl ∧
        s.sameExcept t [.nextId, .ctl, .link, .sup]))

/-- R87, R193: SET_WEAR_WEIGHTS replaces the 28 weights; SET_NOTICE_LEVELS replaces levels and threshold, removes the pending
notices whose kind is now at level 0 and keeps the others. Both await line 4; a value outside its range is refused. -/
def Obligations.LineFourSettingsReplaced : Prop :=
  ∀ (s : State) (tag : Byte) (payload : List Byte),
    (let r : Request := ⟨0x09, tag, payload⟩;
      s.ready r → payload.length = 56 →
      ((∃ k : Fin 28, 400 < field payload (2 * k.val) 2) → s.refuses (.setWearWeights tag payload) r .outOfRange) ∧
      ((∀ k : Fin 28, field payload (2 * k.val) 2 ≤ 400) →
        ∃ t, exec (.setWearWeights tag payload) s = .next t ∧ s.answered t (.deferred tag []) ∧ s.samePower t ∧
          (∀ k : Fin 28, t.tally.weights[k] = field payload (2 * k.val) 2) ∧ t.tally.orphans = s.tally.orphans ∧
          t.tally.accrual = s.tally.accrual ∧ s.awaiting t r [4] ∧ s.ctl.sameSettings t.ctl ∧
          s.sameExcept t [.nextId, .tally, .ctl, .link, .sup])) ∧
    (let r : Request := ⟨0x22, tag, payload⟩
      let ok := 1 ≤ field payload 14 1 ∧ field payload 14 1 ≤ 7 ∧ (∀ k : NoticeKind, field payload k.index.val 1 ≤ 7)
      s.ready r → payload.length = 15 →
      (¬ok → s.refuses (.setNoticeLevels tag payload) r .outOfRange) ∧
      (ok → ∃ t, exec (.setNoticeLevels tag payload) s = .next t ∧ s.samePower t ∧
        t.link = { s.link with
          intake := s.link.intake.tail, replies := s.link.replies ++ [.deferred tag []], notices := t.link.notices,
          settings := t.link.settings } ∧
        t.link.settings.attention = field payload 14 1 ∧ (∀ k, t.level k = field payload k.index.val 1) ∧
        (∀ k, t.notice k = if field payload k.index.val 1 = 0 then none else s.notice k) ∧
        s.awaiting t r [4] ∧ s.ctl.sameSettings t.ctl ∧ s.sameExcept t [.nextId, .ctl, .link, .sup]))

/-! ## Reading requests -/

/-- R89, R104, R105, R107, R142, R143, R144, R166: the reading requests are answered DONE and change nothing. READ_POSITION gives the
slot or none, the hold, and whether the orphan tally holds anything; an unknown position, a slot number above 19 and a first item above
the item count are refused OUT_OF_RANGE, and a sequence number outside the book NOT_FOUND. -/
def Obligations.ReadsChangeNothing : Prop :=
  ∀ (s : State) (tag : Byte),
    (∀ b : Byte, 15 < b.toNat →
      (s.ready ⟨0x0A, tag, [b]⟩ → s.refuses (.readOrphans tag [b]) ⟨0x0A, tag, [b]⟩ .outOfRange) ∧
      (s.ready ⟨0x0E, tag, [b]⟩ → s.refuses (.readPosition tag [b]) ⟨0x0E, tag, [b]⟩ .outOfRange)) ∧
    (∀ payload : List Byte, s.ready ⟨0x0D, tag, payload⟩ → payload.length = 2 → 20 ≤ field payload 0 1 →
      s.refuses (.readSlot tag payload) ⟨0x0D, tag, payload⟩ .outOfRange) ∧
    (∀ payload : List Byte, s.ready ⟨0x19, tag, payload⟩ → payload.length = 5 → 15 < field payload 4 1 →
      s.refuses (.readPeriod tag payload) ⟨0x19, tag, payload⟩ .outOfRange) ∧
    (∀ p : Position, s.ready ⟨0x0A, tag, [BitVec.ofNat 8 p.code]⟩ →
      s.reports (.readOrphans tag [BitVec.ofNat 8 p.code]) tag (leBytes 1 p.code ++
        leBytes 1 s.tally.orphans[p.index].items.length ++ s.tally.orphans[p.index].items.flatten)) ∧
    (∀ (i : Fin 20) (payload : List Byte), s.ready ⟨0x0D, tag, payload⟩ → payload.length = 2 → field payload 0 1 = i.val →
      (field payload 1 1 ≤ s.table.slots[i].tally.items.length →
        s.reports (.readSlot tag payload) tag (slotPage i.val s.table.slots[i] (s.isOutgoing i) (field payload 1 1))) ∧
      (s.table.slots[i].tally.items.length < field payload 1 1 →
        s.refuses (.readSlot tag payload) ⟨0x0D, tag, payload⟩ .outOfRange)) ∧
    (∀ p : Position, s.ready ⟨0x0E, tag, [BitVec.ofNat 8 p.code]⟩ →
      ∃ slot hold present : Byte, s.reports (.readPosition tag [BitVec.ofNat 8 p.code]) tag [slot, hold, present] ∧
        slot = (match s.table.map[p.index] with
          | some i => BitVec.ofNat 8 i.val
          | none => 0xFF) ∧
        ((∀ c, s.fitment = some c → c.position ≠ p) → hold = 3) ∧
        (∀ c, s.fitment = some c → c.position = p → hold = match c.action with
          | .remove => 0
          | .install => 1
          | .replace => 2) ∧
        ((present = 1 ∨ present = 0) ∧ (present = 1 ↔
          (∃ x ∈ s.tally.orphans[p.index].scalars, x.saturated = true ∨ ∃ v, x.value = some v ∧ 0 < v) ∨
          (∃ x ∈ s.tally.orphans[p.index].hists, x.saturated = true ∨ ∃ v, some v ∈ x.values ∧ 0 < v)))) ∧
    (s.ready ⟨0x18, tag, []⟩ → s.reports (.listPeriods tag []) tag s.book.list) ∧
    (∀ (payload : List Byte) (first : Position), s.ready ⟨0x19, tag, payload⟩ → payload.length = 5 →
      field payload 4 1 = first.code →
      (∀ h, s.book.oldest ≤ field payload 0 4 → field payload 0 4 ≤ s.book.newest → s.book.header (field payload 0 4) = some h →
        s.reports (.readPeriod tag payload) tag
          (periodPage h s.book.places[placeOf (field payload 0 4)].increments first)) ∧
      ((field payload 0 4 < s.book.oldest ∨ s.book.newest < field payload 0 4) →
        s.refuses (.readPeriod tag payload) ⟨0x19, tag, payload⟩ .notFound)) ∧
    (s.ready ⟨0x1C, tag, []⟩ → s.reports (.readStoreStatus tag []) tag s.storeReport)

/-- R186, R194, R195: IDENTIFY and READ_STATUS are answered in ACTIVE and in STARTING with the bytes of R198, and change nothing. -/
def Obligations.IdentityAndStatusReported : Prop :=
  ∀ (s : State) (tag : Byte), s.live = true → (s.sup.power = .active ∨ s.sup.power = .starting) → 2 ≤ s.freePlaces →
    ((s.link.intake = [] ∨ s.link.intake.head? = some ⟨0x1F, tag, []⟩) →
      s.reports (.identify tag []) tag (s.ctl.identity ++ ([178, 20, 24, 10] : List Byte))) ∧
    ((s.link.intake = [] ∨ s.link.intake.head? = some ⟨0x20, tag, []⟩) →
      s.reports (.readStatus tag []) tag
        (leBytes 1 (if s.sup.power = .starting then 0 else 1) ++ leBytes 1 (if s.clock.isSet = true then 1 else 0) ++
         (if s.sup.power = .starting then leBytes 1 0 ++ leBytes 4 0 ++ leBytes 1 0xFF
          else leBytes 1 s.book.count ++ leBytes 4 s.book.newest ++ leBytes 1 (match s.fitment with
            | some c => (match c.action with
              | .remove => 0
              | .install => 1
              | .replace => 2)
            | none => 0xFF)) ++
         leBytes 1 s.pendingKinds.length ++ leBytes 1 s.link.intake.tail.length ++ leBytes 1 s.ctl.records.length ++
         leBytes 2 s.link.frameErrors ++ leBytes 2 s.link.breaks ++ leBytes 2 s.link.dropped ++
         leBytes 1 (if s.ctl.failed = [] then 0 else 1)))

/-- R74, R199: READ_LIVE is answered DONE with the live report and changes nothing (but the model's own count of free values);
the report gives each channel 8 bytes: state, speed, invalid mark, noise count. A NOISY channel's speed bytes are a free value
(log 8) and not stated. -/
def Obligations.LiveReported : Prop :=
  ∀ (s : State) (tag : Byte), s.ready ⟨0x08, tag, []⟩ →
    (∃ t, exec (.readLive tag []) s = .next t ∧ s.answered t (.done tag s.liveReport) ∧ s.samePower t ∧
      s.sameExcept t [.free, .link, .sup]) ∧
    s.liveReport.length = 96 ∧
    (∀ (i : Fin 10) (v : Nat), s.channels[i].speed = some v →
      (s.liveReport.drop (8 * i.val)).take 8 = leBytes 1 s.channels[i].state.code ++ leBytes 4 v ++ [0] ++ leBytes 2 s.channels[i].noise) ∧
    (∀ i : Fin 10, s.channels[i].speed = none →
      (s.liveReport.drop (8 * i.val)).take 1 = leBytes 1 s.channels[i].state.code ∧
      (s.liveReport.drop (8 * i.val + 5)).take 3 = [1] ++ leBytes 2 s.channels[i].noise)

/-! ## Component Table, Fitment Manager (06, 07) -/

/-- R108, R109: DISCARD_SLOT. A slot number above 19 is refused OUT_OF_RANGE, an EMPTY slot SLOT_EMPTY, a FITTED slot SLOT_FITTED;
a DAMAGED or STRAY slot becomes EMPTY, with every field and tally gone, and the record awaits its three lines. -/
def Obligations.SlotDiscarded : Prop :=
  ∀ (s : State) (tag b : Byte),
    let r : Request := ⟨0x0F, tag, [b]⟩
    s.ready r →
    (20 ≤ b.toNat → s.refuses (.discardSlot tag [b]) r .outOfRange) ∧
    ∀ i : Fin 20, b.toNat = i.val →
      let x := s.table.slots[i].ident
      (x.state = .empty → s.refuses (.discardSlot tag [b]) r .slotEmpty) ∧
      (x.state = .fitted → s.refuses (.discardSlot tag [b]) r .slotFitted) ∧
      ((x.state = .damaged ∨ x.state = .stray) →
        ∃ t, exec (.discardSlot tag [b]) s = .next t ∧ s.answered t (.deferred tag []) ∧ s.samePower t ∧
          t.table = { s.table with slots := s.table.slots.set i .empty } ∧
          s.awaiting t r [6 + 3 * i.val, 7 + 3 * i.val, 8 + 3 * i.val] ∧ s.ctl.sameSettings t.ctl ∧
          s.sameExcept t [.nextId, .table, .ctl, .link, .sup])

/-- R114, R115, R113: BEGIN_FITMENT. The checks in order: codes and timeout, no context open, then the map entry. When it is taken a
context is created: the frozen image is the mapped slot's record, the interim accumulator is zero, the deadline starts; the
reply gives the outgoing slot or none, and the item count of the image. -/
def Obligations.FitmentBegun : Prop :=
  ∀ (s : State) (tag : Byte) (payload : List Byte),
    let r : Request := ⟨0x10, tag, payload⟩
    let f (off len : Nat) := field payload off len
    let c : Instr := .beginFitment tag payload
    let ok := f 0 1 ≤ 15 ∧ f 1 1 ≤ 2 ∧ 30 ≤ f 2 2 ∧ f 2 2 ≤ 600
    s.ready r → payload.length = 4 →
    (¬ok → s.turnsAway c r .outOfRange) ∧ (ok → s.fitment ≠ none → s.turnsAway c r .fitmentOpen) ∧
    ∀ (p : Position) (a : Action), Position.ofCode (f 0 1) = some p → Action.ofCode (f 1 1) = some a → ok → s.fitment = none →
      (a ≠ .install → s.table.map[p.index] = none → s.refuses c r .positionEmpty) ∧
      (a = .install → s.table.map[p.index] ≠ none → s.refuses c r .positionOccupied) ∧
      ((a = .install ↔ s.table.map[p.index] = none) →
        ∃ t, exec c s = .next t ∧ s.answered t (.done tag (match s.table.map[p.index] with
            | some i => leBytes 1 i.val ++ leBytes 1 s.table.slots[i].tally.items.length
            | none => leBytes 1 0xFF ++ leBytes 1 0)) ∧ s.samePower t ∧
          t.fitment = some {
            action := a, position := p, outgoing := s.table.map[p.index].map fun i => (i, s.table.slots[i]),
            interim := .zero p s.driveline.table.entries.length, exported := false, staged := none, timeout := f 2 2,
            deadline := s.now + f 2 2 * 250000 } ∧
          s.sameExcept t [.fitment, .link, .sup])

/-- R116, R117, R113: STAGE_COMPONENT. The refusals are made in the order of R116: NO_FITMENT, WRONG_STATE in a REMOVE context, OUT_OF_RANGE
for values outside their ranges, KIND_MISMATCH, NOT_IN_PROFILE, OUT_OF_RANGE for an index that does not exist or stands twice. When
it is taken the staged record is replaced, its carried-in entries are kept in quantity and index order, and the reply gives their
number. -/
def Obligations.ComponentStaged : Prop :=
  ∀ (s : State) (tag : Byte) (payload : List Byte),
    let r : Request := ⟨0x11, tag, payload⟩
    let f (off len : Nat) := field payload off len
    let refused (reason : Reason) := s.turnsAway (.stageComponent tag payload) r reason
    let inRange := f 0 1 ≤ 9 ∧ textField 20 payload 1 ≠ none ∧ (f 22 1 = 0xFF ∨ f 22 1 < 20) ∧ f 29 1 < 20 ∧ f 36 1 ≤ 26 ∧
      ∀ k, k < f 36 1 → f (37 + 8 * k) 1 < 20
    s.ready r → payload.length = 37 + 8 * f 36 1 →
    (s.fitment = none → s.refuses (.stageComponent tag payload) r .noFitment) ∧
    (∀ c, s.fitment = some c → (c.action = .remove → refused .wrongState) ∧
      (c.action ≠ .remove → ¬inRange → refused .outOfRange)) ∧
    ∀ (x : Staged) (c : Context),
    let n := x.carried.length
    f 36 1 = n → n ≤ 26 → Kind.ofCode (f 0 1) = some x.kind →
    textField 20 payload 1 = some x.serial →
    (x.serviceQuantity = none ∧ f 22 1 = 0xFF ∨ x.serviceQuantity ≠ none ∧ Quantity.ofCode (f 22 1) = x.serviceQuantity) →
    f 23 6 = x.due → Quantity.ofCode (f 29 1) = some x.lifeQuantity → f 30 6 = x.limit →
    (∀ (k : Nat) (h : k < n), Quantity.ofCode (f (37 + 8 * k) 1) = some x.carried[k].quantity ∧
      f (38 + 8 * k) 1 = x.carried[k].index ∧ f (39 + 8 * k) 6 = x.carried[k].value) →
    s.fitment = some c → c.action ≠ .remove →
      let inProfile := (∀ e ∈ x.carried, e.quantity ∈ c.position.profile) ∧
        (∀ q, x.serviceQuantity = some q → q ∈ c.position.scalarProfile) ∧
        (x.limit = 0 ∨ x.lifeQuantity ∈ c.position.scalarProfile)
      let indexed := (∀ e ∈ x.carried, e.index < (if e.quantity = .loadSeconds then 6
          else if e.quantity = .gearSeconds then s.driveline.table.entries.length else 1)) ∧
        x.carried.Pairwise fun a b => a.quantity ≠ b.quantity ∨ a.index ≠ b.index
      (c.position ∉ x.kind.fits → refused .kindMismatch) ∧
      (c.position ∈ x.kind.fits → ¬inProfile → refused .notInProfile) ∧
      (c.position ∈ x.kind.fits → inProfile → ¬indexed → refused .outOfRange) ∧
      (c.position ∈ x.kind.fits → inProfile → indexed →
        ∃ t kept, exec (.stageComponent tag payload) s = .next t ∧ s.answered t (.done tag (leBytes 1 n)) ∧ s.samePower t ∧
          t.fitment = some { c with
            staged := some { x with carried := kept }, deadline := s.now + c.timeout * 250000 } ∧
          kept.Perm x.carried ∧
          (kept.Pairwise fun a b => a.quantity.code < b.quantity.code ∨ a.quantity = b.quantity ∧ a.index < b.index) ∧
          s.sameExcept t [.fitment, .link, .sup])

/-- R118, R119, R120: EXPORT_OUTGOING of part RECORD gives a page of the frozen image with the held mark and sets the exported flag, that
of part INTERIM a page of the accumulator; READ_FITMENT reports the context with the staged record, or that there is none (the 37 bytes of
the staged record are 0x00 while nothing is staged: MODEL'S CHOICE, log 12). Each restarts the deadline and changes nothing else. The
refusals of R118 are made in its order. -/
def Obligations.FitmentRead : Prop :=
  ∀ (s : State) (tag : Byte),
    (∀ payload : List Byte,
      let r : Request := ⟨0x12, tag, payload⟩
      let first := field payload 0 1
      let part := field payload 1 1
      s.ready r → payload.length = 2 →
      (1 < part → s.turnsAway (.exportOutgoing tag payload) r .outOfRange) ∧
      (part ≤ 1 → s.fitment = none → s.refuses (.exportOutgoing tag payload) r .noFitment) ∧
      ∀ c, s.fitment = some c →
        (part = 0 → c.outgoing = none → s.turnsAway (.exportOutgoing tag payload) r .wrongState) ∧
        (∀ o, part = 0 → c.outgoing = some o →
          (o.2.tally.items.length < first → s.turnsAway (.exportOutgoing tag payload) r .outOfRange) ∧
          (first ≤ o.2.tally.items.length →
            ∃ t, exec (.exportOutgoing tag payload) s = .next t ∧
              s.answered t (.done tag (slotPage o.1.val o.2 true first)) ∧ s.samePower t ∧
              t.fitment = some { c with exported := true, deadline := s.now + c.timeout * 250000 } ∧
              s.sameExcept t [.fitment, .link, .sup])) ∧
        (part = 1 →
          (c.interim.items.length < first → s.turnsAway (.exportOutgoing tag payload) r .outOfRange) ∧
          (first ≤ c.interim.items.length →
            ∃ t, exec (.exportOutgoing tag payload) s = .next t ∧
              s.answered t (.done tag (leBytes 1 c.action.code ++ leBytes 1 c.position.code ++ pageBytes c.interim.items first)) ∧
              s.samePower t ∧ s.deadlineRestarted t ∧ s.sameExcept t [.fitment, .link, .sup]))) ∧
    (s.ready ⟨0x13, tag, []⟩ →
      ∃ t body, exec (.readFitment tag []) s = .next t ∧ s.answered t (.done tag body) ∧ s.samePower t ∧
        s.deadlineRestarted t ∧ s.sameExcept t [.fitment, .link, .sup] ∧ (s.fitment = none → body = [0]) ∧
        (∀ c, s.fitment = some c →
          let staged : List Byte := match c.staged with
            | some x => leBytes 1 x.kind.code ++ leBytes 1 x.serial.length ++ x.serial.take 20 ++
                List.replicate (20 - x.serial.length) (0 : Byte) ++ leBytes 1 x.carried.length ++
                leBytes 1 (match x.serviceQuantity with
                  | some q => q.code
                  | none => 0xFF) ++
                leBytes 6 x.due ++ leBytes 1 x.lifeQuantity.code ++ leBytes 6 x.limit
            | none => List.replicate 37 (0 : Byte)
          staged.length = 37 ∧ body = leBytes 1 1 ++ leBytes 1 c.action.code ++ leBytes 1 c.position.code ++
            leBytes 1 (match c.outgoing with
              | some o => o.1.val
              | none => 0xFF) ++
            leBytes 1 (if c.exported = true then 1 else 0) ++ leBytes 1 (if c.staged = none then 0 else 1) ++ staged ++
            leBytes 2 c.timeout ++ leBytes 2 ((c.deadline - s.now) / 250000) ++ leBytes 1 c.interim.items.length))

/-- R121, R122, R123, R124, R94: COMMIT_FITMENT. The refusals are made in the order of R121: NO_FITMENT, NOT_EXPORTED, NOTHING_STAGED,
NO_FREE_SLOT, BOOK_FULL. The outgoing slot becomes EMPTY; the interim accumulator is
added to the orphan tally; the lowest EMPTY slot other than the outgoing one, or else the outgoing slot, becomes FITTED with the
staged record, its thresholds tested once, and the map names it; the open record closes with reason FITMENT and a continuation
opens; the context ends; the record awaits the lines in the order of R124, and a listed line that is in flight is dirty again. -/
def Obligations.FitmentCommitted : Prop :=
  ∀ (s : State) (tag : Byte),
    let r : Request := ⟨0x14, tag, []⟩
    let refused (reason : Reason) := s.turnsAway (.commitFitment tag []) r reason
    (s.ready r → s.fitment = none → s.refuses (.commitFitment tag []) r .noFitment) ∧
    (s.ready r → ∀ c, s.fitment = some c →
      let exported := c.action = .install ∨ c.exported = true
      let staged := c.action = .remove ∨ c.staged ≠ none
      let free := c.action = .remove ∨ c.outgoing ≠ none ∨ ∃ i : Fin 20, s.table.slots[i].ident.state = .empty
      (¬exported → refused .notExported) ∧ (exported → ¬staged → refused .nothingStaged) ∧
      (exported → staged → ¬free → refused .noFreeSlot) ∧
      (exported → staged → free → ¬(s.book.count < 24 ∧ s.book.newest < 4294967295) → refused .bookFull)) ∧
    ∀ (c : Context) (inc : Option (Fin 20)) (h : Header) (info : PeriodInfo),
    let p := c.position
    let out : Option (Fin 20) := c.outgoing.map Prod.fst
    let n := s.book.newest
    let time : Option Nat := if s.clock.isSet = true then some s.clock.value else none
    let isEmpty (j : Fin 20) : Prop := s.table.slots[j].ident.state = .empty
    s.ready r → s.fitment = some c → (c.action ≠ .install → c.exported = true) → (c.action = .remove → inc = none) →
    (c.action ≠ .remove → c.staged ≠ none ∧ ∃ i, inc = some i ∧
      ((out ≠ some i ∧ isEmpty i ∧ ∀ j, j < i → out ≠ some j → ¬isEmpty j) ∨
       (out = some i ∧ ∀ j, out ≠ some j → ¬isEmpty j))) →
    s.book.count < 24 → n < 4294967295 → s.book.places[s.book.openPlace].header = some h → h.info = some info →
    ∃ t, exec (.commitFitment tag []) s = .next t ∧
      s.replied t (.deferred tag (leBytes 1 (match inc with
        | some i => i.val
        | none => 0xFF) ++ leBytes 4 n ++ leBytes 4 (n + 1))) ∧ s.samePower t ∧ t.fitment = none ∧
      (∀ j, inc ≠ some j → out = some j → t.table.slots[j] = .empty) ∧
      (∀ j, inc ≠ some j → out ≠ some j → t.table.slots[j] = s.table.slots[j]) ∧
      (∀ q : Position, q ≠ p → t.table.map[q.index] = s.table.map[q.index]) ∧
      (∀ i, inc = some i → t.table.map[p.index] = some i) ∧
      (inc = none → out ≠ none → t.table.map[p.index] = none) ∧
      (∀ i x, inc = some i → c.staged = some x →
        let slot := t.table.slots[i]
        slot.tally.scalars = p.scalarProfile.map (fun q =>
          { quantity := q, value := some (carriedValue x.carried q 0), saturated := false }) ∧
        slot.tally.hists = p.histProfile.map (fun q =>
          { quantity := q, saturated := false,
            values := (List.range (if q = .loadSeconds then 6 else s.driveline.table.entries.length)).map
              (fun k => some (carriedValue x.carried q k)) }) ∧
        slot.ident = {
          state := .fitted, kind := some x.kind, serial := some x.serial, position := some p, lastPosition := none,
          fittedAt := time, carried := some (!x.carried.isEmpty),
          limits := some (testedLimits slot.tally
            ({ quantity := x.serviceQuantity, due := x.due, armed := x.serviceQuantity.isSome },
             { quantity := x.lifeQuantity, limit := x.limit, overLife := false })) }) ∧
      t.tally = { s.tally with orphans := s.tally.orphans.set p.index (c.interim.merge s.tally.orphans[p.index]) } ∧
      t.book = { s.book with
        newest := n + 1
        places := (s.book.places.set s.book.openPlace { s.book.places[s.book.openPlace] with
            header := some { h with state := .closed, closeReason := some .fitment, closedAt := time } }).set (placeOf (n + 1))
          { header := some {
              seq := n + 1, state := .opened, closeReason := none, openedAt := time, closedAt := none, incomplete := false,
              info := some { info with
                segment := min 255 (info.segment + 1), openReason := .continuation, restarts := 0, unwarned := 0, tows := 0 } },
            lines := Vector.replicate 3 { seq := some (n + 1), entries := [] } } } ∧
      (let lines := placeLines (placeOf (n + 1)) ++ placeLines (placeOf n) ++
        (match inc with
          | some i => [7 + 3 * i.val, 8 + 3 * i.val, 6 + 3 * i.val]
          | none => []) ++
        (match out with
          | some o => if inc = some o then [] else [6 + 3 * o.val, 7 + 3 * o.val, 8 + 3 * o.val]
          | none => []) ++ [66 + p.code, 5]
      s.awaiting t r lines ∧
      ∀ m, s.ctl.flightLine = some m → t.ctl.flightLine = some m ∧ (m ∈ t.ctl.dirty ↔ m ∈ s.ctl.dirty ∨ m ∈ lines)) ∧
      s.ctl.sameSettings t.ctl ∧ s.sameExcept t [.nextId, .tally, .table, .fitment, .book, .ctl, .link, .sup]

/-- R125, R126: ABORT_FITMENT and the expiry of the deadline end the context with the interim accumulator added back. The abort is
answered with action and position, and without a context it is refused NO_FITMENT; the expiry raises FITMENT_TIMEOUT. MODEL'S READING
(log 11, DEDUCED): both thresholds of the outgoing slot are tested once after the addition, whether or not it changed their value. -/
def Obligations.FitmentEnded : Prop :=
  ∀ (s : State) (tag : Byte),
    (s.ready ⟨0x15, tag, []⟩ → s.fitment = none → s.refuses (.abortFitment tag []) ⟨0x15, tag, []⟩ .noFitment) ∧
    ∀ c, s.fitment = some c →
      (s.ready ⟨0x15, tag, []⟩ →
        ∃ t, exec (.abortFitment tag []) s = .next t ∧
          s.replied t (.done tag (leBytes 1 c.action.code ++ leBytes 1 c.position.code)) ∧ s.samePower t ∧
          s.fitmentEnded t c ∧ s.sameExcept t [.tally, .table, .fitment, .ctl, .link, .sup]) ∧
      ∃ t, exec .fitmentDeadlineExpiry s = .next t ∧ t.now = max s.now c.deadline ∧ s.fitmentEnded t c ∧ s.samePower t ∧
        (s.level .fitmentTimeout ≠ 0 → t.notice .fitmentTimeout ≠ none) ∧
        (s.level .fitmentTimeout ≠ 0 → s.notice .fitmentTimeout = none →
          t.notice .fitmentTimeout = some { detail := .position c.position, repeats := 0 }) ∧
        t.link = { s.link with notices := t.link.notices } ∧
        s.sameExcept t [.time, .tally, .table, .fitment, .ctl, .link, .sup]

/-! ## Period Book (08) -/

/-- R136, R137, R138: OPEN_RENTAL. The refusals are made in the order of R136. A discardable open IDLE record is replaced in its
place by the rental, with its sequence number; another closes with reason RENTAL_START and the rental opens after it. -/
def Obligations.RentalOpened : Prop :=
  ∀ (s : State) (tag : Byte) (payload : List Byte),
    let r : Request := ⟨0x16, tag, payload⟩
    let c : Instr := .openRental tag payload
    let n := s.book.newest
    let pl := s.book.openPlace
    let time : Option Nat := if s.clock.isSet = true then some s.clock.value else none
    let rental (seq : Nat) (contract : Text) : Place :=
      { header := some {
          seq := seq, state := .opened, closeReason := none, openedAt := time, closedAt := none, incomplete := false,
          info := some { kind := .rental, contract := some contract, segment := 0, openReason := .rentalStart, restarts := 0,
                         unwarned := 0, tows := 0 } },
        lines := Vector.replicate 3 { seq := some seq, entries := [] } }
    s.ready r → payload.length = 17 → (textField 16 payload 0 = none → s.refuses c r .outOfRange) ∧
    ∀ (contract : Text) (h : Header) (info : PeriodInfo), textField 16 payload 0 = some contract →
      s.book.places[pl].header = some h → h.info = some info →
      let discardable := s.book.places[pl].increments = [] ∧ info.restarts = 0
      let room := s.book.count < 24 ∧ n < 4294967295
      (info.kind ≠ .idle → s.refuses c r .wrongState) ∧
      (info.kind = .idle → s.fitment ≠ none → s.refuses c r .fitmentOpen) ∧
      (info.kind = .idle → s.fitment = none → ¬discardable → ¬room → s.refuses c r .bookFull) ∧
      (info.kind = .idle → s.fitment = none → discardable →
        ∃ t, exec c s = .next t ∧ s.answered t (.deferred tag (leBytes 4 0 ++ leBytes 4 n)) ∧ s.samePower t ∧
          t.book = { s.book with places := s.book.places.set pl (rental n contract) } ∧
          s.awaiting t r (placeLines pl ++ [5]) ∧ s.ctl.sameSettings t.ctl ∧
          s.sameExcept t [.nextId, .book, .ctl, .link, .sup]) ∧
      (info.kind = .idle → s.fitment = none → ¬discardable → room →
        ∃ t, exec c s = .next t ∧ s.replied t (.deferred tag (leBytes 4 n ++ leBytes 4 (n + 1))) ∧ s.samePower t ∧
          t.book = { s.book with
            newest := n + 1
            places := (s.book.places.set pl { s.book.places[pl] with
                header := some { h with state := .closed, closeReason := some .rentalStart, closedAt := time } }).set
              (placeOf (n + 1)) (rental (n + 1) contract) } ∧
          s.awaiting t r (placeLines (placeOf (n + 1)) ++ placeLines pl ++ [5]) ∧
          (t.book.count ≠ 20 → t.link.notices = s.link.notices) ∧
          (t.book.count = 20 → s.level .bookNearFull ≠ 0 → t.notice .bookNearFull ≠ none) ∧
          s.ctl.sameSettings t.ctl ∧ s.sameExcept t [.nextId, .book, .ctl, .link, .sup])

/-- R139: CLOSE_RENTAL. The refusals are made in the order of R139. When it is taken the rental closes with reason REQUEST and an
IDLE record opens with reason RENTAL_END; the record awaits nine lines. -/
def Obligations.RentalClosed : Prop :=
  ∀ (s : State) (tag : Byte) (payload : List Byte),
    let r : Request := ⟨0x17, tag, payload⟩
    let c : Instr := .closeRental tag payload
    let n := s.book.newest
    let pl := s.book.openPlace
    let time : Option Nat := if s.clock.isSet = true then some s.clock.value else none
    s.ready r → payload.length = 17 → (textField 16 payload 0 = none → s.refuses c r .outOfRange) ∧
    ∀ (contract : Text) (h : Header) (info : PeriodInfo), textField 16 payload 0 = some contract →
      s.book.places[pl].header = some h → h.info = some info →
      let room := s.book.count < 24 ∧ n < 4294967295
      (info.kind ≠ .rental → s.refuses c r .wrongState) ∧
      (info.kind = .rental → info.contract ≠ some contract → s.refuses c r .contractMismatch) ∧
      (info.kind = .rental → info.contract = some contract → s.fitment ≠ none → s.refuses c r .fitmentOpen) ∧
      (info.kind = .rental → info.contract = some contract → s.fitment = none → ¬room → s.refuses c r .bookFull) ∧
      (info.kind = .rental → info.contract = some contract → s.fitment = none → room →
        ∃ t, exec c s = .next t ∧ s.replied t (.deferred tag (leBytes 4 n ++ leBytes 4 (n + 1))) ∧ s.samePower t ∧
          t.book = { s.book with
            newest := n + 1
            places := (s.book.places.set pl { s.book.places[pl] with
                header := some { h with state := .closed, closeReason := some .request, closedAt := time } }).set
              (placeOf (n + 1))
              { header := some {
                  seq := n + 1, state := .opened, closeReason := none, openedAt := time, closedAt := none, incomplete := false,
                  info := some { kind := .idle, contract := none, segment := 0, openReason := .rentalEnd, restarts := 0,
                                 unwarned := 0, tows := 0 } },
                lines := Vector.replicate 3 { seq := some (n + 1), entries := [] } } } ∧
          s.awaiting t r (placeLines (placeOf (n + 1)) ++ placeLines pl ++ [5]) ∧ s.ctl.sameSettings t.ctl ∧
          s.sameExcept t [.nextId, .book, .ctl, .link, .sup])

/-- R145: RELEASE_PERIODS removes the records from the oldest up to the lesser of the given value and the open record's number less
1: their places' headers go and their increment lines stay, the oldest bound moves, the reply gives how many and the new oldest,
and the record awaits their header lines, oldest first, and line 5. -/
def Obligations.PeriodsReleased : Prop :=
  ∀ (s : State) (tag : Byte) (payload : List Byte),
    let r : Request := ⟨0x1A, tag, payload⟩
    let b := s.book
    let k := min (field payload 0 4 + 1) b.newest - b.oldest
    s.ready r → payload.length = 4 → b.oldest ≤ b.newest →
    ∃ t, exec (.releasePeriods tag payload) s = .next t ∧
      s.answered t (.deferred tag (leBytes 1 k ++ leBytes 4 (b.oldest + k))) ∧ s.samePower t ∧
      t.book.oldest = b.oldest + k ∧ t.book.newest = b.newest ∧
      (∀ pl : Fin 24, t.book.places[pl].lines = b.places[pl].lines) ∧
      (∀ j, j < k → t.book.places[placeOf (b.oldest + j)].header = none) ∧
      (∀ pl : Fin 24, (∀ j, j < k → placeOf (b.oldest + j) ≠ pl) → t.book.places[pl] = b.places[pl]) ∧
      s.awaiting t r ((List.range k).map (fun j => 82 + 4 * ((b.oldest + j) % 24)) ++ [5]) ∧ s.ctl.sameSettings t.ctl ∧
      s.sameExcept t [.nextId, .book, .ctl, .link, .sup]

/-- R180: FACTORY_CLEAR. It is refused SLOTS_OCCUPIED while a slot is not EMPTY, then FITMENT_OPEN while a context exists. When it
is taken every orphan value is 0 and every orphan mark clear, the book's records are removed, and one IDLE record with sequence
number 1 and reason CLEARED opens in place 1; configuration, map, clock and notices stay. -/
def Obligations.PartCleared : Prop :=
  ∀ (s : State) (tag : Byte),
    let r : Request := ⟨0x1E, tag, []⟩
    let time : Option Nat := if s.clock.isSet = true then some s.clock.value else none
    s.ready r →
    ((∃ i : Fin 20, s.table.slots[i].ident.state ≠ .empty) → s.refuses (.factoryClear tag []) r .slotsOccupied) ∧
    ((∀ i : Fin 20, s.table.slots[i].ident.state = .empty) →
      (s.fitment ≠ none → s.refuses (.factoryClear tag []) r .fitmentOpen) ∧
      (s.fitment = none →
        ∃ t, exec (.factoryClear tag []) s = .next t ∧ s.answered t (.deferred tag []) ∧ s.samePower t ∧
          (∀ p : Position,
            (∀ x ∈ t.tally.orphans[p.index].scalars, x.value = some 0 ∧ x.saturated = false) ∧
            (∀ x ∈ t.tally.orphans[p.index].hists, (∀ v ∈ x.values, v = some 0) ∧ x.saturated = false)) ∧
          t.tally.weights = s.tally.weights ∧ t.tally.accrual = s.tally.accrual ∧ t.book.oldest = 1 ∧ t.book.newest = 1 ∧
          t.book.places[1] = {
            header := some {
              seq := 1, state := .opened, closeReason := none, openedAt := time, closedAt := none, incomplete := false,
              info := some { kind := .idle, contract := none, segment := 0, openReason := .cleared, restarts := 0, unwarned := 0,
                             tows := 0 } },
            lines := Vector.replicate 3 { seq := some 1, entries := [] } } ∧
          (∀ q, s.book.oldest ≤ q → q ≤ s.book.newest → q % 24 ≠ 1 → t.book.places[placeOf q].header = none) ∧
          s.awaiting t r (((s.book.seqs.reverse.filter fun q => decide (q % 24 ≠ 1)).map fun q => 82 + 4 * (q % 24)) ++
            [86, 87, 88, 89] ++ (List.range 16).map (66 + ·) ++ [5]) ∧
          s.ctl.sameSettings t.ctl ∧ s.sameExcept t [.nextId, .tally, .book, .ctl, .link, .sup]))

/-! ## Notices, ATTN (11) -/

/-- R192, R191: TAKE_NOTICE. The pending notice with the highest level, the first in tie order among several, is removed and reported
with kind, level, repeat count and detail; with the set empty the reply is DONE with nothing. A later raise of that kind makes a
new notice with a count of 0. ATTN is asserted exactly while a pending notice has a level at or above the attention threshold and
RESET is not held (and, the model's choice, the supply is up: log 18). -/
def Obligations.NoticeTakenAttnFollows : Prop :=
  (∀ (s : State) (tag : Byte), s.ready ⟨0x21, tag, []⟩ →
    ((∀ k, s.notice k = none) → s.reports (.takeNotice tag []) tag []) ∧
    ∀ (k : NoticeKind) (x : Notice), s.notice k = some x →
      (∀ j, s.notice j ≠ none → s.level j < s.level k ∨ s.level j = s.level k ∧ k.index ≤ j.index) →
      ∃ t, exec (.takeNotice tag []) s = .next t ∧
        s.replied t (.done tag (leBytes 1 k.index.val ++ leBytes 1 (s.level k) ++ leBytes 1 x.repeats ++ x.detail.bytes)) ∧
        s.samePower t ∧ t.notice k = none ∧ (∀ j, j ≠ k → t.notice j = s.notice j) ∧
        (∀ d, s.level k ≠ 0 → (t.raise k d).notice k = some { detail := d, repeats := 0 }) ∧ s.sameExcept t [.link, .sup]) ∧
  ∀ s : State, s.attn = true ↔ s.pins.supply = true ∧ s.pins.reset = false ∧
    ∃ k, s.notice k ≠ none ∧ s.link.settings.attention ≤ s.level k

/-! ## Link Port (11) -/

/-- R186, R197, R113: the executor's first three checks, in their order: an unknown kind is refused UNKNOWN_KIND, in STARTING every
kind but IDENTIFY and READ_STATUS is refused STARTING, and a payload of another length than its kind requires is refused
BAD_LENGTH. A refused fitment request restarts an open deadline (that one refused BAD_LENGTH does so is MODEL'S READING of R113, log 10,
DEDUCED); nothing else changes. -/
def Obligations.RequestChecksInOrder : Prop :=
  ∀ (s : State) (c : Instr) (r : Request), c.request? = some r → s.live = true → 2 ≤ s.freePlaces →
    (r.kind ∈ deferredKinds → s.ctl.records.length < 4) →
    (s.link.intake = [] ∨ s.link.intake.head? = some r) →
    ((r.kind = 0 ∨ 0x22 < r.kind.toNat) → (s.sup.power = .active ∨ s.sup.power = .starting) → s.refuses c r .unknownKind) ∧
    (1 ≤ r.kind.toNat → r.kind.toNat ≤ 0x22 → r.kind ≠ 0x1F → r.kind ≠ 0x20 → s.sup.power = .starting →
      s.refuses c r .starting) ∧
    (1 ≤ r.kind.toNat → r.kind.toNat ≤ 0x22 → s.sup.power = .active → r.payload.length ≠ requestLength r →
      ((r.kind.toNat < 0x10 ∨ 0x15 < r.kind.toNat) → s.refuses c r .badLength) ∧
      (0x10 ≤ r.kind.toNat → r.kind.toNat ≤ 0x15 → s.turnsAway c r .badLength))

/-- R185, R186, R188, R179: where a request is not taken. A head request that the executor cannot take waits, and nothing changes; so does a
request behind another, which only joins the intake queue; with 6 queued it is answered RETRY, in HOLDUP REFUSED POWER_FAIL, or
dropped and counted where no place is free. In DRAINING and DORMANT an arriving request first wakes the recorder and is then
handled as in ACTIVE. MODEL'S CHOICE: a request row is the request's arrival, unless it stands at the head already (log 1). -/
def Obligations.RequestWaitsOrWakes : Prop :=
  ∀ (s : State) (c : Instr) (r : Request), c.request? = some r → s.live = true →
    let joined : LinkPort := { s.link with intake := s.link.intake ++ [r] }
    let atOnce (reply : Reply) : LinkPort :=
      if 1 ≤ s.freePlaces then { s.link with replies := s.link.replies ++ [reply] }
      else { s.link with dropped := min 65535 (s.link.dropped + 1) }
    (s.link.intake.head? = some r → s.blocked r → exec c s = .next s) ∧
    (s.link.intake.head? ≠ some r →
      ((s.sup.power = .active ∨ s.sup.power = .starting) → s.link.intake.length < 6 → (s.link.intake ≠ [] ∨ s.blocked r) →
        ∃ t, exec c s = .next t ∧ t.link = joined ∧ s.samePower t ∧ s.sameExcept t [.link, .sup]) ∧
      ((s.sup.power = .active ∨ s.sup.power = .starting) → 6 ≤ s.link.intake.length →
        exec c s = .next { s with link := atOnce (.retry r.tag r.kind) }) ∧
      (s.sup.power = .holdup → exec c s = .next { s with link := atOnce (.refused r.tag r.kind .powerFail) }) ∧
      ((s.sup.power = .draining ∨ s.sup.power = .dormant) →
        ∃ w, exec c s = exec c w ∧ w.sup = { s.sup with power := .active, dormancy := w.sup.dormancy } ∧
          (s.sup.power = .draining → s.sameExcept w [.sup]) ∧
          (s.sup.power = .dormant → w.tally = { s.tally with accrual := some (s.now + 250000) } ∧
            w.ctl = { s.ctl with scrubTimer := some (s.now + s.ctl.timing.step * 250000) } ∧
            s.sameExcept w [.tally, .ctl, .sup])))

/-- R182, R183, R185, R188, R179: an arrival. A frame whose CRC matches joins the intake queue as its newest request while fewer
than 6 are queued; with 6 queued it is answered RETRY, in HOLDUP REFUSED POWER_FAIL, or dropped and counted where no place is
free; in DRAINING and DORMANT it first wakes the recorder. A frame whose CRC does not match counts a frame error. MODEL'S READING: the
command leaves the framer in HUNT (log 16). -/
def Obligations.FrameArrives : Prop :=
  ∀ (s : State) (kind tag : Byte) (payload : List Byte) (crc : BitVec 16),
    let body := kind :: tag :: payload
    let c : Instr := .frameArrival body crc
    let hunt : LinkPort := { s.link with framer := .hunt, gapTimer := none }
    let joined : LinkPort := { hunt with intake := s.link.intake ++ [⟨kind, tag, payload⟩] }
    let atOnce (reply : Reply) : LinkPort :=
      if 1 ≤ s.freePlaces then { hunt with replies := s.link.replies ++ [reply] }
      else { hunt with dropped := min 65535 (s.link.dropped + 1) }
    s.live = true → payload.length ≤ 248 →
    (frameCrc body ≠ crc → ∃ t, exec c s = .next t ∧
      t.link = { hunt with frameErrors := min 65535 (s.link.frameErrors + 1) } ∧ s.sameExcept t [.link]) ∧
    (frameCrc body = crc →
      (s.link.intake.length < 6 → (s.sup.power = .active ∨ s.sup.power = .starting) →
        ∃ t, exec c s = .next t ∧ t.link = joined ∧ s.samePower t ∧ s.sameExcept t [.link, .sup]) ∧
      (6 ≤ s.link.intake.length → (s.sup.power = .active ∨ s.sup.power = .starting) →
        ∃ t, exec c s = .next t ∧ t.link = atOnce (.retry tag kind) ∧ s.sameExcept t [.link]) ∧
      (s.sup.power = .holdup →
        ∃ t, exec c s = .next t ∧ t.link = atOnce (.refused tag kind .powerFail) ∧ s.sameExcept t [.link]) ∧
      (s.link.intake.length < 6 → s.sup.power = .draining →
        ∃ t, exec c s = .next t ∧ t.link = joined ∧ t.sup.power = .active ∧ s.sameExcept t [.link, .sup]) ∧
      (s.link.intake.length < 6 → s.sup.power = .dormant →
        ∃ t, exec c s = .next t ∧ t.link = joined ∧ t.sup.power = .active ∧
          t.tally = { s.tally with accrual := some (s.now + 250000) } ∧
          t.ctl = { s.ctl with scrubTimer := some (s.now + s.ctl.timing.step * 250000) } ∧
          s.sameExcept t [.tally, .ctl, .link, .sup]))

/-- R181, R182, R183: the characters of a frame, received in HUNT, come to the arrival of that frame; outside HUNT a character with a
low stop bit and the expiry of the gap timer discard the partial frame and count a frame error; in HUNT only 0xC3 is taken. -/
def Obligations.FramerReadsCharacters : Prop :=
  ∀ s : State, s.live = true →
    (∀ body : List Byte, s.link.framer = .hunt → 2 ≤ body.length → body.length ≤ 250 →
      execAll ((frameBytes body).map fun b => .characterReceived b true) s = exec (.frameArrival body (frameCrc body)) s) ∧
    (∀ b : Byte, s.link.framer = .hunt → exec (.characterReceived b false) s = .next s ∧
      exec (.characterReceived b true) s = .next (if b = 0xC3 then
        { s with link := { s.link with framer := .length, gapTimer := some (s.now + 1250) } } else s)) ∧
    (∀ b : Byte, s.link.framer ≠ .hunt → exec (.characterReceived b false) s = .next { s with link := { s.link with
      framer := .hunt, gapTimer := none, frameErrors := min 65535 (s.link.frameErrors + 1) } }) ∧
    (∀ due, s.link.gapTimer = some due → exec .gapTimerExpiry s = .next { s with
      now := max s.now due
      link := { s.link with framer := .hunt, gapTimer := none, frameErrors := min 65535 (s.link.frameErrors + 1) } })

/-- R184, R187, R188: a BREAK discards the partial frame, the intake queue and every reply but one being sent, marks every deferred
record silent and is counted; a reply sent frees its place. MODEL'S CHOICE: whether a reply is being sent is an operand (log 7). -/
def Obligations.BreakAndReplySent : Prop :=
  ∀ s : State, s.live = true →
    (∀ sending : Bool, ∃ t, exec (.breakReceived sending) s = .next t ∧
      t.link = { s.link with
        framer := .hunt, gapTimer := none, intake := [],
        replies := if sending = true then s.link.replies.take 1 else [], breaks := min 65535 (s.link.breaks + 1) } ∧
      t.ctl = { s.ctl with records := s.ctl.records.map fun r => { r with silent := true } } ∧ s.samePower t ∧
      s.sameExcept t [.ctl, .link, .sup]) ∧
    (∀ reply rest, s.link.replies = reply :: rest →
      exec .replySent s = .next { s with link := { s.link with replies := rest } })

/-! ## Store Controller (09) -/

/-- R153, R154, R155, R157, R164, R178, R187: the end of the write in flight. A write whose read-back is clean and gives the image
completes: the line is released from the records that existed at its start, those left with nothing awaited end OK, the failed mark goes,
and a pending line is queued again. A first failure, an unclean read-back or one with other data, is retried at once with the live image.
A failed retry marks the line failed and dirty, counts it, raises STORE_FAULT and ends every record awaiting the line with STORE_FAULT.
Then the arbiter looks: the next write is the oldest entry of the highest class; with none, DRAINING ends in DORMANT, and in HOLDUP the
clean-shutdown mark is written, whose own write completes the flush, or leaves it uncompleted (looksAgain). A write of the mark that fails
leaves no mark that start-up would find set (R164). MODEL'S CHOICES: what the store holds afterwards is the operand's (log 7), but for
that mark (log 33), and FINISHED replies of one write come in the order of their records (log 28). -/
def Obligations.WriteEnds : Prop :=
  ∀ (s : State) (f : Flight) (found : WriteEnd),
    let c : Instr := .writeComplete found
    let held := afterWrite (storeGet s.store f.line) f.image found
    let passes := held.words = cleanWords ∧ held.image = f.image
    let released := s.ctl.records.map fun r =>
      if r.id ∈ f.records then { r with awaits := r.awaits.filter (· != f.line) } else r
    let finished (res : Result) (rs : List DeferredRecord) : List Reply :=
      (rs.filter fun r => !r.silent).map fun r => .finished r.tag r.kind res
    let q := s.ctl.queue
    let back (d : WriteClass) : List Nat := q.linesAt d ++ (if f.pending = some d then [f.line] else [])
    let rejoined : WriteQueue :=
      { flush := back .flush, commit := back .commit, checkpoint := back .checkpoint, repair := back .scrubRepair }
    let left := leftBy (storeGet s.store f.line) f.image found
    let stored (t : State) (l : StoredLine) : Prop := ∀ m, storeGet t.store m = if m = f.line then l else storeGet s.store m
    let markWrite := f.line = 5 ∧ ∃ m, f.image = .map m ∧ m.mark = true
    (s.sup.power = .active ∨ s.sup.power = .draining ∨ s.sup.power = .holdup) → s.ctl.flight = some f →
    (found.held = .new → (passes ↔ found.words = cleanWords)) ∧ ((∀ m, f.image = .map m → m.mark = false) → left = held) ∧
    (passes →
      ∃ t, exec c s = .next t ∧ stored t held ∧
        t.ctl.records = released.filter (fun r => !r.awaits.isEmpty) ∧
        t.link = { s.link with replies := s.link.replies ++ finished .ok (released.filter fun r => r.awaits.isEmpty) } ∧
        t.ctl.failed = s.ctl.failed.filter (· != f.line) ∧ t.ctl.failures = s.ctl.failures ∧
        s.looksAgain t rejoined s.ctl.dirty (if s.ctl.flush = .marking then .complete else s.ctl.flush) ∧
        s.sameExcept t [.store, .tally, .ctl, .link, .sup]) ∧
    (¬passes → f.retry = false →
      ∃ t, exec c s = .next t ∧ s.samePower t ∧ stored t left ∧ (markWrite → markStored t.store = false) ∧
        t.ctl = { s.ctl with
          dirty := s.ctl.dirty.filter (· != f.line)
          flight := some { line := f.line, image := s.liveImage f.line, retry := true, pending := f.pending,
                           records := s.ctl.records.map fun r => r.id } } ∧
        s.sameExcept t [.store, .ctl, .sup]) ∧
    (¬passes → f.retry = true →
      ∃ t, exec c s = .next t ∧ stored t left ∧ (markWrite → markStored t.store = false) ∧
        t.ctl.failures = min 65535 (s.ctl.failures + 1) ∧
        (∀ m, m ∈ t.ctl.failed ↔ m ∈ s.ctl.failed ∨ m = f.line) ∧
        (s.level .storeFault ≠ 0 → t.notice .storeFault ≠ none) ∧
        t.ctl.records = s.ctl.records.filter (fun r => !r.awaits.contains f.line) ∧
        t.link = { s.link with
          notices := t.link.notices
          replies := s.link.replies ++ finished .storeFault (s.ctl.records.filter fun r => r.awaits.contains f.line) } ∧
        s.looksAgain t rejoined (insertLine f.line s.ctl.dirty) (if s.ctl.flush = .marking then .failed else s.ctl.flush) ∧
        s.sameExcept t [.store, .tally, .ctl, .link, .sup])

/-- R152, R153, R163: queuing a line at a class, by where it stands, and the arbiter's choice. A line that stands nowhere joins as the
newest of the class, one queued lower is promoted, one queued there or higher is left; a line in flight takes the class as its pending
class unless it has that or a higher one. From HOLDUP entry on, every queuing is made at FLUSH. With nothing in flight, in ACTIVE and
DRAINING, the oldest entry of the highest class is written; in STARTING and DORMANT none is. -/
def Obligations.QueuingAndChoice : Prop :=
  (∀ (x : StoreController) (c : WriteClass) (n : Nat),
    let k : WriteClass := if x.flush = .absent then c else .flush
    let y := x.enqueue c n
    let higher (a b : WriteClass) : Prop := a.rank < b.rank
    WriteClass.flush.rank < WriteClass.commit.rank ∧ WriteClass.commit.rank < WriteClass.checkpoint.rank ∧
    WriteClass.checkpoint.rank < WriteClass.scrubRepair.rank ∧
    (¬x.holds n → y = { x with queue := y.queue } ∧
      ∀ d, y.queue.linesAt d = x.queue.linesAt d ++ (if d = k then [n] else [])) ∧
    (∀ d, x.flightLine ≠ some n → x.queue.lines.Nodup → n ∈ x.queue.linesAt d →
      (higher k d → y = { x with queue := y.queue } ∧
        ∀ e, y.queue.linesAt e = (x.queue.linesAt e).filter (· != n) ++ (if e = k then [n] else [])) ∧
      (¬higher k d → y = x)) ∧
    ∀ f, x.flight = some f → f.line = n →
      (f.pending = none → y = { x with flight := some { f with pending := some k } }) ∧
      ∀ d, f.pending = some d →
        (higher k d → y = { x with flight := some { f with pending := some k } }) ∧ (¬higher k d → y = x)) ∧
  ∀ s : State,
    (s.ctl.flight ≠ none → s.arbitrate = s) ∧ ((s.sup.power = .starting ∨ s.sup.power = .dormant) → s.arbitrate = s) ∧
    ∀ n, s.ctl.flight = none → (s.sup.power = .active ∨ s.sup.power = .draining) → s.ctl.queue.lines.head? = some n →
      s.writes s.arbitrate s.ctl.queue n ∧ s.arbitrate.ctl.dirty = s.ctl.dirty.filter (· != n) ∧
      s.sameExcept s.arbitrate [.ctl] ∧ s.ctl.records = s.arbitrate.ctl.records

/-- R158, R159, R161, R162, R178: the expiries of the Store Controller's timers and of the dormancy timer, in ACTIVE. A checkpoint queues
every dirty line from 5 to 177, and its timer starts again while the condition holds. A scrub step reads the line at the pointer, unless
it is queued or in flight, counts and queues a line that is not clean, and moves the pointer on. The drain queues every dirty line, and
with nothing queued or in flight the recorder is DORMANT at once, its timers cancelled. MODEL'S CHOICES: the decay operand of the scrub
expiry is what the store has become, and is applied whether or not the line at the pointer is in hand (log 7); a dirty line 0 is drained
with the others (R159; R149 has it otherwise: log 34). -/
def Obligations.StoreTimersExpire : Prop :=
  ∀ (s : State) (due : Nat), s.sup.power = .active →
    (s.ctl.checkpointTimer = some due →
      ∃ t, exec .checkpointTimerExpiry s = .next t ∧ t.now = max s.now due ∧
        t.ctl.checkpointTimer = (if s.run.state = .running ∨ s.driveline.tow ≠ .notTowing then
          some (t.now + s.ctl.timing.interval * 250000) else none) ∧
        (∀ n, t.ctl.holds n ↔ s.ctl.holds n ∨ n ∈ s.ctl.dirty ∧ 5 ≤ n ∧ n ≤ 177) ∧ t.ctl.records = s.ctl.records ∧
        s.sameExcept t [.time, .ctl]) ∧
    (∀ decay, s.ctl.scrubTimer = some due → s.ctl.scrubPointer < 178 →
      let p := s.ctl.scrubPointer
      let read := (storeGet (decayed s.store decay) p).outcome
      ∃ t, exec (.scrubTimerExpiry decay) s = .next t ∧ t.now = max s.now due ∧ t.store = decayed s.store decay ∧
        t.ctl.scrubTimer = some (t.now + s.ctl.timing.step * 250000) ∧ t.ctl.scrubPointer = (p + 1) % 178 ∧
        (¬s.ctl.holds p → read = .corrected → t.ctl.correctedCount = min 65535 (s.ctl.correctedCount + 1)) ∧
        ((s.ctl.holds p ∨ read ≠ .corrected) → t.ctl.correctedCount = s.ctl.correctedCount) ∧
        (¬s.ctl.holds p → read = .uncorrectable → t.ctl.repairedCount = min 65535 (s.ctl.repairedCount + 1)) ∧
        ((s.ctl.holds p ∨ read ≠ .uncorrectable) → t.ctl.repairedCount = s.ctl.repairedCount) ∧
        (∀ n, t.ctl.holds n ↔ s.ctl.holds n ∨ n = p ∧ read ≠ .clean ∧ ¬(p = 0 ∧ s.ctl.identityLost = true)) ∧
        s.sameExcept t [.time, .store, .ctl]) ∧
    (s.sup.dormancy = some due →
      ∃ t, exec .dormancyTimerExpiry s = .next t ∧ t.now = max s.now due ∧ t.sup.dormancy = none ∧
        ((s.ctl.flight = none ∧ s.ctl.queue.lines = [] ∧ s.ctl.dirty = []) →
          t.sup.power = .dormant ∧ t.tally.accrual = none ∧ t.ctl.checkpointTimer = none ∧ t.ctl.scrubTimer = none) ∧
        (¬(s.ctl.flight = none ∧ s.ctl.queue.lines = [] ∧ s.ctl.dirty = []) →
          t.sup.power = .draining ∧ t.tally = s.tally ∧ ∀ n, t.ctl.holds n ↔ s.ctl.holds n ∨ n ∈ s.ctl.dirty) ∧
        s.sameExcept t [.time, .tally, .ctl, .sup])

/-! ## Supply, RESET, POWER_WARN, start-up (10) -/

/-- R150, R164, R167, R170, R171, R189, R194: loss of supply and RESET end volatile state and leave the store, but for a write cut short,
whose line holds what `cut` says; POWER_UP and the release of RESET put the recorder before step 1 of start-up: STARTING, nothing in
flight, the link's queues and counts empty, no line read yet, IDENTIFY with a serial number of zero bytes. MODEL'S CHOICES: POWER_UP acts
also with the supply up, as an interruption (log 16); `cut` and `decay` are operands (log 7), but a write of the clean-shutdown mark cut
short leaves no mark set (log 33); the values of the state at rest (log 18), the revision byte before step 1 (log 17). -/
def Obligations.SupplyAndResetRestart : Prop :=
  ∀ (s : State) (cut : WriteEnd) (decay : Decay),
    let gone (t : State) : Prop :=
      t.sup.power = .starting ∧ t.sup.dormancy = none ∧ t.clock.value = 0 ∧ t.clock.isSet = false ∧ t.clock.tick = none ∧
      t.fitment = none ∧ t.ctl.flight = none ∧ t.ctl.records = [] ∧ t.ctl.failed = [] ∧ t.ctl.failures = 0 ∧
      t.ctl.correctedCount = 0 ∧ t.ctl.repairedCount = 0 ∧ t.ctl.checkpointTimer = none ∧ t.ctl.scrubTimer = none ∧
      t.ctl.scrubPointer = 0 ∧ t.tally.accrual = none ∧ t.link.framer = .hunt ∧ t.link.gapTimer = none ∧ t.link.intake = [] ∧
      t.link.replies = [] ∧ t.link.frameErrors = 0 ∧ t.link.breaks = 0 ∧ t.link.dropped = 0 ∧
      t.sup.unread = true ∧ t.ctl.identity = ([0x42, 0x0A, 0x10, 0x00, 0x00] : List Byte) ++ List.replicate 8 0
    let keeps (t : State) : Prop :=
      (∀ l : LineId, t.lines[l.index].level = s.lines[l.index].level) ∧ t.now = s.now ∧ t.pending = s.pending
    let stored (t : State) : Prop :=
      (s.ctl.flight = none → t.store = s.store) ∧
      (∀ f, s.ctl.flight = some f → ∀ m, storeGet t.store m =
        if m = f.line then leftBy (storeGet s.store m) f.image cut else storeGet s.store m) ∧
      ∀ f m, s.ctl.flight = some f → f.line = 5 → f.image = .map m → m.mark = true → markStored t.store = false
    (s.pins.supply = true →
      ∃ t, exec (.supplyLoss cut) s = .next t ∧ t.pins = { s.pins with supply := false } ∧ gone t ∧ keeps t ∧ stored t) ∧
    (s.pins.reset = false →
      ∃ t, exec (.resetAsserted cut) s = .next t ∧ t.pins = { s.pins with reset := true } ∧ gone t ∧ keeps t ∧ stored t) ∧
    (∃ t, exec (.powerUp cut decay) s = .next t ∧ t.pins = { s.pins with supply := true } ∧ gone t ∧ keeps t ∧
        (decay = [] → stored t)) ∧
    (s.pins.reset = true → s.pins.supply = true →
      ∃ t, exec (.resetReleased decay) s = .next t ∧ t.pins = { s.pins with reset := false } ∧ gone t ∧ keeps t ∧
        t.store = decayed s.store decay)

/-- R102, R103, R109, R170, R172, R174: what steps 1 to 7 of start-up make of the lines, step by step on an empty queue (log 3, log 17): the
identity bytes, the configuration of lines 1 to 4 applied or defaulted, each slot from its three lines, the map, the orphan tallies,
the counts of the report, and the correction writes. MODEL'S READINGS AND CHOICES: an uncorrectable identity line tells its stored state
by the contents last written (log 15); a line 5 that no layout reads counts as damaged (log 27); the identity's bytes stand eight to a
word (log 5). -/
def Obligations.StartUpReadsLines : Prop :=
  ∀ s : State, s.pending = [] → s.live = true → s.sup.power = .starting → s.sup.unread = true →
    let line (n : Nat) := storeGet s.store n
    let lost (n : Nat) : Prop := (line n).outcome = .uncorrectable
    let found (o : WordRead) := (List.range 178).filter fun n => decide ((line n).outcome = o)
    let sizedTo (n : Nat) (h : Hist) : Hist := { h with
      values := if h.quantity = .gearSeconds then h.values.take n ++ List.replicate (n - h.values.length) (some 0) else h.values }
    ∃ t, step s = .next t ∧ t.sup.unread = false ∧ t.sup.power = .starting ∧ t.fitment = none ∧
      t.link = { s.link with settings := t.link.settings } ∧
      s.sameExcept t [.clock, .channels, .lines, .run, .driveline, .tally, .table, .fitment, .book, .ctl, .sup, .link] ∧
      t.sup.report.corrected = (found .corrected).length ∧ t.sup.report.uncorrectable = (found .uncorrectable).length ∧
      t.ctl.queue = { WriteQueue.empty with commit := found .corrected } ∧ t.ctl.flight = none ∧
      -- the configuration
      (∀ bytes k b, (line 0).image = .identity bytes → bytes[k]? = some b →
        t.ctl.identity[k]? = some (if (line 0).words.toList[k / 8]? = some .uncorrectable then 0 else b)) ∧
      (∀ n, 1 ≤ n → n ≤ 4 → configIntact s.store n = false → n ∈ t.ctl.dirty) ∧
      t.sup.report.configDefaulted = ([1, 2, 3, 4].filter fun n => !configIntact s.store n).length ∧
      (∀ v, configIntact s.store 1 = true → (line 1).image = .channels v → ∀ i : Fin 10, t.channels[i].cfg = v[i]) ∧
      ((configIntact s.store 1 = false ∨ (line 1).image = .blank) → ∀ i : Fin 10, t.channels[i].cfg = .default) ∧
      (∀ x, configIntact s.store 2 = true → (line 2).image = .gears x → t.driveline.table = x) ∧
      ((configIntact s.store 2 = false ∨ (line 2).image = .blank) → t.driveline.table = { settle := 300, entries := [] }) ∧
      (∀ x, configIntact s.store 3 = true → (line 3).image = .settings x →
        (∀ l : LineId, t.lines[l.index].setting = x.lines[l.index]) ∧ t.run.settings = x.engine ∧
        t.driveline.settings = x.driveline ∧ t.ctl.timing = x.timing ∧ t.sup.delay = x.delay) ∧
      ((configIntact s.store 3 = false ∨ (line 3).image = .blank) →
        (∀ l : LineId, t.lines[l.index].setting = { filter := 20, activeHigh := true }) ∧
        t.run.settings = { runThreshold := 400, stopThreshold := 250, confirm := 1000 } ∧
        t.driveline.settings = .default ∧ t.ctl.timing = { interval := 60, step := 10 } ∧ t.sup.delay = 300) ∧
      (∀ w x, configIntact s.store 4 = true → (line 4).image = .weights w x → t.tally.weights = w ∧ t.link.settings = x) ∧
      ((configIntact s.store 4 = false ∨ (line 4).image = .blank) →
        t.tally.weights = defaultWeights ∧ (∀ k, t.level k = 4) ∧ t.link.settings.attention = 1) ∧
      -- the slots
      let gears := t.driveline.table.entries.length
      (∀ i : Fin 20,
        let a := 6 + 3 * i.val
        let slot := t.table.slots[i]
        let bare : Slot := { ident := .bare .damaged, tally := .empty }
        let anew := a ∈ t.ctl.dirty ∧ a + 1 ∈ t.ctl.dirty ∧ a + 2 ∈ t.ctl.dirty
        let empty := (line a).image = .blank ∨ (line a).image = .slotIdent (.bare .empty)
        (lost a → slot = bare ∧ (storedState s.store i ≠ some .damaged → anew)) ∧
        (¬lost a → empty → (lost (a + 1) ∨ lost (a + 2)) → slot = bare ∧ anew) ∧
        (¬lost a → empty → ¬lost (a + 1) → ¬lost (a + 2) → slot = .empty ∧
          ((line (a + 1)).image ≠ .blank → a + 1 ∈ t.ctl.dirty) ∧ ((line (a + 2)).image ≠ .blank → a + 2 ∈ t.ctl.dirty)) ∧
        ∀ x p, ¬lost a → (line a).image = .slotIdent x → x.valid = true →
          (x.position = some p ∨ x.position = none ∧ x.lastPosition = some p) →
          let damaged := decide (x.state = .damaged)
          let keeps := storedEntry s.store p = some i.val ∧ ∃ k, x.kind = some k ∧ p ∈ k.fits
          let sized (hs : List Hist) : List Hist := if t.table.map[p.index] = some i then hs.map (sizedTo gears) else hs
          (∀ xs hs, scalarsStored (line (a + 1)) p damaged xs → histsStored (line (a + 2)) p damaged hs →
            slot.tally = { scalars := xs, hists := sized hs } ∧ ((x.state ≠ .fitted ∨ keeps) → slot.ident = x) ∧
            (x.state = .fitted → ¬keeps →
              slot.ident = { x with state := .stray, position := none, lastPosition := some p } ∧ a ∈ t.ctl.dirty)) ∧
          (((∀ xs, ¬scalarsStored (line (a + 1)) p damaged xs) ∨ (∀ hs, ¬histsStored (line (a + 2)) p damaged hs)) →
            slot.ident = { x with state := .damaged, position := none, lastPosition := some p } ∧
            (∀ xs, scalarsStored (line (a + 1)) p damaged xs → slot.tally.scalars = xs) ∧
            (∀ hs, histsStored (line (a + 2)) p damaged hs → slot.tally.hists = hs) ∧
            ((∀ xs, ¬scalarsStored (line (a + 1)) p damaged xs) →
              slot.tally.scalars = p.scalarProfile.map fun q => { quantity := q, value := none, saturated := false }) ∧
            ((∀ hs, ¬histsStored (line (a + 2)) p damaged hs) →
              slot.tally.hists.map (·.quantity) = p.histProfile ∧
              ∀ h ∈ slot.tally.hists, (∀ v ∈ h.values, v = none) ∧ h.saturated = false) ∧
            (damaged = false → anew))) ∧
      t.sup.report.slotsDamaged = ((List.finRange 20).filter fun i =>
        decide (t.table.slots[i].ident.state = .damaged ∧ storedState s.store i ≠ some .damaged)).length ∧
      t.sup.report.slotsStray = ((List.finRange 20).filter fun i =>
        decide (t.table.slots[i].ident.state = .stray ∧ storedState s.store i = some .fitted)).length ∧
      -- the map
      (∀ (p : Position) (i : Fin 20), t.table.map[p.index] = some i ↔ storedEntry s.store p = some i.val ∧
        t.table.slots[i].ident.state = .fitted ∧ t.table.slots[i].ident.position = some p) ∧
      t.sup.report.mapCleared = (Position.all.filter fun p =>
        (storedEntry s.store p).isSome && t.table.map[p.index].isNone).length ∧
      (0 < t.sup.report.mapCleared → 5 ∈ t.ctl.dirty) ∧
      -- the orphan tallies
      (∀ p : Position,
        (∀ x, orphanIntact s.store p = true → (line (66 + p.code)).image = .orphan x →
          t.tally.orphans[p.index] = { x with hists := x.hists.map (sizedTo gears) }) ∧
        ((orphanIntact s.store p = false ∨ (line (66 + p.code)).image = .blank) → t.tally.orphans[p.index] = .zero p gears) ∧
        (orphanIntact s.store p = false → 66 + p.code ∈ t.ctl.dirty)) ∧
      t.sup.report.orphansRestarted = (Position.all.filter fun p => !orphanIntact s.store p).length

/-- R131, R147, R173, R175, R176: steps 3, 8 and 9 of start-up. The mark is recorded and cleared. `run` is the run of R175, newest first
(the model's bookRun, with the corners of log 14): with none the book is that of a fresh part. Below the top every record keeps the
increments of its intact increment lines, whatever its header line and the other lines, and has none of a damaged one, be it
uncorrectable, of another sequence number (a torn opening) or against R132. A damaged header line makes the record DAMAGED with nothing
but its number; an intact header with a damaged increment line makes it DAMAGED with its fields kept and the incomplete mark set; an OPEN
record of intact lines is closed with reason RECOVERY. A record that becomes DAMAGED has its four lines dirty, and both kinds are counted
in the report. At the top a damaged record gives a fresh IDLE record in its place, a CLOSED one a new record after it, or with the book
full is reopened. Every place outside the book is free, its header line free and its increment lines blank, and those of its lines that
were not stored so are dirty. Line 5 is dirty where the bounds differ from the stored ones. The open record counts the restart. A book of
intact lines and its bounds gives the run from the newest to the oldest, and blank header lines give none. MODEL'S CHOICES: the steps are
made by the step on the empty queue (log 3, log 17); the corners of the run and of damage (log 14); which increment line keeps a position
(log 6). -/
def Obligations.StartUpRebuildsBook : Prop :=
  ∀ s : State, s.pending = [] → s.live = true → s.sup.power = .starting → s.sup.unread = true →
    let run := bookRun s.store
    let lost (n : Nat) : Prop := (storeGet s.store n).outcome = .uncorrectable
    let restarted (i : PeriodInfo) : PeriodInfo := { i with
      restarts := min 255 (i.restarts + 1), unwarned := if markStored s.store = true then i.unwarned else min 255 (i.unwarned + 1) }
    let counted (h : Header) : Header := { h with info := h.info.map restarted }
    let idle (q : Nat) (reason : OpenReason) : Place := {
      header := some (counted {
        seq := q, state := .opened, closeReason := none, openedAt := none, closedAt := none, incomplete := false,
        info := some { kind := .idle, contract := none, segment := 0, openReason := reason, restarts := 0, unwarned := 0, tows := 0 } })
      lines := Vector.replicate 3 { seq := some q, entries := [] } }
    let lines (q : Nat) (es : Fin 3 → List Entry) : Vector IncrementLine 3 :=
      #v[{ seq := some q, entries := es 0 }, { seq := some q, entries := es 1 }, { seq := some q, entries := es 2 }]
    let place (q : Nat) (h : Header) (es : Fin 3 → List Entry) : Place := { header := some h, lines := lines q es }
    ((∀ p : Fin 24, ¬lost (82 + 4 * p.val) ∧ (storeGet s.store (82 + 4 * p.val)).image = .blank) → run = []) ∧
    (∀ m o n, ¬lost 5 → (storeGet s.store 5).image = .map m → m.bounds = some (o, n) → 1 ≤ o → o ≤ n → n < o + 24 →
      n ≤ 4294967295 → (∀ q, o ≤ q → q ≤ n → ∃ h es, recordStored s.store q h es) →
      (∀ p : Fin 24, (∀ q, o ≤ q → q ≤ n → q % 24 ≠ p.val) →
        ¬lost (82 + 4 * p.val) ∧ (storeGet s.store (82 + 4 * p.val)).image = .blank) →
      run = (List.range (n + 1 - o)).map (n - ·)) ∧
    ∃ t, step s = .next t ∧ t.sup.mark = false ∧ t.sup.report.markFound = markStored s.store ∧
      (markStored s.store = true → 5 ∈ t.ctl.dirty) ∧ 82 + 4 * (t.book.newest % 24) ∈ t.ctl.dirty ∧
      ((∀ m, ¬lost 5 → (storeGet s.store 5).image = .map m → m.bounds ≠ some (t.book.oldest, t.book.newest)) → 5 ∈ t.ctl.dirty) ∧
      (t.sup.report.opening = .cleared ∨ t.sup.report.opening = .new ∨ t.sup.report.opening = .reset →
        ∀ n ∈ placeLines (placeOf t.book.newest), n ∈ t.ctl.dirty) ∧
      -- the places outside the book
      (∀ p : Fin 24, (∀ q, t.book.oldest ≤ q → q ≤ t.book.newest → q % 24 ≠ p.val) →
        t.book.places[p] = { header := none, lines := Vector.replicate 3 { seq := none, entries := [] } } ∧
        ∀ n ∈ placeLines p, (lost n ∨ (storeGet s.store n).image ≠ .blank) → n ∈ t.ctl.dirty) ∧
      t.sup.report.recordsDamaged = (run.tail.filter fun q => match headerKept s.store q with
        | some h => decide (h.state ≠ .damaged) && !linesIntact s.store q
        | none => true).length ∧
      t.sup.report.recoveryCloses = (run.tail.filter fun q => match headerKept s.store q with
        | some h => decide (h.state = .opened) && linesIntact s.store q
        | none => false).length ∧
      (run = [] → t.book.oldest = 1 ∧ t.book.newest = 1 ∧ t.book.places[1] = idle 1 .cleared ∧
        t.sup.report.opening = .cleared) ∧
      ∀ top older, run = top :: older →
        t.book.oldest = top - older.length ∧
        (∀ q ∈ older,
          let now := t.book.places[placeOf q]
          -- its increment lines, in every case: an intact one keeps its entries, a damaged one none
          now.lines = lines q (incrementsKept s.store q) ∧
          -- the header line damaged
          (headerKept s.store q = none →
            now.header = some {
              seq := q, state := .damaged, info := none, closeReason := none, openedAt := none, closedAt := none,
              incomplete := true } ∧
            ∀ n ∈ placeLines (placeOf q), n ∈ t.ctl.dirty) ∧
          -- the header line intact and an increment line damaged
          (∀ h, headerKept s.store q = some h → (∃ k : Fin 3, incrementsIntact s.store q k = false) →
            now.header = some { h with state := .damaged, incomplete := true } ∧
            (h.state ≠ .damaged → ∀ n ∈ placeLines (placeOf q), n ∈ t.ctl.dirty)) ∧
          -- all four lines intact
          (∀ h es, recordStored s.store q h es →
            now = place q (if h.state = .opened then
              { h with state := .closed, closeReason := some .recovery, closedAt := none } else h) es ∧
            (h.state = .opened → 82 + 4 * (q % 24) ∈ t.ctl.dirty))) ∧
        (∀ h es, recordStored s.store top h es →
          (h.state = .opened → t.book.newest = top ∧ t.book.places[placeOf top] = place top (counted h) es ∧
            t.sup.report.opening = .absent) ∧
          (h.state = .closed → older.length + 1 < 24 → top < 4294967295 → t.book.newest = top + 1 ∧
            t.book.places[placeOf top] = place top h es ∧ t.book.places[placeOf (top + 1)] = idle (top + 1) .recovery ∧
            t.sup.report.opening = .new) ∧
          (h.state = .closed → ¬(older.length + 1 < 24 ∧ top < 4294967295) → t.book.newest = top ∧
            t.book.places[placeOf top] = place top (counted { h with
              state := .opened, closeReason := none, closedAt := none }) es ∧ t.sup.report.opening = .reopen) ∧
          (h.state = .damaged → t.book.newest = top ∧ t.book.places[placeOf top] = idle top .recovery ∧
            t.sup.report.opening = .reset)) ∧
        ((∀ h es, ¬recordStored s.store top h es) → t.book.newest = top ∧
          t.book.places[placeOf top] = idle top .recovery ∧ t.sup.report.opening = .reset)

/-- R177, R18, R24, R40, R54, R75, R81, R161, R163, R169, R189: the end of start-up. The recorder is ACTIVE with the clock UNSET at 0,
channels, lines and observers at their starting states, CLOCK_UNSET raised and START_RECOVERY where the report calls for it, accrual and
scrub timers started, and every dirty line queued or in flight. With POWER_WARN asserted it is in HOLDUP in the same act: queued requests
are refused POWER_FAIL, every line is at FLUSH class or in flight, and with none the clean-shutdown mark is written. MODEL'S CHOICES:
where steps 1 to 9 are still to be made, they are made first (log 17); a dirty line 0 is flushed with the others (log 34). -/
def Obligations.StartUpEnds : Prop :=
  ∀ s : State, s.live = true → s.sup.power = .starting →
    (s.sup.unread = true → exec .endOfStartUp s = exec .endOfStartUp s.startUp) ∧
    (s.sup.unread = false →
    ∃ t, exec .endOfStartUp s = .next t ∧ t.sup.report = s.sup.report ∧ t.sup.delay = s.sup.delay ∧ t.sup.unread = false ∧
      (s.pins.powerWarn = false → t.sup.power = .active ∧ t.sup.mark = s.sup.mark ∧
        t.link = { s.link with notices := t.link.notices }) ∧
      (s.pins.powerWarn = true → t.sup.power = .holdup ∧ t.sup.dormancy = none ∧ t.link.intake = [] ∧
        (s.link.intake.length ≤ s.freePlaces → t.link = { s.link with
          intake := [], replies := s.link.replies ++ s.link.intake.map (fun r => .refused r.tag r.kind .powerFail),
          notices := t.link.notices }) ∧
        t.ctl.queue.commit = [] ∧ t.ctl.queue.checkpoint = [] ∧ t.ctl.queue.repair = [] ∧
        (s.ctl.flight = none → s.ctl.queue.lines = [] → s.ctl.dirty = [] →
          t.sup.mark = true ∧ t.ctl.flightLine = some 5 ∧ t.ctl.flush = .marking)) ∧
      t.clock = { value := 0, isSet := false, tick := some (s.now + 250000) } ∧
      (∀ i : Fin 10,
        let cfg := s.channels[i].cfg
        t.channels[i] = {
          cfg := cfg, state := if cfg.enabled = true ∧ cfg.function ≠ .unassigned then .stopped else .disabled, speed := some 0,
          capture := none, short := 0, good := 0, tooth := 0, noise := 0, episode := false }) ∧
      (∀ l : LineId,
        let x := s.lines[l.index]
        t.lines[l.index] = { x with filtered := x.level == x.setting.activeHigh, timer := none }) ∧
      t.run = {
        state := if t.shaft .engineSpeed = some .stopped then .off else .blind, runTimer := none, stopTimer := none,
        measure := none, attempt := 0, settings := s.run.settings } ∧
      t.driveline.table = s.driveline.table ∧ t.driveline.settings = s.driveline.settings ∧ t.driveline.gear = .idle ∧
      t.driveline.lastGear = none ∧ t.driveline.fresh = false ∧ t.driveline.load = none ∧ t.driveline.tow = .notTowing ∧
      t.driveline.clutch = (if t.lineActive .clutch = true then .engaged else .released) ∧
      t.driveline.pto = (if t.lineActive .ptoOn = true then .on else .off) ∧ t.fitment = none ∧
      t.tally = { s.tally with accrual := some (s.now + 250000) } ∧
      t.ctl.scrubTimer = some (s.now + s.ctl.timing.step * 250000) ∧
      (∀ n, s.ctl.holds n ∨ n ∈ s.ctl.dirty → t.ctl.holds n) ∧
      (∀ n, t.ctl.holds n → s.ctl.holds n ∨ n ∈ s.ctl.dirty ∨ n = 5 ∧ s.pins.powerWarn = true) ∧
      (∀ k, k ≠ .clockUnset → k ≠ .startRecovery → t.notice k = none) ∧
      (s.level .clockUnset ≠ 0 → t.notice .clockUnset = some { detail := .empty, repeats := 0 }) ∧
      (t.notice .startRecovery ≠ none ↔ s.level .startRecovery ≠ 0 ∧
        (0 < s.sup.report.uncorrectable ∨ 0 < s.sup.report.configDefaulted ∨ 0 < s.sup.report.slotsDamaged ∨
          0 < s.sup.report.slotsStray ∨ 0 < s.sup.report.mapCleared ∨ 0 < s.sup.report.orphansRestarted ∨
          0 < s.sup.report.recordsDamaged ∨ 0 < s.sup.report.recoveryCloses ∨ s.sup.report.opening = .reset ∨
          s.sup.report.opening = .new ∨ s.sup.report.opening = .reopen)) ∧
      t.table = s.table ∧ t.book = s.book ∧ t.store = s.store)

/-- R163, R164, R165, R169, R189: POWER_WARN moves ACTIVE, DRAINING and DORMANT to HOLDUP: each queued request is refused POWER_FAIL
while places are free, and every queued or dirty line is queued at FLUSH class or in flight; with none, line 5 is written with the
clean-shutdown mark set. In STARTING and HOLDUP only the pin changes. When it clears in HOLDUP the mark is cleared, line 5 is
queued, and the recorder is ACTIVE. MODEL'S CHOICE (log 34): a dirty line 0 is flushed with the others (R163; R149 has it otherwise). -/
def Obligations.PowerWarnMovesHoldup : Prop :=
  ∀ s : State, s.live = true →
    (s.pins.powerWarn = false →
      ∃ t, exec .powerWarnAsserted s = .next t ∧ t.pins = { s.pins with powerWarn := true } ∧
        ((s.sup.power = .starting ∨ s.sup.power = .holdup) → s.sameExcept t [.pins]) ∧
        ((s.sup.power = .active ∨ s.sup.power = .draining ∨ s.sup.power = .dormant) →
          t.sup.power = .holdup ∧ t.sup.dormancy = none ∧ t.link.intake = [] ∧
          (s.link.intake.length ≤ s.freePlaces → t.link.replies =
            s.link.replies ++ s.link.intake.map fun r => .refused r.tag r.kind .powerFail) ∧
          t.ctl.queue.commit = [] ∧ t.ctl.queue.checkpoint = [] ∧ t.ctl.queue.repair = [] ∧
          (∀ n, s.ctl.holds n ∨ n ∈ s.ctl.dirty → t.ctl.holds n) ∧ t.ctl.records = s.ctl.records ∧
          (s.ctl.flight = none → s.ctl.queue.lines = [] → s.ctl.dirty = [] →
            t.sup.mark = true ∧ t.ctl.flightLine = some 5) ∧
          s.sameExcept t [.pins, .tally, .ctl, .sup, .link])) ∧
    (s.pins.powerWarn = true →
      ∃ t, exec .powerWarnCleared s = .next t ∧ t.pins = { s.pins with powerWarn := false } ∧
        (s.sup.power ≠ .holdup → s.sameExcept t [.pins]) ∧
        (s.sup.power = .holdup → t.sup.power = .active ∧ t.sup.mark = false ∧ t.ctl.flush = .absent ∧ t.ctl.holds 5 ∧
          t.ctl.records = s.ctl.records ∧ s.sameExcept t [.pins, .ctl, .sup]))
end

