-- ==== Sys2Proof/Laws/State.lean ====
section
/-! SUPPORT. What each setter of the state does to each field: one lemma per field and setter, true by definition. -/

namespace Sys2Proof.Machine

variable (s : State)

@[simp] theorem reach_pending (d : Nat) : (s.reach d).pending = s.pending := rfl
@[simp] theorem reach_now (d : Nat) : (s.reach d).now = max s.now d := rfl
@[simp] theorem reach_free (d : Nat) : (s.reach d).free = s.free := rfl
@[simp] theorem reach_nextId (d : Nat) : (s.reach d).nextId = s.nextId := rfl
@[simp] theorem reach_pins (d : Nat) : (s.reach d).pins = s.pins := rfl
@[simp] theorem reach_clock (d : Nat) : (s.reach d).clock = s.clock := rfl
@[simp] theorem reach_channels (d : Nat) : (s.reach d).channels = s.channels := rfl
@[simp] theorem reach_lines (d : Nat) : (s.reach d).lines = s.lines := rfl
@[simp] theorem reach_run (d : Nat) : (s.reach d).run = s.run := rfl
@[simp] theorem reach_driveline (d : Nat) : (s.reach d).driveline = s.driveline := rfl
@[simp] theorem reach_tally (d : Nat) : (s.reach d).tally = s.tally := rfl
@[simp] theorem reach_table (d : Nat) : (s.reach d).table = s.table := rfl
@[simp] theorem reach_fitment (d : Nat) : (s.reach d).fitment = s.fitment := rfl
@[simp] theorem reach_book (d : Nat) : (s.reach d).book = s.book := rfl
@[simp] theorem reach_store (d : Nat) : (s.reach d).store = s.store := rfl
@[simp] theorem reach_ctl (d : Nat) : (s.reach d).ctl = s.ctl := rfl
@[simp] theorem reach_sup (d : Nat) : (s.reach d).sup = s.sup := rfl
@[simp] theorem reach_link (d : Nat) : (s.reach d).link = s.link := rfl

@[simp] theorem pass_pending (d : Nat) : (s.pass d).pending = s.pending := rfl
@[simp] theorem pass_now (d : Nat) : (s.pass d).now = s.now + d := rfl
@[simp] theorem pass_free (d : Nat) : (s.pass d).free = s.free := rfl
@[simp] theorem pass_nextId (d : Nat) : (s.pass d).nextId = s.nextId := rfl
@[simp] theorem pass_pins (d : Nat) : (s.pass d).pins = s.pins := rfl
@[simp] theorem pass_clock (d : Nat) : (s.pass d).clock = s.clock := rfl
@[simp] theorem pass_channels (d : Nat) : (s.pass d).channels = s.channels := rfl
@[simp] theorem pass_lines (d : Nat) : (s.pass d).lines = s.lines := rfl
@[simp] theorem pass_run (d : Nat) : (s.pass d).run = s.run := rfl
@[simp] theorem pass_driveline (d : Nat) : (s.pass d).driveline = s.driveline := rfl
@[simp] theorem pass_tally (d : Nat) : (s.pass d).tally = s.tally := rfl
@[simp] theorem pass_table (d : Nat) : (s.pass d).table = s.table := rfl
@[simp] theorem pass_fitment (d : Nat) : (s.pass d).fitment = s.fitment := rfl
@[simp] theorem pass_book (d : Nat) : (s.pass d).book = s.book := rfl
@[simp] theorem pass_store (d : Nat) : (s.pass d).store = s.store := rfl
@[simp] theorem pass_ctl (d : Nat) : (s.pass d).ctl = s.ctl := rfl
@[simp] theorem pass_sup (d : Nat) : (s.pass d).sup = s.sup := rfl
@[simp] theorem pass_link (d : Nat) : (s.pass d).link = s.link := rfl

@[simp] theorem setChannelRecord_pending (i : Fin 10) (c : Channel) : (s.setChannelRecord i c).pending = s.pending := rfl
@[simp] theorem setChannelRecord_now (i : Fin 10) (c : Channel) : (s.setChannelRecord i c).now = s.now := rfl
@[simp] theorem setChannelRecord_free (i : Fin 10) (c : Channel) : (s.setChannelRecord i c).free = s.free := rfl
@[simp] theorem setChannelRecord_nextId (i : Fin 10) (c : Channel) : (s.setChannelRecord i c).nextId = s.nextId := rfl
@[simp] theorem setChannelRecord_pins (i : Fin 10) (c : Channel) : (s.setChannelRecord i c).pins = s.pins := rfl
@[simp] theorem setChannelRecord_clock (i : Fin 10) (c : Channel) : (s.setChannelRecord i c).clock = s.clock := rfl
@[simp] theorem setChannelRecord_channels (i : Fin 10) (c : Channel) : (s.setChannelRecord i c).channels = s.channels.set i c := rfl
@[simp] theorem setChannelRecord_lines (i : Fin 10) (c : Channel) : (s.setChannelRecord i c).lines = s.lines := rfl
@[simp] theorem setChannelRecord_run (i : Fin 10) (c : Channel) : (s.setChannelRecord i c).run = s.run := rfl
@[simp] theorem setChannelRecord_driveline (i : Fin 10) (c : Channel) : (s.setChannelRecord i c).driveline = s.driveline := rfl
@[simp] theorem setChannelRecord_tally (i : Fin 10) (c : Channel) : (s.setChannelRecord i c).tally = s.tally := rfl
@[simp] theorem setChannelRecord_table (i : Fin 10) (c : Channel) : (s.setChannelRecord i c).table = s.table := rfl
@[simp] theorem setChannelRecord_fitment (i : Fin 10) (c : Channel) : (s.setChannelRecord i c).fitment = s.fitment := rfl
@[simp] theorem setChannelRecord_book (i : Fin 10) (c : Channel) : (s.setChannelRecord i c).book = s.book := rfl
@[simp] theorem setChannelRecord_store (i : Fin 10) (c : Channel) : (s.setChannelRecord i c).store = s.store := rfl
@[simp] theorem setChannelRecord_ctl (i : Fin 10) (c : Channel) : (s.setChannelRecord i c).ctl = s.ctl := rfl
@[simp] theorem setChannelRecord_sup (i : Fin 10) (c : Channel) : (s.setChannelRecord i c).sup = s.sup := rfl
@[simp] theorem setChannelRecord_link (i : Fin 10) (c : Channel) : (s.setChannelRecord i c).link = s.link := rfl

@[simp] theorem setLineRecord_pending (l : LineId) (x : InputLine) : (s.setLineRecord l x).pending = s.pending := rfl
@[simp] theorem setLineRecord_now (l : LineId) (x : InputLine) : (s.setLineRecord l x).now = s.now := rfl
@[simp] theorem setLineRecord_free (l : LineId) (x : InputLine) : (s.setLineRecord l x).free = s.free := rfl
@[simp] theorem setLineRecord_nextId (l : LineId) (x : InputLine) : (s.setLineRecord l x).nextId = s.nextId := rfl
@[simp] theorem setLineRecord_pins (l : LineId) (x : InputLine) : (s.setLineRecord l x).pins = s.pins := rfl
@[simp] theorem setLineRecord_clock (l : LineId) (x : InputLine) : (s.setLineRecord l x).clock = s.clock := rfl
@[simp] theorem setLineRecord_channels (l : LineId) (x : InputLine) : (s.setLineRecord l x).channels = s.channels := rfl
@[simp] theorem setLineRecord_lines (l : LineId) (x : InputLine) : (s.setLineRecord l x).lines = s.lines.set l.index x := rfl
@[simp] theorem setLineRecord_run (l : LineId) (x : InputLine) : (s.setLineRecord l x).run = s.run := rfl
@[simp] theorem setLineRecord_driveline (l : LineId) (x : InputLine) : (s.setLineRecord l x).driveline = s.driveline := rfl
@[simp] theorem setLineRecord_tally (l : LineId) (x : InputLine) : (s.setLineRecord l x).tally = s.tally := rfl
@[simp] theorem setLineRecord_table (l : LineId) (x : InputLine) : (s.setLineRecord l x).table = s.table := rfl
@[simp] theorem setLineRecord_fitment (l : LineId) (x : InputLine) : (s.setLineRecord l x).fitment = s.fitment := rfl
@[simp] theorem setLineRecord_book (l : LineId) (x : InputLine) : (s.setLineRecord l x).book = s.book := rfl
@[simp] theorem setLineRecord_store (l : LineId) (x : InputLine) : (s.setLineRecord l x).store = s.store := rfl
@[simp] theorem setLineRecord_ctl (l : LineId) (x : InputLine) : (s.setLineRecord l x).ctl = s.ctl := rfl
@[simp] theorem setLineRecord_sup (l : LineId) (x : InputLine) : (s.setLineRecord l x).sup = s.sup := rfl
@[simp] theorem setLineRecord_link (l : LineId) (x : InputLine) : (s.setLineRecord l x).link = s.link := rfl

@[simp] theorem setSlot_pending (i : Fin 20) (x : Slot) : (s.setSlot i x).pending = s.pending := rfl
@[simp] theorem setSlot_now (i : Fin 20) (x : Slot) : (s.setSlot i x).now = s.now := rfl
@[simp] theorem setSlot_free (i : Fin 20) (x : Slot) : (s.setSlot i x).free = s.free := rfl
@[simp] theorem setSlot_nextId (i : Fin 20) (x : Slot) : (s.setSlot i x).nextId = s.nextId := rfl
@[simp] theorem setSlot_pins (i : Fin 20) (x : Slot) : (s.setSlot i x).pins = s.pins := rfl
@[simp] theorem setSlot_clock (i : Fin 20) (x : Slot) : (s.setSlot i x).clock = s.clock := rfl
@[simp] theorem setSlot_channels (i : Fin 20) (x : Slot) : (s.setSlot i x).channels = s.channels := rfl
@[simp] theorem setSlot_lines (i : Fin 20) (x : Slot) : (s.setSlot i x).lines = s.lines := rfl
@[simp] theorem setSlot_run (i : Fin 20) (x : Slot) : (s.setSlot i x).run = s.run := rfl
@[simp] theorem setSlot_driveline (i : Fin 20) (x : Slot) : (s.setSlot i x).driveline = s.driveline := rfl
@[simp] theorem setSlot_tally (i : Fin 20) (x : Slot) : (s.setSlot i x).tally = s.tally := rfl
@[simp] theorem setSlot_table (i : Fin 20) (x : Slot) : (s.setSlot i x).table = { s.table with slots := s.table.slots.set i x } := rfl
@[simp] theorem setSlot_fitment (i : Fin 20) (x : Slot) : (s.setSlot i x).fitment = s.fitment := rfl
@[simp] theorem setSlot_book (i : Fin 20) (x : Slot) : (s.setSlot i x).book = s.book := rfl
@[simp] theorem setSlot_store (i : Fin 20) (x : Slot) : (s.setSlot i x).store = s.store := rfl
@[simp] theorem setSlot_ctl (i : Fin 20) (x : Slot) : (s.setSlot i x).ctl = s.ctl := rfl
@[simp] theorem setSlot_sup (i : Fin 20) (x : Slot) : (s.setSlot i x).sup = s.sup := rfl
@[simp] theorem setSlot_link (i : Fin 20) (x : Slot) : (s.setSlot i x).link = s.link := rfl

@[simp] theorem setOrphan_pending (p : Position) (t : Tally) : (s.setOrphan p t).pending = s.pending := rfl
@[simp] theorem setOrphan_now (p : Position) (t : Tally) : (s.setOrphan p t).now = s.now := rfl
@[simp] theorem setOrphan_free (p : Position) (t : Tally) : (s.setOrphan p t).free = s.free := rfl
@[simp] theorem setOrphan_nextId (p : Position) (t : Tally) : (s.setOrphan p t).nextId = s.nextId := rfl
@[simp] theorem setOrphan_pins (p : Position) (t : Tally) : (s.setOrphan p t).pins = s.pins := rfl
@[simp] theorem setOrphan_clock (p : Position) (t : Tally) : (s.setOrphan p t).clock = s.clock := rfl
@[simp] theorem setOrphan_channels (p : Position) (t : Tally) : (s.setOrphan p t).channels = s.channels := rfl
@[simp] theorem setOrphan_lines (p : Position) (t : Tally) : (s.setOrphan p t).lines = s.lines := rfl
@[simp] theorem setOrphan_run (p : Position) (t : Tally) : (s.setOrphan p t).run = s.run := rfl
@[simp] theorem setOrphan_driveline (p : Position) (t : Tally) : (s.setOrphan p t).driveline = s.driveline := rfl
@[simp] theorem setOrphan_tally (p : Position) (t : Tally) : (s.setOrphan p t).tally = { s.tally with orphans := s.tally.orphans.set p.index t } := rfl
@[simp] theorem setOrphan_table (p : Position) (t : Tally) : (s.setOrphan p t).table = s.table := rfl
@[simp] theorem setOrphan_fitment (p : Position) (t : Tally) : (s.setOrphan p t).fitment = s.fitment := rfl
@[simp] theorem setOrphan_book (p : Position) (t : Tally) : (s.setOrphan p t).book = s.book := rfl
@[simp] theorem setOrphan_store (p : Position) (t : Tally) : (s.setOrphan p t).store = s.store := rfl
@[simp] theorem setOrphan_ctl (p : Position) (t : Tally) : (s.setOrphan p t).ctl = s.ctl := rfl
@[simp] theorem setOrphan_sup (p : Position) (t : Tally) : (s.setOrphan p t).sup = s.sup := rfl
@[simp] theorem setOrphan_link (p : Position) (t : Tally) : (s.setOrphan p t).link = s.link := rfl

@[simp] theorem setEntry_pending (p : Position) (x : Option (Fin 20)) : (s.setEntry p x).pending = s.pending := rfl
@[simp] theorem setEntry_now (p : Position) (x : Option (Fin 20)) : (s.setEntry p x).now = s.now := rfl
@[simp] theorem setEntry_free (p : Position) (x : Option (Fin 20)) : (s.setEntry p x).free = s.free := rfl
@[simp] theorem setEntry_nextId (p : Position) (x : Option (Fin 20)) : (s.setEntry p x).nextId = s.nextId := rfl
@[simp] theorem setEntry_pins (p : Position) (x : Option (Fin 20)) : (s.setEntry p x).pins = s.pins := rfl
@[simp] theorem setEntry_clock (p : Position) (x : Option (Fin 20)) : (s.setEntry p x).clock = s.clock := rfl
@[simp] theorem setEntry_channels (p : Position) (x : Option (Fin 20)) : (s.setEntry p x).channels = s.channels := rfl
@[simp] theorem setEntry_lines (p : Position) (x : Option (Fin 20)) : (s.setEntry p x).lines = s.lines := rfl
@[simp] theorem setEntry_run (p : Position) (x : Option (Fin 20)) : (s.setEntry p x).run = s.run := rfl
@[simp] theorem setEntry_driveline (p : Position) (x : Option (Fin 20)) : (s.setEntry p x).driveline = s.driveline := rfl
@[simp] theorem setEntry_tally (p : Position) (x : Option (Fin 20)) : (s.setEntry p x).tally = s.tally := rfl
@[simp] theorem setEntry_table (p : Position) (x : Option (Fin 20)) : (s.setEntry p x).table = { s.table with map := s.table.map.set p.index x } := rfl
@[simp] theorem setEntry_fitment (p : Position) (x : Option (Fin 20)) : (s.setEntry p x).fitment = s.fitment := rfl
@[simp] theorem setEntry_book (p : Position) (x : Option (Fin 20)) : (s.setEntry p x).book = s.book := rfl
@[simp] theorem setEntry_store (p : Position) (x : Option (Fin 20)) : (s.setEntry p x).store = s.store := rfl
@[simp] theorem setEntry_ctl (p : Position) (x : Option (Fin 20)) : (s.setEntry p x).ctl = s.ctl := rfl
@[simp] theorem setEntry_sup (p : Position) (x : Option (Fin 20)) : (s.setEntry p x).sup = s.sup := rfl
@[simp] theorem setEntry_link (p : Position) (x : Option (Fin 20)) : (s.setEntry p x).link = s.link := rfl

@[simp] theorem setPlace_pending (p : Fin 24) (x : Place) : (s.setPlace p x).pending = s.pending := rfl
@[simp] theorem setPlace_now (p : Fin 24) (x : Place) : (s.setPlace p x).now = s.now := rfl
@[simp] theorem setPlace_free (p : Fin 24) (x : Place) : (s.setPlace p x).free = s.free := rfl
@[simp] theorem setPlace_nextId (p : Fin 24) (x : Place) : (s.setPlace p x).nextId = s.nextId := rfl
@[simp] theorem setPlace_pins (p : Fin 24) (x : Place) : (s.setPlace p x).pins = s.pins := rfl
@[simp] theorem setPlace_clock (p : Fin 24) (x : Place) : (s.setPlace p x).clock = s.clock := rfl
@[simp] theorem setPlace_channels (p : Fin 24) (x : Place) : (s.setPlace p x).channels = s.channels := rfl
@[simp] theorem setPlace_lines (p : Fin 24) (x : Place) : (s.setPlace p x).lines = s.lines := rfl
@[simp] theorem setPlace_run (p : Fin 24) (x : Place) : (s.setPlace p x).run = s.run := rfl
@[simp] theorem setPlace_driveline (p : Fin 24) (x : Place) : (s.setPlace p x).driveline = s.driveline := rfl
@[simp] theorem setPlace_tally (p : Fin 24) (x : Place) : (s.setPlace p x).tally = s.tally := rfl
@[simp] theorem setPlace_table (p : Fin 24) (x : Place) : (s.setPlace p x).table = s.table := rfl
@[simp] theorem setPlace_fitment (p : Fin 24) (x : Place) : (s.setPlace p x).fitment = s.fitment := rfl
@[simp] theorem setPlace_book (p : Fin 24) (x : Place) : (s.setPlace p x).book = { s.book with places := s.book.places.set p x } := rfl
@[simp] theorem setPlace_store (p : Fin 24) (x : Place) : (s.setPlace p x).store = s.store := rfl
@[simp] theorem setPlace_ctl (p : Fin 24) (x : Place) : (s.setPlace p x).ctl = s.ctl := rfl
@[simp] theorem setPlace_sup (p : Fin 24) (x : Place) : (s.setPlace p x).sup = s.sup := rfl
@[simp] theorem setPlace_link (p : Fin 24) (x : Place) : (s.setPlace p x).link = s.link := rfl

@[simp] theorem setPins_pending (p : Pins) : (s.setPins p).pending = s.pending := rfl
@[simp] theorem setPins_now (p : Pins) : (s.setPins p).now = s.now := rfl
@[simp] theorem setPins_free (p : Pins) : (s.setPins p).free = s.free := rfl
@[simp] theorem setPins_nextId (p : Pins) : (s.setPins p).nextId = s.nextId := rfl
@[simp] theorem setPins_pins (p : Pins) : (s.setPins p).pins = p := rfl
@[simp] theorem setPins_clock (p : Pins) : (s.setPins p).clock = s.clock := rfl
@[simp] theorem setPins_channels (p : Pins) : (s.setPins p).channels = s.channels := rfl
@[simp] theorem setPins_lines (p : Pins) : (s.setPins p).lines = s.lines := rfl
@[simp] theorem setPins_run (p : Pins) : (s.setPins p).run = s.run := rfl
@[simp] theorem setPins_driveline (p : Pins) : (s.setPins p).driveline = s.driveline := rfl
@[simp] theorem setPins_tally (p : Pins) : (s.setPins p).tally = s.tally := rfl
@[simp] theorem setPins_table (p : Pins) : (s.setPins p).table = s.table := rfl
@[simp] theorem setPins_fitment (p : Pins) : (s.setPins p).fitment = s.fitment := rfl
@[simp] theorem setPins_book (p : Pins) : (s.setPins p).book = s.book := rfl
@[simp] theorem setPins_store (p : Pins) : (s.setPins p).store = s.store := rfl
@[simp] theorem setPins_ctl (p : Pins) : (s.setPins p).ctl = s.ctl := rfl
@[simp] theorem setPins_sup (p : Pins) : (s.setPins p).sup = s.sup := rfl
@[simp] theorem setPins_link (p : Pins) : (s.setPins p).link = s.link := rfl

@[simp] theorem setPower_pending (p : PowerState) : (s.setPower p).pending = s.pending := rfl
@[simp] theorem setPower_now (p : PowerState) : (s.setPower p).now = s.now := rfl
@[simp] theorem setPower_free (p : PowerState) : (s.setPower p).free = s.free := rfl
@[simp] theorem setPower_nextId (p : PowerState) : (s.setPower p).nextId = s.nextId := rfl
@[simp] theorem setPower_pins (p : PowerState) : (s.setPower p).pins = s.pins := rfl
@[simp] theorem setPower_clock (p : PowerState) : (s.setPower p).clock = s.clock := rfl
@[simp] theorem setPower_channels (p : PowerState) : (s.setPower p).channels = s.channels := rfl
@[simp] theorem setPower_lines (p : PowerState) : (s.setPower p).lines = s.lines := rfl
@[simp] theorem setPower_run (p : PowerState) : (s.setPower p).run = s.run := rfl
@[simp] theorem setPower_driveline (p : PowerState) : (s.setPower p).driveline = s.driveline := rfl
@[simp] theorem setPower_tally (p : PowerState) : (s.setPower p).tally = s.tally := rfl
@[simp] theorem setPower_table (p : PowerState) : (s.setPower p).table = s.table := rfl
@[simp] theorem setPower_fitment (p : PowerState) : (s.setPower p).fitment = s.fitment := rfl
@[simp] theorem setPower_book (p : PowerState) : (s.setPower p).book = s.book := rfl
@[simp] theorem setPower_store (p : PowerState) : (s.setPower p).store = s.store := rfl
@[simp] theorem setPower_ctl (p : PowerState) : (s.setPower p).ctl = s.ctl := rfl
@[simp] theorem setPower_sup (p : PowerState) : (s.setPower p).sup = { s.sup with power := p } := rfl
@[simp] theorem setPower_link (p : PowerState) : (s.setPower p).link = s.link := rfl

@[simp] theorem markDirty_pending (n : Nat) : (s.markDirty n).pending = s.pending := rfl
@[simp] theorem markDirty_now (n : Nat) : (s.markDirty n).now = s.now := rfl
@[simp] theorem markDirty_free (n : Nat) : (s.markDirty n).free = s.free := rfl
@[simp] theorem markDirty_nextId (n : Nat) : (s.markDirty n).nextId = s.nextId := rfl
@[simp] theorem markDirty_pins (n : Nat) : (s.markDirty n).pins = s.pins := rfl
@[simp] theorem markDirty_clock (n : Nat) : (s.markDirty n).clock = s.clock := rfl
@[simp] theorem markDirty_channels (n : Nat) : (s.markDirty n).channels = s.channels := rfl
@[simp] theorem markDirty_lines (n : Nat) : (s.markDirty n).lines = s.lines := rfl
@[simp] theorem markDirty_run (n : Nat) : (s.markDirty n).run = s.run := rfl
@[simp] theorem markDirty_driveline (n : Nat) : (s.markDirty n).driveline = s.driveline := rfl
@[simp] theorem markDirty_tally (n : Nat) : (s.markDirty n).tally = s.tally := rfl
@[simp] theorem markDirty_table (n : Nat) : (s.markDirty n).table = s.table := rfl
@[simp] theorem markDirty_fitment (n : Nat) : (s.markDirty n).fitment = s.fitment := rfl
@[simp] theorem markDirty_book (n : Nat) : (s.markDirty n).book = s.book := rfl
@[simp] theorem markDirty_store (n : Nat) : (s.markDirty n).store = s.store := rfl
@[simp] theorem markDirty_ctl (n : Nat) : (s.markDirty n).ctl = { s.ctl with dirty := insertLine n s.ctl.dirty } := rfl
@[simp] theorem markDirty_sup (n : Nat) : (s.markDirty n).sup = s.sup := rfl
@[simp] theorem markDirty_link (n : Nat) : (s.markDirty n).link = s.link := rfl

@[simp] theorem reply_pending (r : Reply) : (s.reply r).pending = s.pending := rfl
@[simp] theorem reply_now (r : Reply) : (s.reply r).now = s.now := rfl
@[simp] theorem reply_free (r : Reply) : (s.reply r).free = s.free := rfl
@[simp] theorem reply_nextId (r : Reply) : (s.reply r).nextId = s.nextId := rfl
@[simp] theorem reply_pins (r : Reply) : (s.reply r).pins = s.pins := rfl
@[simp] theorem reply_clock (r : Reply) : (s.reply r).clock = s.clock := rfl
@[simp] theorem reply_channels (r : Reply) : (s.reply r).channels = s.channels := rfl
@[simp] theorem reply_lines (r : Reply) : (s.reply r).lines = s.lines := rfl
@[simp] theorem reply_run (r : Reply) : (s.reply r).run = s.run := rfl
@[simp] theorem reply_driveline (r : Reply) : (s.reply r).driveline = s.driveline := rfl
@[simp] theorem reply_tally (r : Reply) : (s.reply r).tally = s.tally := rfl
@[simp] theorem reply_table (r : Reply) : (s.reply r).table = s.table := rfl
@[simp] theorem reply_fitment (r : Reply) : (s.reply r).fitment = s.fitment := rfl
@[simp] theorem reply_book (r : Reply) : (s.reply r).book = s.book := rfl
@[simp] theorem reply_store (r : Reply) : (s.reply r).store = s.store := rfl
@[simp] theorem reply_ctl (r : Reply) : (s.reply r).ctl = s.ctl := rfl
@[simp] theorem reply_sup (r : Reply) : (s.reply r).sup = s.sup := rfl
@[simp] theorem reply_link (r : Reply) : (s.reply r).link = { s.link with replies := s.link.replies ++ [r] } := rfl

@[simp] theorem join_pending (r : Request) : (s.join r).pending = s.pending := rfl
@[simp] theorem join_now (r : Request) : (s.join r).now = s.now := rfl
@[simp] theorem join_free (r : Request) : (s.join r).free = s.free := rfl
@[simp] theorem join_nextId (r : Request) : (s.join r).nextId = s.nextId := rfl
@[simp] theorem join_pins (r : Request) : (s.join r).pins = s.pins := rfl
@[simp] theorem join_clock (r : Request) : (s.join r).clock = s.clock := rfl
@[simp] theorem join_channels (r : Request) : (s.join r).channels = s.channels := rfl
@[simp] theorem join_lines (r : Request) : (s.join r).lines = s.lines := rfl
@[simp] theorem join_run (r : Request) : (s.join r).run = s.run := rfl
@[simp] theorem join_driveline (r : Request) : (s.join r).driveline = s.driveline := rfl
@[simp] theorem join_tally (r : Request) : (s.join r).tally = s.tally := rfl
@[simp] theorem join_table (r : Request) : (s.join r).table = s.table := rfl
@[simp] theorem join_fitment (r : Request) : (s.join r).fitment = s.fitment := rfl
@[simp] theorem join_book (r : Request) : (s.join r).book = s.book := rfl
@[simp] theorem join_store (r : Request) : (s.join r).store = s.store := rfl
@[simp] theorem join_ctl (r : Request) : (s.join r).ctl = s.ctl := rfl
@[simp] theorem join_sup (r : Request) : (s.join r).sup = s.sup := rfl
@[simp] theorem join_link (r : Request) : (s.join r).link = { s.link with intake := s.link.intake ++ [r] } := rfl

@[simp] theorem dropHead_pending : (s.dropHead).pending = s.pending := rfl
@[simp] theorem dropHead_now : (s.dropHead).now = s.now := rfl
@[simp] theorem dropHead_free : (s.dropHead).free = s.free := rfl
@[simp] theorem dropHead_nextId : (s.dropHead).nextId = s.nextId := rfl
@[simp] theorem dropHead_pins : (s.dropHead).pins = s.pins := rfl
@[simp] theorem dropHead_clock : (s.dropHead).clock = s.clock := rfl
@[simp] theorem dropHead_channels : (s.dropHead).channels = s.channels := rfl
@[simp] theorem dropHead_lines : (s.dropHead).lines = s.lines := rfl
@[simp] theorem dropHead_run : (s.dropHead).run = s.run := rfl
@[simp] theorem dropHead_driveline : (s.dropHead).driveline = s.driveline := rfl
@[simp] theorem dropHead_tally : (s.dropHead).tally = s.tally := rfl
@[simp] theorem dropHead_table : (s.dropHead).table = s.table := rfl
@[simp] theorem dropHead_fitment : (s.dropHead).fitment = s.fitment := rfl
@[simp] theorem dropHead_book : (s.dropHead).book = s.book := rfl
@[simp] theorem dropHead_store : (s.dropHead).store = s.store := rfl
@[simp] theorem dropHead_ctl : (s.dropHead).ctl = s.ctl := rfl
@[simp] theorem dropHead_sup : (s.dropHead).sup = s.sup := rfl
@[simp] theorem dropHead_link : (s.dropHead).link = { s.link with intake := s.link.intake.tail } := rfl

@[simp] theorem dropNotice_pending (k : NoticeKind) : (s.dropNotice k).pending = s.pending := rfl
@[simp] theorem dropNotice_now (k : NoticeKind) : (s.dropNotice k).now = s.now := rfl
@[simp] theorem dropNotice_free (k : NoticeKind) : (s.dropNotice k).free = s.free := rfl
@[simp] theorem dropNotice_nextId (k : NoticeKind) : (s.dropNotice k).nextId = s.nextId := rfl
@[simp] theorem dropNotice_pins (k : NoticeKind) : (s.dropNotice k).pins = s.pins := rfl
@[simp] theorem dropNotice_clock (k : NoticeKind) : (s.dropNotice k).clock = s.clock := rfl
@[simp] theorem dropNotice_channels (k : NoticeKind) : (s.dropNotice k).channels = s.channels := rfl
@[simp] theorem dropNotice_lines (k : NoticeKind) : (s.dropNotice k).lines = s.lines := rfl
@[simp] theorem dropNotice_run (k : NoticeKind) : (s.dropNotice k).run = s.run := rfl
@[simp] theorem dropNotice_driveline (k : NoticeKind) : (s.dropNotice k).driveline = s.driveline := rfl
@[simp] theorem dropNotice_tally (k : NoticeKind) : (s.dropNotice k).tally = s.tally := rfl
@[simp] theorem dropNotice_table (k : NoticeKind) : (s.dropNotice k).table = s.table := rfl
@[simp] theorem dropNotice_fitment (k : NoticeKind) : (s.dropNotice k).fitment = s.fitment := rfl
@[simp] theorem dropNotice_book (k : NoticeKind) : (s.dropNotice k).book = s.book := rfl
@[simp] theorem dropNotice_store (k : NoticeKind) : (s.dropNotice k).store = s.store := rfl
@[simp] theorem dropNotice_ctl (k : NoticeKind) : (s.dropNotice k).ctl = s.ctl := rfl
@[simp] theorem dropNotice_sup (k : NoticeKind) : (s.dropNotice k).sup = s.sup := rfl
@[simp] theorem dropNotice_link (k : NoticeKind) : (s.dropNotice k).link = { s.link with notices := s.link.notices.set k.index none } := rfl

@[simp] theorem landed_pending : (s.landed).pending = s.pending := rfl
@[simp] theorem landed_now : (s.landed).now = s.now := rfl
@[simp] theorem landed_free : (s.landed).free = s.free := rfl
@[simp] theorem landed_nextId : (s.landed).nextId = s.nextId := rfl
@[simp] theorem landed_pins : (s.landed).pins = s.pins := rfl
@[simp] theorem landed_clock : (s.landed).clock = s.clock := rfl
@[simp] theorem landed_channels : (s.landed).channels = s.channels := rfl
@[simp] theorem landed_lines : (s.landed).lines = s.lines := rfl
@[simp] theorem landed_run : (s.landed).run = s.run := rfl
@[simp] theorem landed_driveline : (s.landed).driveline = s.driveline := rfl
@[simp] theorem landed_tally : (s.landed).tally = s.tally := rfl
@[simp] theorem landed_table : (s.landed).table = s.table := rfl
@[simp] theorem landed_fitment : (s.landed).fitment = s.fitment := rfl
@[simp] theorem landed_book : (s.landed).book = s.book := rfl
@[simp] theorem landed_store : (s.landed).store = s.store := rfl
@[simp] theorem landed_ctl : (s.landed).ctl = { s.ctl with flight := none } := rfl
@[simp] theorem landed_sup : (s.landed).sup = s.sup := rfl
@[simp] theorem landed_link : (s.landed).link = s.link := rfl

end Sys2Proof.Machine
end

