-- ==== Sys2Proof/Laws/Same.lean ====
section
/-! SUPPORT. Frames: how `State.sameExcept` composes. -/

namespace Sys2Proof.Machine

theorem State.sameExcept.refl (s : State) (bs : List Block) : s.sameExcept s bs := by simp [State.sameExcept]

theorem State.sameExcept.mono {s t : State} {as bs : List Block} (h : s.sameExcept t as) (sub : ∀ b ∈ as, b ∈ bs) :
    s.sameExcept t bs := by
  obtain ⟨h0, h1, h2, h3, h4, h5, h6, h7, h8, h9, h10, h11, h12, h13, h14, h15, h16, h17⟩ := h
  exact ⟨h0, fun n => h1 fun m => n (sub _ m), fun n => h2 fun m => n (sub _ m), fun n => h3 fun m => n (sub _ m),
    fun n => h4 fun m => n (sub _ m), fun n => h5 fun m => n (sub _ m), fun n => h6 fun m => n (sub _ m),
    fun n => h7 fun m => n (sub _ m), fun n => h8 fun m => n (sub _ m), fun n => h9 fun m => n (sub _ m),
    fun n => h10 fun m => n (sub _ m), fun n => h11 fun m => n (sub _ m), fun n => h12 fun m => n (sub _ m),
    fun n => h13 fun m => n (sub _ m), fun n => h14 fun m => n (sub _ m), fun n => h15 fun m => n (sub _ m),
    fun n => h16 fun m => n (sub _ m), fun n => h17 fun m => n (sub _ m)⟩

theorem State.sameExcept.trans {s t u : State} {bs : List Block} (h : s.sameExcept t bs) (k : t.sameExcept u bs) :
    s.sameExcept u bs := by
  obtain ⟨h0, h1, h2, h3, h4, h5, h6, h7, h8, h9, h10, h11, h12, h13, h14, h15, h16, h17⟩ := h
  obtain ⟨k0, k1, k2, k3, k4, k5, k6, k7, k8, k9, k10, k11, k12, k13, k14, k15, k16, k17⟩ := k
  exact ⟨k0.trans h0, fun n => (k1 n).trans (h1 n), fun n => (k2 n).trans (h2 n), fun n => (k3 n).trans (h3 n),
    fun n => (k4 n).trans (h4 n), fun n => (k5 n).trans (h5 n), fun n => (k6 n).trans (h6 n),
    fun n => (k7 n).trans (h7 n), fun n => (k8 n).trans (h8 n), fun n => (k9 n).trans (h9 n),
    fun n => (k10 n).trans (h10 n), fun n => (k11 n).trans (h11 n), fun n => (k12 n).trans (h12 n),
    fun n => (k13 n).trans (h13 n), fun n => (k14 n).trans (h14 n), fun n => (k15 n).trans (h15 n),
    fun n => (k16 n).trans (h16 n), fun n => (k17 n).trans (h17 n)⟩

/-- One operation after another, each with a frame of its own. -/
theorem State.sameExcept.then {s t u : State} {as bs cs : List Block} (h : s.sameExcept t as) (k : t.sameExcept u bs)
    (ha : ∀ b ∈ as, b ∈ cs) (hb : ∀ b ∈ bs, b ∈ cs) : s.sameExcept u cs := (h.mono ha).trans (k.mono hb)

/-- A fold keeps what each of its steps keeps. -/
theorem State.sameExcept.foldl {α : Type} {bs : List Block} {f : State → α → State}
    (h : ∀ (s : State) (a : α), s.sameExcept (f s a) bs) (xs : List α) (s : State) : s.sameExcept (xs.foldl f s) bs := by
  induction xs generalizing s with
  | nil => exact .refl s bs
  | cons x xs ih => exact (h s x).trans (ih (f s x))

theorem State.sameExcept.ite {s t u : State} {bs : List Block} {c : Prop} [Decidable c] (h : c → s.sameExcept t bs)
    (k : ¬ c → s.sameExcept u bs) : s.sameExcept (if c then t else u) bs := by
  split
  · exact h ‹_›
  · exact k ‹_›

section Fields
variable {s t : State} {bs : List Block} (h : s.sameExcept t bs)
include h
theorem State.sameExcept.pending : t.pending = s.pending := h.1
theorem State.sameExcept.now (n : .time ∉ bs) : t.now = s.now := h.2.1 n
theorem State.sameExcept.free (n : .free ∉ bs) : t.free = s.free := h.2.2.1 n
theorem State.sameExcept.nextId (n : .nextId ∉ bs) : t.nextId = s.nextId := h.2.2.2.1 n
theorem State.sameExcept.pins (n : .pins ∉ bs) : t.pins = s.pins := h.2.2.2.2.1 n
theorem State.sameExcept.clock (n : .clock ∉ bs) : t.clock = s.clock := h.2.2.2.2.2.1 n
theorem State.sameExcept.channels (n : .channels ∉ bs) : t.channels = s.channels := h.2.2.2.2.2.2.1 n
theorem State.sameExcept.lines (n : .lines ∉ bs) : t.lines = s.lines := h.2.2.2.2.2.2.2.1 n
theorem State.sameExcept.run (n : .run ∉ bs) : t.run = s.run := h.2.2.2.2.2.2.2.2.1 n
theorem State.sameExcept.driveline (n : .driveline ∉ bs) : t.driveline = s.driveline := h.2.2.2.2.2.2.2.2.2.1 n
theorem State.sameExcept.tally (n : .tally ∉ bs) : t.tally = s.tally := h.2.2.2.2.2.2.2.2.2.2.1 n
theorem State.sameExcept.table (n : .table ∉ bs) : t.table = s.table := h.2.2.2.2.2.2.2.2.2.2.2.1 n
theorem State.sameExcept.fitment (n : .fitment ∉ bs) : t.fitment = s.fitment := h.2.2.2.2.2.2.2.2.2.2.2.2.1 n
theorem State.sameExcept.book (n : .book ∉ bs) : t.book = s.book := h.2.2.2.2.2.2.2.2.2.2.2.2.2.1 n
theorem State.sameExcept.store (n : .store ∉ bs) : t.store = s.store := h.2.2.2.2.2.2.2.2.2.2.2.2.2.2.1 n
theorem State.sameExcept.ctl (n : .ctl ∉ bs) : t.ctl = s.ctl := h.2.2.2.2.2.2.2.2.2.2.2.2.2.2.2.1 n
theorem State.sameExcept.sup (n : .sup ∉ bs) : t.sup = s.sup := h.2.2.2.2.2.2.2.2.2.2.2.2.2.2.2.2.1 n
theorem State.sameExcept.link (n : .link ∉ bs) : t.link = s.link := h.2.2.2.2.2.2.2.2.2.2.2.2.2.2.2.2.2 n
end Fields

end Sys2Proof.Machine
end

