-- ==== Sys2Proof/Laws/Frames.lean ====
section
/-! SUPPORT. The frame of every shared operation below the commands: which parts of the state it can change. -/

namespace Sys2Proof.Machine

variable (s : State)

/-! ## Setters -/

theorem reach_frame (d) : s.sameExcept (s.reach d) [.time] := by simp [State.sameExcept]
theorem pass_frame (d) : s.sameExcept (s.pass d) [.time] := by simp [State.sameExcept]
theorem setChannelRecord_frame (i c) : s.sameExcept (s.setChannelRecord i c) [.channels] := by simp [State.sameExcept]
theorem setLineRecord_frame (l x) : s.sameExcept (s.setLineRecord l x) [.lines] := by simp [State.sameExcept]
theorem setSlot_frame (i x) : s.sameExcept (s.setSlot i x) [.table] := by simp [State.sameExcept]
theorem setEntry_frame (p x) : s.sameExcept (s.setEntry p x) [.table] := by simp [State.sameExcept]
theorem setOrphan_frame (p t) : s.sameExcept (s.setOrphan p t) [.tally] := by simp [State.sameExcept]
theorem setPlace_frame (p x) : s.sameExcept (s.setPlace p x) [.book] := by simp [State.sameExcept]
theorem setPins_frame (p) : s.sameExcept (s.setPins p) [.pins] := by simp [State.sameExcept]
theorem setPower_frame (p) : s.sameExcept (s.setPower p) [.sup] := by simp [State.sameExcept]
theorem markDirty_frame (n) : s.sameExcept (s.markDirty n) [.ctl] := by simp [State.sameExcept]
theorem reply_frame (r) : s.sameExcept (s.reply r) [.link] := by simp [State.sameExcept]
theorem join_frame (r) : s.sameExcept (s.join r) [.link] := by simp [State.sameExcept]
theorem dropHead_frame : s.sameExcept s.dropHead [.link] := by simp [State.sameExcept]
theorem dropNotice_frame (k) : s.sameExcept (s.dropNotice k) [.link] := by simp [State.sameExcept]
theorem landed_frame : s.sameExcept s.landed [.ctl] := by simp [State.sameExcept]

theorem setCtl_frame (x) : s.sameExcept { s with ctl := x } [.ctl] := by simp [State.sameExcept]
theorem setSup_frame (x) : s.sameExcept { s with sup := x } [.sup] := by simp [State.sameExcept]

/-! ## Notices, dirty marks, Write Queue, records -/

theorem raise_frame (k d) : s.sameExcept (s.raise k d) [.link] := by
  unfold State.raise; split <;> simp [State.sameExcept]
theorem markAll_frame (ns) : s.sameExcept (s.markAll ns) [.ctl] := .foldl markDirty_frame ns s
theorem markIf_frame (b n) : s.sameExcept (s.markIf b n) [.ctl] := by
  unfold State.markIf; split <;> simp [State.sameExcept]
theorem enqueueAll_frame (c ns) : s.sameExcept (s.enqueueAll c ns) [.ctl] := by simp [State.sameExcept, State.enqueueAll]
theorem startWrite_frame (n q r p) : s.sameExcept (s.startWrite n q r p) [.ctl] := by simp [State.sameExcept, State.startWrite]
theorem enterDormant_frame : s.sameExcept s.enterDormant [.sup, .tally, .ctl] := by simp [State.sameExcept, State.enterDormant]
theorem writeMark_frame : s.sameExcept s.writeMark [.sup, .ctl] := by simp [State.sameExcept, State.writeMark, State.startWrite]
theorem arbitrate_frame : s.sameExcept s.arbitrate [.sup, .tally, .ctl] := by
  unfold State.arbitrate
  (repeat' split) <;> first
    | exact .refl _ _
    | exact (startWrite_frame ..).mono (by simp)
    | exact enterDormant_frame _
    | exact (writeMark_frame _).mono (by simp)
theorem queueLines_frame (c ns) : s.sameExcept (s.queueLines c ns) [.sup, .tally, .ctl] :=
  ((enqueueAll_frame s c ns).mono (by simp)).trans (arbitrate_frame _)
theorem checkpoint_frame : s.sameExcept s.checkpoint [.sup, .tally, .ctl] := queueLines_frame ..
theorem finish_frame (res r) : s.sameExcept (State.finish res s r) [.link] := by
  unfold State.finish; split <;> simp [State.sameExcept]
theorem endRecords_frame (res e) : s.sameExcept (s.endRecords res e) [.ctl, .link] := by
  refine .trans ?_ (.mono (.foldl (fun s r => finish_frame s res r) _ _) (by simp))
  simp [State.sameExcept]
theorem createRecord_frame (t k ns) : s.sameExcept (s.createRecord t k ns) [.nextId, .ctl] := by
  simp [State.sameExcept, State.createRecord]
theorem defer_frame (t k ns) : s.sameExcept (s.defer t k ns) [.nextId, .sup, .tally, .ctl] :=
  ((createRecord_frame s t k ns).mono (by simp)).trans ((queueLines_frame ..).mono (by simp))

/-! ## Tally Engine -/

theorem setTally_frame (p h t) : s.sameExcept (s.setTally p h t) [.tally, .table, .fitment, .ctl] := by
  cases h
  · exact ((setSlot_frame ..).mono (by simp)).trans (((markIf_frame ..).mono (by simp)).trans ((markIf_frame ..).mono (by simp)))
  · simp [State.sameExcept, State.setTally]
  · exact ((setOrphan_frame ..).mono (by simp)).trans ((markIf_frame ..).mono (by simp))
theorem raiseSaturated_frame (h p b a q e) : s.sameExcept (s.raiseSaturated h p b a q e) [.link] := by
  unfold State.raiseSaturated; split
  · exact raise_frame ..
  · exact .refl _ _
theorem testService_frame (i) : s.sameExcept (s.testService i) [.table, .ctl, .link] := by
  simp only [State.testService]
  (repeat' split) <;> first
    | exact .refl _ _
    | exact .trans (.trans ((setSlot_frame ..).mono (by simp)) ((markDirty_frame ..).mono (by simp)))
        ((raise_frame ..).mono (by simp))
theorem testLife_frame (i) : s.sameExcept (s.testLife i) [.table, .ctl, .link] := by
  simp only [State.testLife]
  (repeat' split) <;> first
    | exact .refl _ _
    | exact .trans (.trans ((setSlot_frame ..).mono (by simp)) ((markDirty_frame ..).mono (by simp)))
        ((raise_frame ..).mono (by simp))
theorem testThresholds_frame (h q) : s.sameExcept (s.testThresholds h q) [.table, .ctl, .link] := by
  cases h
  · exact .trans (.ite (fun _ => testService_frame ..) (fun _ => .refl _ _)) (.ite (fun _ => testLife_frame ..) (fun _ => .refl _ _))
  · exact .refl _ _
  · exact .refl _ _
theorem addPeriod_frame (p q n) : s.sameExcept (s.addPeriod p q n) [.book, .ctl] :=
  ((setPlace_frame ..).mono (by simp)).trans ((markIf_frame ..).mono (by simp))

/-- What a usage can change. -/
abbrev usageBlocks : List Block := [.tally, .table, .fitment, .book, .ctl, .link]

theorem deliver_frame (x) : s.sameExcept (s.deliver x) usageBlocks := by
  have h4 : s.sameExcept (((if x.quantity.isHist then s.setTally x.position (s.holder x.position)
      ((s.tallyOf x.position (s.holder x.position)).add x.quantity x.entry x.amount)
      else (s.setTally x.position (s.holder x.position)
        ((s.tallyOf x.position (s.holder x.position)).add x.quantity x.entry x.amount)).addPeriod x.position x.quantity
        x.amount))) usageBlocks :=
    .ite (fun _ => (setTally_frame ..).mono (by simp))
      (fun _ => ((setTally_frame ..).mono (by simp)).trans ((addPeriod_frame ..).mono (by simp)))
  unfold State.deliver
  refine .ite (fun _ => ?_) (fun _ => ?_)
  · exact h4.trans (((raiseSaturated_frame ..).mono (by simp)).trans ((raiseSaturated_frame ..).mono (by simp)))
  · exact h4.trans (((raiseSaturated_frame ..).mono (by simp)).trans (((raiseSaturated_frame ..).mono (by simp)).trans
      ((testThresholds_frame ..).mono (by simp))))
theorem route_frame (x) : s.sameExcept (s.route x) usageBlocks :=
  .ite (fun _ => .refl _ _) (fun _ => deliver_frame ..)
theorem routeAll_frame (xs) : s.sameExcept (s.routeAll xs) usageBlocks := .foldl route_frame xs s
theorem take_frame (u) : s.sameExcept (s.take u) usageBlocks := routeAll_frame ..

/-! ## Driveline Observer -/

theorem noteUse_frame (b) : s.sameExcept (s.noteUse b) [.ctl] := by
  unfold State.noteUse; split <;> simp [State.sameExcept]
theorem setTow_frame (t) : s.sameExcept (s.setTow t) [.driveline, .ctl] := by
  refine .trans ?_ ((noteUse_frame ..).mono (by simp))
  simp [State.sameExcept]
theorem towEpisode_frame : s.sameExcept s.towEpisode [.book, .ctl] := by
  simp only [State.towEpisode]; split
  · exact .refl _ _
  · exact ((setPlace_frame ..).mono (by simp)).trans ((markDirty_frame ..).mono (by simp))

/-- What the Driveline Observer can change at a report. -/
abbrev towBlocks : List Block := [.driveline, .book, .ctl, .link]

theorem testTow_frame (f) : s.sameExcept (s.testTow f) towBlocks := by
  unfold State.testTow
  (repeat' split) <;> first
    | exact .refl _ _
    | exact ((setTow_frame ..).mono (by simp)).trans (((raise_frame ..).mono (by simp)).trans ((towEpisode_frame ..).mono (by simp)))
theorem countTow_frame (k) : s.sameExcept (s.countTow k) [.driveline, .ctl] := by
  have h : s.sameExcept (if s.driveline.tow = .notTowing then
      ({ s with driveline := { s.driveline with towCounts := Vector.replicate 6 0 } }.setTow .towSuspect) else s)
      [.driveline, .ctl] :=
    .ite (fun _ => .trans (t := { s with driveline := { s.driveline with towCounts := Vector.replicate 6 0 } })
      (by simp [State.sameExcept]) (setTow_frame ..)) (fun _ => .refl _ _)
  unfold State.countTow
  refine h.trans ?_
  simp [State.sameExcept]
theorem startQuiet_frame : s.sameExcept s.startQuiet [.driveline] := by simp [State.sameExcept, State.startQuiet]
theorem towReport_frame (f) : s.sameExcept (s.towReport f) towBlocks := by
  unfold State.towReport
  split
  · exact .refl _ _
  · exact ((countTow_frame ..).mono (by simp)).trans (.trans (.ite (fun _ => (startQuiet_frame _).mono (by simp))
      (fun _ => .refl _ _)) (testTow_frame ..))
theorem noteQuiet_frame : s.sameExcept s.noteQuiet [.driveline] := by
  unfold State.noteQuiet
  (repeat' split) <;> first
    | exact .refl _ _
    | exact startQuiet_frame _
    | simp [State.sameExcept]

/-- What a usage and the Driveline Observer can change together. -/
abbrev reportBlocks : List Block := [.driveline, .tally, .table, .fitment, .book, .ctl, .link]

theorem revolution_frame (f) : s.sameExcept (s.revolution f) reportBlocks := by
  unfold State.revolution
  refine .ite (fun _ => (take_frame ..).mono (by simp)) (fun _ => ?_)
  exact ((take_frame ..).mono (by simp)).trans ((towReport_frame ..).mono (by simp))
theorem evalGear_frame : s.sameExcept s.evalGear [.driveline] := by
  unfold State.evalGear; (repeat' split) <;> simp [State.sameExcept]
theorem clutchEngaged_frame : s.sameExcept s.clutchEngaged [.driveline] := by simp [State.sameExcept, State.clutchEngaged]
theorem launchPending_frame : s.sameExcept s.launchPending [.driveline] := by simp [State.sameExcept, State.launchPending]
theorem clutchTransition_frame (a) : s.sameExcept (s.clutchTransition a) [.driveline] := by
  unfold State.clutchTransition
  (repeat' split) <;> simp [State.sameExcept, State.launchPending, State.clutchEngaged]
theorem launchOff_frame : s.sameExcept s.launchOff [.driveline] := by
  unfold State.launchOff; split <;> simp [State.sameExcept, State.clutchEngaged]
theorem clutchOnRun_frame (o n) : s.sameExcept (s.clutchOnRun o n) [.driveline] := by
  unfold State.clutchOnRun
  (repeat' split) <;> first
    | exact launchOff_frame _
    | exact launchPending_frame _
    | exact .refl _ _
theorem launchTest_frame : s.sameExcept s.launchTest reportBlocks := by
  unfold State.launchTest
  exact .ite (fun _ => ((clutchEngaged_frame _).mono (by simp)).trans ((take_frame ..).mono (by simp))) (fun _ => .refl _ _)
theorem ptoUpdate_frame : s.sameExcept s.ptoUpdate [.driveline] := by simp [State.sameExcept, State.ptoUpdate]
theorem ptoTransition_frame (a) : s.sameExcept (s.ptoTransition a) reportBlocks :=
  .ite (fun _ => ((ptoUpdate_frame _).mono (by simp)).trans ((take_frame ..).mono (by simp)))
    (fun _ => (ptoUpdate_frame _).mono (by simp))
theorem towOnRun_frame (n) : s.sameExcept (s.towOnRun n) [.driveline, .ctl] :=
  .ite (fun _ => .trans (t := { s with driveline := { s.driveline with quietTimer := none } }) (by simp [State.sameExcept])
    (setTow_frame ..)) (fun _ => .refl _ _)
theorem drivelineAnnounce_frame (f st) : s.sameExcept (s.drivelineAnnounce f st) reportBlocks := by
  unfold State.drivelineAnnounce
  have h1 : s.sameExcept (if f = .gearIn ∨ f = .gearOut then s.evalGear else s) reportBlocks :=
    .ite (fun _ => (evalGear_frame _).mono (by simp)) (fun _ => .refl _ _)
  refine (h1.trans (u := if f = .gearOut then _ else _) (.ite (fun _ => ?_) (fun _ => .refl _ _))).trans
    (.ite (fun _ => (noteQuiet_frame _).mono (by simp)) (fun _ => .refl _ _))
  (repeat' split) <;> first
    | exact launchTest_frame _
    | exact .refl _ _
    | exact (launchOff_frame _).mono (by simp)
theorem drivelineUpdate_frame (f) : s.sameExcept (s.drivelineUpdate f) reportBlocks :=
  .trans (.ite (fun _ => (evalGear_frame _).mono (by simp)) (fun _ => .refl _ _))
    (.ite (fun _ => launchTest_frame _) (fun _ => .refl _ _))

/-! ## Run Detector -/

theorem evalConfirm_frame : s.sameExcept s.evalConfirm [.run] := by simp [State.sameExcept, State.evalConfirm]

/-- What a transition of the Run Detector can change. -/
abbrev runBlocks : List Block := [.run, .driveline, .sup, .tally, .table, .fitment, .book, .ctl, .link]

theorem enterRun_frame (n) : s.sameExcept (s.enterRun n) [.run, .driveline, .ctl] :=
  .trans (.trans (.trans (.trans (.trans (t := { s with run := { s.run with state := n, stopTimer := none } })
    (by simp [State.sameExcept]) ((evalConfirm_frame _).mono (by simp))) ((clutchOnRun_frame ..).mono (by simp)))
    ((ptoUpdate_frame _).mono (by simp))) ((towOnRun_frame ..).mono (by simp))) ((noteUse_frame ..).mono (by simp))
theorem keyOffCheckpoint_frame : s.sameExcept s.keyOffCheckpoint [.sup, .tally, .ctl] :=
  .ite (fun _ => .refl _ _) (fun _ => checkpoint_frame _)
theorem enterBlind_frame (c) : s.sameExcept (s.enterBlind c) runBlocks :=
  .ite (fun _ => .refl _ _) (fun _ => ((enterRun_frame ..).mono (by simp)).trans ((raise_frame ..).mono (by simp)))
theorem engineAnnounce_frame (st c) : s.sameExcept (s.engineAnnounce st c) runBlocks := by
  unfold State.engineAnnounce
  (repeat' split) <;> first
    | exact enterBlind_frame ..
    | exact ((enterRun_frame ..).mono (by simp)).trans ((keyOffCheckpoint_frame _).mono (by simp))
    | exact (enterRun_frame ..).mono (by simp)
    | exact (evalConfirm_frame _).mono (by simp)
theorem deliverCrank_frame : s.sameExcept s.deliverCrank runBlocks := by
  simp only [State.deliverCrank]
  split
  · exact .refl _ _
  · refine .trans ?_ ((take_frame ..).mono (by simp))
    simp [State.sameExcept]
theorem beginCrank_frame : s.sameExcept s.beginCrank runBlocks :=
  .trans (.trans (t := { s with run := { s.run with measure := some s.now, attempt := 0 } }) (by simp [State.sameExcept])
    ((enterRun_frame ..).mono (by simp))) ((take_frame ..).mono (by simp))
theorem crankTransition_frame (a) : s.sameExcept (s.crankTransition a) runBlocks := by
  unfold State.crankTransition
  (repeat' split)
  · exact beginCrank_frame _
  · exact .trans (t := { s with run := { s.run with measure := some (s.run.measure.getD s.now) } }) (by simp [State.sameExcept])
      ((evalConfirm_frame _).mono (by simp))
  · exact (evalConfirm_frame _).mono (by simp)
  · exact ((evalConfirm_frame _).mono (by simp)).trans (deliverCrank_frame _)
theorem runConfirmed_frame : s.sameExcept s.runConfirmed runBlocks := by
  unfold State.runConfirmed
  split
  · exact ((enterRun_frame ..).mono (by simp)).trans (((take_frame ..).mono (by simp)).trans ((raise_frame ..).mono (by simp)))
  · exact ((enterRun_frame ..).mono (by simp)).trans ((take_frame ..).mono (by simp))
  · exact .refl _ _
  · exact .refl _ _
theorem stopConfirmed_frame : s.sameExcept s.stopConfirmed runBlocks := by
  unfold State.stopConfirmed
  split
  · exact ((enterRun_frame ..).mono (by simp)).trans (((take_frame ..).mono (by simp)).trans ((raise_frame ..).mono (by simp)))
  · exact ((enterRun_frame ..).mono (by simp)).trans ((keyOffCheckpoint_frame _).mono (by simp))
  · exact .refl _ _
  · exact .refl _ _
theorem announce_frame (f st c) : s.sameExcept (s.announce f st c) runBlocks :=
  .ite (fun _ => engineAnnounce_frame ..) (fun _ => (drivelineAnnounce_frame ..).mono (by simp))
theorem speedUpdate_frame (f) : s.sameExcept (s.speedUpdate f) runBlocks :=
  .ite (fun _ => (evalConfirm_frame _).mono (by simp)) (fun _ => (drivelineUpdate_frame ..).mono (by simp))

/-! ## Supervisor -/

theorem supervise_frame : s.sameExcept s.supervise [.sup] := by simp [State.sameExcept, State.supervise]
theorem startActivity_frame : s.sameExcept s.startActivity [.tally, .ctl] := by simp [State.sameExcept, State.startActivity]
theorem wake_frame : s.sameExcept s.wake [.sup, .tally, .ctl] := by
  unfold State.wake
  split
  · exact .mono (.trans (setPower_frame ..) (supervise_frame _)) (by simp)
  · exact ((startActivity_frame _).mono (by simp)).trans (.mono (.trans (setPower_frame ..) (supervise_frame _)) (by simp))
  · exact .refl _ _
  · exact .refl _ _
  · exact .refl _ _
theorem replyIfFree_frame (r) : s.sameExcept (s.replyIfFree r) [.link] := by
  unfold State.replyIfFree; split <;> simp [State.sameExcept]
theorem refuseIntake_frame : s.sameExcept s.refuseIntake [.link] :=
  .trans (t := { s with link := { s.link with intake := [] } }) (by simp [State.sameExcept])
    (.foldl (fun s r => replyIfFree_frame s _) _ _)
theorem enterHoldup_frame : s.sameExcept s.enterHoldup [.sup, .tally, .ctl, .link] := by
  have h : s.sameExcept (if s.sup.power = .dormant then s.startActivity else s) [.sup, .tally, .ctl, .link] :=
    .ite (fun _ => (startActivity_frame _).mono (by simp)) (fun _ => .refl _ _)
  exact .trans (.trans (.trans (.trans (.trans h ((setPower_frame _ .holdup).mono (by simp)))
    ((refuseIntake_frame _).mono (by simp))) ((setCtl_frame _ _).mono (by simp))) ((arbitrate_frame _).mono (by simp)))
    ((supervise_frame _).mono (by simp))
theorem leaveHoldup_frame : s.sameExcept s.leaveHoldup [.sup, .tally, .ctl] := by
  refine .trans (.trans ((markIf_frame s s.sup.mark 5).mono (by simp)) ?_) (.trans (queueLines_frame _ .commit [5])
    ((supervise_frame _).mono (by simp)))
  simp [State.sameExcept]

end Sys2Proof.Machine
end

