-- ==== Sys2Proof/Laws/Answers.lean ====
section
/-! SUPPORT. The frame of every request's execution, and of its being served. -/

namespace Sys2Proof.Machine

/-- The state an answer leaves. -/
def Answer.state : Answer → State
  | .refused _ s => s
  | .done _ s => s
  | .deferred _ _ s => s

@[simp] theorem Answer.state_refused (r s) : (Answer.refused r s).state = s := rfl
@[simp] theorem Answer.state_done (b s) : (Answer.done b s).state = s := rfl
@[simp] theorem Answer.state_deferred (b ns s) : (Answer.deferred b ns s).state = s := rfl

/-- A request's execution changes the named parts only. -/
def Meaning.keeps (m : Meaning) (bs : List Block) : Prop := ∀ (p : List Byte) (s : State), s.sameExcept (m p s).state bs

theorem sized_keeps {m : Meaning} {bs} (h : m.keeps bs) (n) : (sized n m).keeps bs := by
  intro p s; unfold sized; split
  · exact h p s
  · exact .refl _ _

theorem configured_frame (s : State) (n) : s.sameExcept (s.configured n).state [.ctl] := markDirty_frame ..

section
variable (s : State)

/-! ## Sensing side -/

theorem announceGivenUp_frame (o n i) : s.sameExcept (s.announceGivenUp o n i) runBlocks :=
  .ite (fun _ => .refl _ _) (fun _ => announce_frame ..)
theorem announceHeld_frame (f i) : s.sameExcept (s.announceHeld f i) runBlocks :=
  .ite (fun _ => .refl _ _) (fun _ => announce_frame ..)
theorem setChannel_frame (i c) : s.sameExcept (s.setChannel i c) (.channels :: runBlocks) :=
  .trans ((setChannelRecord_frame s i (s.channels[i].restart c)).mono (by simp))
    (.trans ((announceGivenUp_frame ..).mono (by simp)) ((announceHeld_frame ..).mono (by simp)))

theorem setChannel_keeps : setChannelMeaning.keeps (.channels :: runBlocks) := by
  refine sized_keeps (fun p s => ?_) 11
  unfold State.setChannelChecked
  (repeat' split) <;> first
    | exact .refl _ _
    | exact (setChannel_frame ..).trans ((configured_frame ..).mono (by simp))

theorem setLines_keeps : setLinesMeaning.keeps [.lines, .ctl] := by
  refine sized_keeps (fun p s => ?_) 10
  split
  · refine .trans (t := s.setLines _) ?_ ((configured_frame ..).mono (by simp))
    simp [State.sameExcept, State.setLines]
  · exact .refl _ _

theorem setTime_keeps : setTimeMeaning.keeps [.clock, .link] :=
  sized_keeps (fun p s => by simp [State.sameExcept, State.setTime]) 4

theorem setEngine_keeps : setEngineMeaning.keeps [.run, .ctl] := by
  refine sized_keeps (fun p s => ?_) 6
  split
  · refine .trans (t := s.setEngine _) ?_ ((configured_frame ..).mono (by simp))
    simp [State.sameExcept, State.setEngine, State.evalConfirm]
  · exact .refl _ _

theorem resizeSlot_frame (n) : s.sameExcept (s.resizeSlot n) [.table, .ctl] := by
  unfold State.resizeSlot
  split
  · exact .trans ((setSlot_frame ..).mono (by simp)) ((markDirty_frame ..).mono (by simp))
  · exact .refl _ _
theorem resizeGears_frame (n) : s.sameExcept (s.resizeGears n) [.tally, .table, .fitment, .ctl] := by
  have h := ((resizeSlot_frame s n).mono (bs := [.tally, .table, .fitment, .ctl]) (by simp)).trans
    ((setOrphan_frame _ .gearbox ((s.resizeSlot n).tally.orphans[Position.gearbox.index].resize n)).mono (by simp))
  unfold State.resizeGears
  refine .trans (h.trans ((markDirty_frame _ (orphanLine .gearbox)).mono (by simp))) ?_
  simp [State.sameExcept]

theorem setGearTable_keeps : setGearTableMeaning.keeps [.driveline, .tally, .table, .fitment, .ctl] := by
  intro p s
  have h (t) : s.sameExcept ((s.newTable t).markDirty 2) [.driveline, .tally, .table, .fitment, .ctl] := by
    simp [State.sameExcept, State.newTable]
  simp only [setGearTableMeaning, gearTableChecked, State.setGearTable]
  (repeat' split) <;> first
    | exact .refl _ _
    | exact h _
    | exact (h _).trans ((resizeGears_frame ..).mono (by simp))

theorem setDriveline_keeps : setDrivelineMeaning.keeps [.driveline, .ctl] := by
  refine sized_keeps (fun p s => ?_) 11
  split
  · refine .trans (t := s.setDriveline _) ?_ ((configured_frame ..).mono (by simp))
    simp [State.sameExcept, State.setDriveline]
  · exact .refl _ _

theorem loadSample_keeps : loadSampleMeaning.keeps [.driveline] := by
  refine sized_keeps (fun p s => ?_) 1
  split <;> simp [State.sameExcept, State.takeLoad]

theorem readLive_keeps : readLiveMeaning.keeps [.free] := sized_keeps (fun p s => by simp [State.sameExcept]) 0

/-! ## Tally Engine -/

theorem atPosition_keeps {m : Position → State → Answer} {bs} (h : ∀ p (s : State), s.sameExcept (m p s).state bs) :
    (atPosition m).keeps bs := by
  refine sized_keeps (fun p s => ?_) 1
  split
  · exact h ..
  · exact .refl _ _

theorem setWeights_keeps : setWeightsMeaning.keeps [.tally, .ctl] := by
  refine sized_keeps (fun p s => ?_) 56
  split
  · refine .trans (t := s.setWeights _) ?_ ((configured_frame ..).mono (by simp))
    simp [State.sameExcept, State.setWeights]
  · exact .refl _ _
theorem readOrphans_keeps : readOrphansMeaning.keeps [] := atPosition_keeps fun _ _ => .refl _ _
theorem clearOrphan_frame (p) : s.sameExcept (s.clearOrphan p) [.tally, .ctl] :=
  .trans ((setOrphan_frame ..).mono (by simp)) ((markDirty_frame ..).mono (by simp))
theorem clearOrphans_keeps : clearOrphansMeaning.keeps [.tally, .ctl] := atPosition_keeps fun p s => clearOrphan_frame s p
theorem rearm_keeps : rearmMeaning.keeps [.table, .ctl, .link] := by
  refine sized_keeps (fun p s => ?_) 8
  simp only [State.rearmChecked]
  (repeat' split) <;> first
    | exact .refl _ _
    | exact .trans (.trans ((setSlot_frame ..).mono (by simp)) ((markDirty_frame ..).mono (by simp)))
        ((testService_frame ..).mono (by simp))

/-! ## Component Table -/

theorem readSlot_keeps : readSlotMeaning.keeps [] := by
  refine sized_keeps (fun p s => ?_) 2
  unfold State.readSlot
  (repeat' split) <;> exact .refl _ _
theorem readPosition_keeps : readPositionMeaning.keeps [] := atPosition_keeps fun _ _ => .refl _ _
theorem emptySlot_frame (i) : s.sameExcept (s.emptySlot i) [.table, .ctl] :=
  .trans ((setSlot_frame ..).mono (by simp)) ((markAll_frame ..).mono (by simp))
theorem discard_keeps : discardMeaning.keeps [.table, .ctl] := by
  refine sized_keeps (fun p s => ?_) 1
  unfold State.discardChecked
  (repeat' split) <;> first
    | exact .refl _ _
    | exact emptySlot_frame ..

/-! ## Period Book -/

theorem formRecord_frame (h) : s.sameExcept (s.formRecord h) [.book, .ctl] :=
  .trans ((setPlace_frame ..).mono (by simp)) ((markAll_frame ..).mono (by simp))
theorem openRecord_frame (h) : s.sameExcept (s.openRecord h) [.book, .ctl] := by
  refine .trans (formRecord_frame s h) ?_
  simp [State.sameExcept, State.openRecord]
theorem closeOpen_frame (r) : s.sameExcept (s.closeOpen r) [.book, .ctl] := by
  simp only [State.closeOpen]
  split
  · exact .trans ((setPlace_frame ..).mono (by simp)) ((markDirty_frame ..).mono (by simp))
  · exact .refl _ _
theorem noteNearFull_frame : s.sameExcept s.noteNearFull [.link] := .ite (fun _ => raise_frame ..) (fun _ => .refl _ _)
theorem turnPage_frame (c k t g r) : s.sameExcept (s.turnPage c k t g r) [.book, .ctl] :=
  .trans (closeOpen_frame ..) (openRecord_frame ..)

theorem withContract_keeps {m : Text → State → Answer} {bs} (h : ∀ t (s : State), s.sameExcept (m t s).state bs) :
    (withContract m).keeps bs := by
  refine sized_keeps (fun p s => ?_) 17
  split
  · exact h ..
  · exact .refl _ _
theorem openRental_keeps : openRentalMeaning.keeps [.book, .ctl, .link] := by
  refine withContract_keeps (m := fun t s => s.openRental t) fun t s => ?_
  have h1 : s.sameExcept (s.openInPlace t).state [.book, .ctl, .link] :=
    (formRecord_frame s (openedHeader s.book.newest .rental (some t) 0 .rentalStart s.timeField)).mono (by simp)
  have h2 : s.sameExcept (s.openAfter t).state [.book, .ctl, .link] :=
    .trans ((turnPage_frame ..).mono (by simp)) ((noteNearFull_frame _).mono (by simp))
  unfold State.openRental
  split
  · exact .refl _ _
  split
  · exact .refl _ _
  split
  · exact h1
  split
  · exact h2
  · exact .refl _ _
theorem closeRental_keeps : closeRentalMeaning.keeps [.book, .ctl, .link] := by
  refine withContract_keeps (m := fun t s => s.closeRental t) fun t s => ?_
  have h : s.sameExcept s.closeAfter.state [.book, .ctl, .link] :=
    .trans ((turnPage_frame ..).mono (by simp)) ((noteNearFull_frame _).mono (by simp))
  unfold State.closeRental
  (repeat' split) <;> first
    | assumption
    | exact .refl _ _
theorem listPeriods_keeps : listPeriodsMeaning.keeps [] := sized_keeps (fun _ _ => .refl _ _) 0
theorem readPeriod_keeps : readPeriodMeaning.keeps [] := by
  refine sized_keeps (fun p s => ?_) 5
  unfold State.readPeriod
  (repeat' split) <;> exact .refl _ _
theorem freePlace_frame (p) : s.sameExcept (s.freePlace p) [.book, .ctl] :=
  .trans ((setPlace_frame ..).mono (by simp)) ((markDirty_frame ..).mono (by simp))
theorem removeRecords_frame (qs) : s.sameExcept (s.removeRecords qs) [.book, .ctl] := by
  refine .trans (.foldl (fun s q => freePlace_frame s (placeOf q)) qs s) ?_
  simp [State.sameExcept, State.removeRecords]
theorem release_keeps : releaseMeaning.keeps [.book, .ctl] := 
  sized_keeps (m := fun p s => s.release (field p 0 4)) (fun _ s => removeRecords_frame s _) 4

/-! ## Fitment Manager -/

theorem touchDeadline_frame : s.sameExcept s.touchDeadline [.fitment] := by simp [State.sameExcept, State.touchDeadline]
theorem fitmentRequest_keeps {m : Meaning} {bs} (h : m.keeps bs) (hf : .fitment ∈ bs) : (fitmentRequest m).keeps bs := by
  intro p s
  have k : ∀ a : Answer, a.touched.state = a.state.touchDeadline := fun a => by cases a <;> rfl
  rw [fitmentRequest, k]
  exact (h p s).trans ((touchDeadline_frame _).mono (by simpa using hf))
theorem withContext_keeps {m : Context → Answer} {bs} (h : ∀ c, s.sameExcept (m c).state bs) :
    s.sameExcept (s.withContext m).state bs := by
  unfold State.withContext; split
  · exact h _
  · exact .refl _ _
theorem begin_keeps : beginMeaning.keeps [.fitment] := by
  refine fitmentRequest_keeps (sized_keeps (fun p s => ?_) 4) (by simp)
  unfold State.beginChecked
  (repeat' split) <;> first
    | exact .refl _ _
    | simp [State.sameExcept, State.begin]
theorem stage_keeps : stageMeaning.keeps [.fitment] := by
  refine fitmentRequest_keeps (fun p s => ?_) (by simp)
  split
  · refine withContext_keeps s fun c => ?_
    unfold State.stageChecked
    (repeat' split) <;> first
      | exact .refl _ _
      | simp [State.sameExcept, State.stage]
  · exact .refl _ _
theorem export_keeps : exportMeaning.keeps [.fitment] := by
  refine fitmentRequest_keeps (sized_keeps (fun p s => ?_) 2) (by simp)
  split
  · refine withContext_keeps s fun c => ?_
    unfold State.exportRecord
    (repeat' split) <;> first
      | exact .refl _ _
      | simp [State.sameExcept]
  · refine withContext_keeps s fun c => ?_
    unfold State.exportInterim
    split <;> exact .refl _ _
  · exact .refl _ _
theorem readFitment_keeps : readFitmentMeaning.keeps [.fitment] :=
  fitmentRequest_keeps (sized_keeps (fun _ _ => .refl _ _) 0) (by simp)
theorem noteMerge_frame (p h a b c q) : s.sameExcept (State.noteMerge p h a b c s q) [.link] := raiseSaturated_frame ..
theorem mergeInto_frame (p h t) : s.sameExcept (s.mergeInto p h t) usageBlocks := by
  unfold State.mergeInto
  exact .trans ((setTally_frame ..).mono (by simp)) (.foldl (fun s q => (noteMerge_frame s ..).mono (by simp)) _ _)
theorem mergeOrphan_frame (c) : s.sameExcept (s.mergeOrphan c) usageBlocks :=
  .trans (mergeInto_frame ..) ((markDirty_frame ..).mono (by simp))
theorem removeOutgoing_frame (c) : s.sameExcept (s.removeOutgoing c) [.table, .ctl] := by
  unfold State.removeOutgoing; split
  · exact .trans (.trans (emptySlot_frame ..) ((setEntry_frame ..).mono (by simp))) ((markDirty_frame ..).mono (by simp))
  · exact .refl _ _
theorem fitStaged_frame (c i) : s.sameExcept (s.fitStaged c i) [.table, .ctl] := by
  unfold State.fitStaged; split
  · exact .trans (.trans (.trans ((setSlot_frame ..).mono (by simp)) ((markAll_frame ..).mono (by simp)))
      ((setEntry_frame ..).mono (by simp))) ((markDirty_frame ..).mono (by simp))
  · exact .refl _ _
theorem testIncoming_frame (i) : s.sameExcept (s.testIncoming i) [.table, .ctl, .link] := by
  unfold State.testIncoming; split
  · exact .trans (testService_frame ..) (testLife_frame ..)
  · exact .refl _ _
theorem setFitment_frame (x) : s.sameExcept { s with fitment := x } [.fitment] := by simp [State.sameExcept]
theorem commit_frame (c i) : s.sameExcept (s.commit c i) usageBlocks :=
  .trans (.trans (.trans (.trans (.trans (.trans ((removeOutgoing_frame s c).mono (by simp)) (mergeOrphan_frame _ c))
    ((fitStaged_frame _ c i).mono (by simp))) ((turnPage_frame ..).mono (by simp))) ((setFitment_frame _ none).mono (by simp)))
    ((noteNearFull_frame _).mono (by simp))) ((testIncoming_frame _ i).mono (by simp))
theorem dirtyFlight_frame (ns) : s.sameExcept (s.dirtyFlight ns) [.ctl] := by
  unfold State.dirtyFlight; split
  · exact markIf_frame ..
  · exact .refl _ _
theorem commit_keeps : commitMeaning.keeps usageBlocks := by
  refine fitmentRequest_keeps (sized_keeps (fun p s => ?_) 0) (by simp)
  refine withContext_keeps s fun c => ?_
  have h (i) : s.sameExcept (s.commitTaken c i).state usageBlocks :=
    .trans (commit_frame s c i) ((dirtyFlight_frame ..).mono (by simp))
  simp only [State.commitChecked]
  (repeat' split) <;> first
    | exact .refl _ _
    | exact h _
theorem endContext_frame (c) : s.sameExcept (s.endContext c) usageBlocks := by
  unfold State.endContext; split
  · exact .trans (.trans (.trans (mergeInto_frame ..) ((setFitment_frame _ none).mono (by simp)))
      ((testService_frame ..).mono (by simp))) ((testLife_frame ..).mono (by simp))
  · exact .trans (mergeOrphan_frame ..) ((setFitment_frame _ none).mono (by simp))
theorem abort_keeps : abortMeaning.keeps usageBlocks := by
  refine fitmentRequest_keeps (sized_keeps (fun p s => ?_) 0) (by simp)
  exact withContext_keeps s fun c => endContext_frame s c

/-! ## Store, Supervisor, Link Port -/

theorem setTiming_keeps : setTimingMeaning.keeps [.ctl] := by
  refine sized_keeps (fun p s => ?_) 3
  split
  · refine .trans (t := s.setTiming _) ?_ (configured_frame ..)
    simp [State.sameExcept, State.setTiming]
  · exact .refl _ _
theorem storeStatus_keeps : storeStatusMeaning.keeps [] := sized_keeps (fun _ _ => .refl _ _) 0
theorem setDormancy_keeps : setDormancyMeaning.keeps [.sup, .ctl] := by
  refine sized_keeps (fun p s => ?_) 2
  split
  · refine .trans (t := s.setDelay _) ?_ ((configured_frame ..).mono (by simp))
    simp [State.sameExcept, State.setDelay]
  · exact .refl _ _
theorem clearAllOrphans_frame : s.sameExcept s.clearAllOrphans [.tally, .ctl] := .foldl clearOrphan_frame _ s
theorem resetBook_frame : s.sameExcept s.resetBook [.book, .ctl] := by
  have h := (State.sameExcept.foldl (fun s q => freePlace_frame s (placeOf q)) s.book.seqs.reverse s).trans
    (openRecord_frame _ (openedHeader 1 .idle none 0 .cleared s.timeField))
  refine h.trans ?_
  simp [State.sameExcept, State.resetBook]
theorem factoryClear_keeps : factoryClearMeaning.keeps [.tally, .book, .ctl] := by
  refine sized_keeps (fun p s => ?_) 0
  (repeat' split) <;> first
    | exact .refl _ _
    | exact .trans ((clearAllOrphans_frame _).mono (by simp)) ((resetBook_frame _).mono (by simp))
theorem identify_keeps : identifyMeaning.keeps [] := sized_keeps (fun _ _ => .refl _ _) 0
theorem readStatus_keeps : readStatusMeaning.keeps [] := sized_keeps (fun _ _ => .refl _ _) 0
theorem takeNotice_keeps : takeNoticeMeaning.keeps [.link] := by
  refine sized_keeps (fun p s => ?_) 0
  unfold State.takeNotice
  (repeat' split) <;> first
    | exact .refl _ _
    | exact dropNotice_frame ..
theorem setNotices_keeps : setNoticesMeaning.keeps [.link, .ctl] := by
  refine sized_keeps (fun p s => ?_) 15
  split
  · refine .trans (t := s.setNotices _) ?_ ((configured_frame ..).mono (by simp))
    simp [State.sameExcept, State.setNotices]
  · exact .refl _ _

/-! ## Serving a request -/

/-- What every request command can change beside its own parts. -/
abbrev serveBlocks : List Block := [.nextId, .sup, .tally, .ctl, .link]

theorem arrive_frame (r) : s.sameExcept (s.arrive r) serveBlocks := by
  have h := (wake_frame s).mono (bs := serveBlocks) (by simp)
  have h1 (x) : s.wake.sameExcept (s.wake.replyIfFree x) serveBlocks := (replyIfFree_frame ..).mono (by simp)
  have h2 : s.wake.sameExcept (s.wake.join r).supervise serveBlocks :=
    .trans ((join_frame ..).mono (by simp)) ((supervise_frame _).mono (by simp))
  unfold State.arrive
  exact h.trans (.ite (fun _ => h1 _) fun _ => .ite (fun _ => h2) fun _ => h1 _)
theorem admit_frame (r) : s.sameExcept (s.accept r) serveBlocks := .ite (fun _ => .refl _ _) (fun _ => arrive_frame ..)

theorem give_frame (r : Request) (a : Answer) : a.state.sameExcept (a.give r) serveBlocks := by
  cases a
  · exact (reply_frame ..).mono (by simp)
  · exact (reply_frame ..).mono (by simp)
  · exact .trans ((reply_frame ..).mono (by simp)) ((defer_frame ..).mono (by simp))

theorem serve_frame {m : Meaning} {bs} (h : m.keeps bs) (r) : s.sameExcept (s.serve r m) (bs ++ serveBlocks) := by
  unfold State.serve
  refine .ite (fun _ => ?_) (fun _ => .refl _ _)
  have k : s.sameExcept (s.accept r) (bs ++ serveBlocks) := (admit_frame s r).mono (by simp)
  refine .ite (fun _ => k.trans ?_) (fun _ => k)
  refine .trans ((dropHead_frame _).mono (by simp)) (.trans (.trans (t := ((s.accept r).dropHead.judge r m).state) ?_
    ((give_frame ..).mono (by simp))) ((supervise_frame _).mono (by simp)))
  unfold State.judge; split
  · exact .refl _ _
  · exact (h ..).mono (by simp +contextual)

theorem serveUnknown_frame (r) : s.sameExcept (s.serveUnknown r) serveBlocks := by
  unfold State.serveUnknown
  refine .ite (fun _ => ?_) (fun _ => .refl _ _)
  refine .ite (fun _ => (admit_frame s r).trans ?_) (fun _ => admit_frame s r)
  exact .trans ((dropHead_frame _).mono (by simp)) (.trans (give_frame r (.refused .unknownKind _))
    ((supervise_frame _).mono (by simp)))

end

end Sys2Proof.Machine
end

