-- ==== Sys2Proof/Laws/Bytes.lean ====
section
/-! SUPPORT. Vectors given entry by entry, and the numbers of little-endian bytes (12 R196). -/

namespace Sys2Proof

namespace Machine

@[simp] theorem tabulate_getElem {α : Type} (n : Nat) (f : Fin n → α) (k : Nat) (h : k < n) : (tabulate n f)[k] = f ⟨k, h⟩ := by
  simp [tabulate]

@[simp] theorem tabulate_get {α : Type} (n : Nat) (f : Fin n → α) (i : Fin n) : (tabulate n f)[i] = f i := by
  simp [tabulate]

end Machine

@[simp] theorem leBytes_length (n v : Nat) : (leBytes n v).length = n := by
  induction n generalizing v with
  | zero => rfl
  | succ n ih => simp [leBytes, ih]

/-- The n bytes of a number below 256 ^ n give the number back. -/
theorem leNat_leBytes (n v : Nat) (h : v < 256 ^ n) : leNat (leBytes n v) = v := by
  induction n generalizing v with
  | zero => simp [leBytes, leNat] at *; omega
  | succ n ih =>
    have : v / 256 < 256 ^ n := Nat.div_lt_of_lt_mul (by rw [Nat.pow_succ] at h; omega)
    simp only [leBytes, leNat, ih _ this, BitVec.toNat_ofNat]
    omega

theorem leNat_lt (bs : List Byte) : leNat bs < 256 ^ bs.length := by
  induction bs with
  | nil => simp [leNat]
  | cons b bs ih =>
    have := b.isLt
    simp only [leNat, List.length_cons, Nat.pow_succ]
    omega

/-- A field of `len` bytes is below 256 ^ len. -/
theorem field_lt (bs : List Byte) (off len : Nat) : field bs off len < 256 ^ len :=
  Nat.lt_of_lt_of_le (leNat_lt _) (Nat.pow_le_pow_right (by decide) (by simp))

/-- A field of one byte that stands in the payload. -/
theorem field_one (bs : List Byte) (off : Nat) (h : off < bs.length) : field bs off 1 = bs[off].toNat := by
  rw [field, List.drop_eq_getElem_cons h]; rfl

/-- The one byte of a small number read as a field. -/
theorem field_ofNat (n : Nat) (h : n < 256) : field [BitVec.ofNat 8 n] 0 1 = n := by
  simp [field, leNat, Nat.mod_eq_of_lt h]

end Sys2Proof
end

