-- ==== Sys2Proof/Laws/Rebuild.lean ====
section
/-! SUPPORT. The frame of start-up: the store, the pins and time are read, never changed. -/

namespace Sys2Proof.Machine

/-- What start-up can change. -/
abbrev rebuildBlocks : List Block := [.clock, .channels, .lines, .run, .driveline, .tally, .table, .fitment, .book, .ctl, .sup, .link]

variable (s : State)

theorem reporting_frame (f) : s.sameExcept (s.reporting f) [.sup] := by simp [State.sameExcept, State.reporting]
theorem startRead_frame : s.sameExcept s.startRead rebuildBlocks := by simp [State.sameExcept, State.startRead, State.reporting]
theorem noteDefaulted_frame (n b) : s.sameExcept (s.noteDefaulted n b) [.ctl, .sup] :=
  .ite (fun _ => .trans ((markDirty_frame ..).mono (by simp)) ((reporting_frame ..).mono (by simp))) (fun _ => .refl _ _)
theorem startIdentity_frame : s.sameExcept s.startIdentity [.ctl] := by simp [State.sameExcept, State.startIdentity]
theorem startChannels_frame : s.sameExcept s.startChannels rebuildBlocks := by
  refine .trans ?_ ((noteDefaulted_frame ..).mono (by simp))
  simp [State.sameExcept]
theorem startGears_frame : s.sameExcept s.startGears rebuildBlocks := by
  refine .trans ?_ ((noteDefaulted_frame ..).mono (by simp))
  simp [State.sameExcept]
theorem startSettings_frame : s.sameExcept s.startSettings rebuildBlocks := by
  refine .trans ?_ ((noteDefaulted_frame ..).mono (by simp))
  simp [State.sameExcept, State.applySettings]
theorem startWeights_frame : s.sameExcept s.startWeights rebuildBlocks := by
  refine .trans ?_ ((noteDefaulted_frame ..).mono (by simp))
  simp [State.sameExcept]
theorem startConfig_frame : s.sameExcept s.startConfig rebuildBlocks :=
  .trans (.trans (.trans (.trans ((startIdentity_frame s).mono (by simp)) (startChannels_frame _)) (startGears_frame _))
    (startSettings_frame _)) (startWeights_frame _)
theorem startMark_frame : s.sameExcept s.startMark rebuildBlocks :=
  .trans (.trans ((setSup_frame s _).mono (by simp)) ((markIf_frame ..).mono (by simp))) ((reporting_frame ..).mono (by simp))
theorem startSlot_frame (i) : s.sameExcept (s.startSlot i) rebuildBlocks :=
  .trans (.trans ((setSlot_frame ..).mono (by simp)) ((markAll_frame ..).mono (by simp))) ((reporting_frame ..).mono (by simp))
theorem startSlots_frame : s.sameExcept s.startSlots rebuildBlocks := .foldl startSlot_frame _ s
theorem startEntry_frame (p) : s.sameExcept (s.startEntry p) rebuildBlocks := by
  unfold State.startEntry
  (repeat' split) <;> first
    | exact (setEntry_frame ..).mono (by simp)
    | exact .trans (.trans ((setEntry_frame ..).mono (by simp)) ((markDirty_frame ..).mono (by simp)))
        ((reporting_frame ..).mono (by simp))
theorem startMap_frame : s.sameExcept s.startMap rebuildBlocks := .foldl startEntry_frame _ s
theorem startStray_frame (i) : s.sameExcept (s.startStray i) rebuildBlocks :=
  .ite (fun _ => .trans (.trans ((setSlot_frame ..).mono (by simp)) ((markDirty_frame ..).mono (by simp)))
    ((reporting_frame ..).mono (by simp))) (fun _ => .refl _ _)
theorem startGearSlot_frame : s.sameExcept s.startGearSlot rebuildBlocks := by
  unfold State.startGearSlot
  (repeat' split) <;> first
    | exact .refl _ _
    | exact (resizeSlot_frame ..).mono (by simp)
theorem startReconcile_frame : s.sameExcept s.startReconcile rebuildBlocks :=
  .trans (.foldl startStray_frame _ s) (startGearSlot_frame _)
theorem startOrphan_frame (p) : s.sameExcept (s.startOrphan p) rebuildBlocks := by
  unfold State.startOrphan
  split
  · exact (setOrphan_frame ..).mono (by simp)
  · exact .trans (.trans ((setOrphan_frame ..).mono (by simp)) ((markDirty_frame ..).mono (by simp)))
      ((reporting_frame ..).mono (by simp))
theorem startGearOrphan_frame : s.sameExcept s.startGearOrphan rebuildBlocks :=
  .ite (fun _ => .refl _ _) (fun _ => .trans ((setOrphan_frame ..).mono (by simp)) ((markDirty_frame ..).mono (by simp)))
theorem startOrphans_frame : s.sameExcept s.startOrphans rebuildBlocks :=
  .trans (.foldl startOrphan_frame _ s) (startGearOrphan_frame _)
theorem startPlace_frame (run p) : s.sameExcept (State.startPlace run s p) rebuildBlocks := by
  unfold State.startPlace
  split
  · exact (setPlace_frame ..).mono (by simp)
  · exact .trans ((setPlace_frame ..).mono (by simp)) ((markAll_frame ..).mono (by simp))
theorem noteDamaged_frame (q) : s.sameExcept (s.noteDamaged q) rebuildBlocks :=
  .ite (fun _ => .trans ((markAll_frame ..).mono (by simp)) ((reporting_frame ..).mono (by simp))) (fun _ => .refl _ _)
theorem recoverOpen_frame (q) : s.sameExcept (s.recoverOpen q) rebuildBlocks := by
  simp only [State.recoverOpen]
  (repeat' split) <;> first
    | exact .refl _ _
    | exact .trans (.trans ((setPlace_frame ..).mono (by simp)) ((markDirty_frame ..).mono (by simp)))
        ((reporting_frame ..).mono (by simp))
theorem noteOpening_frame (o) : s.sameExcept (s.noteOpening o) [.sup] := reporting_frame ..
theorem recoverClosed_frame (t h) : s.sameExcept (s.recoverClosed t h) rebuildBlocks :=
  .ite (fun _ => .trans ((openRecord_frame ..).mono (by simp)) ((noteOpening_frame ..).mono (by simp)))
    (fun _ => .trans (.trans ((setPlace_frame ..).mono (by simp)) ((markDirty_frame ..).mono (by simp)))
      ((noteOpening_frame ..).mono (by simp)))
theorem recoverTop_frame (t) : s.sameExcept (s.recoverTop t) rebuildBlocks := by
  unfold State.recoverTop
  refine .ite (fun _ => .trans ((formRecord_frame ..).mono (by simp)) ((noteOpening_frame ..).mono (by simp))) (fun _ => ?_)
  split
  · exact .ite (fun _ => recoverClosed_frame ..) (fun _ => .refl _ _)
  · exact .refl _ _
theorem setBook_frame (x) : s.sameExcept { s with book := x } [.book] := by simp [State.sameExcept]
theorem recoverEmpty_frame : s.sameExcept s.recoverEmpty rebuildBlocks :=
  .trans (.trans ((openRecord_frame s (openedHeader 1 .idle none 0 .cleared none)).mono (by simp))
    ((setBook_frame _ _).mono (by simp))) ((noteOpening_frame ..).mono (by simp))
theorem recoverBook_frame (run) : s.sameExcept (s.recoverBook run) rebuildBlocks := by
  cases run with
  | nil => exact recoverEmpty_frame s
  | cons t older =>
    exact .trans (.trans (.trans ((setBook_frame s _).mono (by simp)) (.foldl noteDamaged_frame older _))
      (.foldl recoverOpen_frame older _)) (recoverTop_frame ..)
theorem startBounds_frame : s.sameExcept s.startBounds [.ctl] := markIf_frame ..
theorem startBook_frame : s.sameExcept s.startBook rebuildBlocks :=
  .trans (.trans (.foldl (startPlace_frame (run := bookRun s.store)) (List.finRange 24) s) (recoverBook_frame ..))
    ((startBounds_frame _).mono (by simp))
theorem startCount_frame : s.sameExcept s.startCount [.book, .ctl] := by
  simp only [State.startCount]
  split
  · exact .trans ((setPlace_frame ..).mono (by simp)) ((markDirty_frame ..).mono (by simp))
  · exact .refl _ _
theorem rebuild_frame : s.sameExcept s.rebuild rebuildBlocks :=
  .trans (.trans (.trans (.trans (.trans (.trans (.trans (.trans (startRead_frame s) (startConfig_frame _)) (startMark_frame _))
    (startSlots_frame _)) (startMap_frame _)) (startReconcile_frame _)) (startOrphans_frame _)) (startBook_frame _))
    ((startCount_frame _).mono (by simp))

theorem atRest_frame : s.sameExcept s.atRest rebuildBlocks := by simp [State.sameExcept, State.atRest]
theorem setRead_frame : s.sameExcept s.setRead [.sup] := by simp [State.sameExcept, State.setRead]
theorem blank_frame : s.sameExcept s.blank rebuildBlocks := by simp [State.sameExcept, State.blank, State.atRest]
theorem startUp_frame : s.sameExcept s.startUp rebuildBlocks :=
  .trans (.trans (blank_frame s) (rebuild_frame _)) ((setRead_frame _).mono (by simp))
theorem tick_frame : s.sameExcept s.tick rebuildBlocks := .ite (fun _ => startUp_frame s) (fun _ => .refl _ _)
theorem startNotices_frame : s.sameExcept s.startNotices [.link] := by
  have h : s.sameExcept ({ s with link := { s.link with notices := Vector.replicate 14 none } }.raise .clockUnset .empty)
      [.link] := .trans (t := { s with link := { s.link with notices := Vector.replicate 14 none } })
        (by simp [State.sameExcept]) (raise_frame ..)
  exact .ite (fun _ => h.trans (raise_frame ..)) (fun _ => h)
theorem startSensing_frame : s.sameExcept s.startSensing [.clock, .channels, .lines] := by
  simp [State.sameExcept, State.startSensing]
theorem startObservers_frame : s.sameExcept s.startObservers [.run, .driveline, .fitment] := by
  simp [State.sameExcept, State.startObservers]
theorem becomeActive_frame : s.sameExcept s.becomeActive [.sup, .tally, .ctl] :=
  .trans (.trans ((enqueueAll_frame ..).mono (by simp)) ((startActivity_frame _).mono (by simp))) ((setPower_frame ..).mono (by simp))
theorem finishStart_frame : s.sameExcept s.finishStart rebuildBlocks := by
  have h : s.sameExcept s.startNotices.startSensing.startObservers.becomeActive rebuildBlocks :=
    .trans (.trans (.trans ((startNotices_frame s).mono (by simp)) ((startSensing_frame _).mono (by simp)))
      ((startObservers_frame _).mono (by simp))) ((becomeActive_frame _).mono (by simp))
  exact .ite (fun _ => h.trans ((enterHoldup_frame _).mono (by simp)))
    (fun _ => h.trans (.trans ((supervise_frame _).mono (by simp)) ((arbitrate_frame _).mono (by simp))))

end Sys2Proof.Machine
end

