-- ==== Sys2Proof/Laws/Commands.lean ====
section
/-! SUPPORT. The frame of every command: it answers a next state that differs from the state before in the named parts only. -/

namespace Sys2Proof.Machine

/-- The command answers a next state that is the state before but for the named parts. -/
def Changes (o : Host.Outcome State Fault Refusal) (s : State) (bs : List Block) : Prop :=
  ∃ t, o = .next t ∧ s.sameExcept t bs

theorem Changes.next {s t : State} {bs} (h : s.sameExcept t bs) : Changes (.next t) s bs := ⟨t, rfl, h⟩
theorem Changes.same (s : State) (bs) : Changes (.next s) s bs := .next (.refl s bs)

variable (s : State)

theorem hunt_frame : s.sameExcept s.hunt [.link] := by simp [State.sameExcept, State.hunt]
theorem frameError_frame : s.sameExcept s.frameError [.link] := by simp [State.sameExcept, State.frameError]
theorem framing_frame (f) : s.sameExcept (s.framing f) [.link] := by simp [State.sameExcept, State.framing]
theorem discardFrame_frame : s.sameExcept s.discardFrame [.link] := .trans (hunt_frame s) (frameError_frame _)
theorem judgeFrame_frame (b c) : s.sameExcept (s.judgeFrame b c) serveBlocks := by
  have h := (hunt_frame s).mono (bs := serveBlocks) (by simp)
  unfold State.judgeFrame
  refine .ite (fun _ => ?_) (fun _ => h.trans ((frameError_frame _).mono (by simp)))
  split
  · exact h.trans (arrive_frame ..)
  · exact h.trans ((frameError_frame _).mono (by simp))
theorem takeByte_frame (b) : s.sameExcept (s.takeByte b) serveBlocks := by
  unfold State.takeByte
  (repeat' split) <;> first
    | exact judgeFrame_frame ..
    | exact (framing_frame ..).mono (by simp)
    | exact (discardFrame_frame _).mono (by simp)
    | exact .refl _ _
theorem execUnknownKind_frame (k t p) : Changes (execUnknownKind k t p s) s serveBlocks :=
  .next (.ite (fun _ => .refl _ _) (fun _ => serveUnknown_frame ..))
theorem execFrameArrival_frame (b c) : Changes (execFrameArrival b c s) s serveBlocks :=
  .next (.ite (fun _ => judgeFrame_frame ..) (fun _ => .refl _ _))
theorem execCharacterReceived_frame (b h) : Changes (execCharacterReceived b h s) s serveBlocks :=
  .next (.ite (fun _ => .ite (fun _ => takeByte_frame ..) (fun _ => .ite (fun _ => .refl _ _)
    (fun _ => (discardFrame_frame _).mono (by simp)))) (fun _ => .refl _ _))
theorem execGapTimerExpiry_frame : Changes (execGapTimerExpiry s) s [.time, .link] := by
  unfold execGapTimerExpiry; split
  · exact .next (.trans ((reach_frame ..).mono (by simp)) ((discardFrame_frame _).mono (by simp)))
  · exact .same ..
theorem execBreakReceived_frame (b) : Changes (execBreakReceived b s) s [.ctl, .sup, .link] := by
  refine .next (.ite (fun _ => ?_) (fun _ => .refl _ _))
  refine .trans ?_ ((supervise_frame _).mono (by simp))
  simp [State.sameExcept]
theorem execReplySent_frame : Changes (execReplySent s) s [.link] :=
  .next (.ite (fun _ => by simp [State.sameExcept]) (fun _ => .refl _ _))

/-! ## Sensing -/

/-- What an edge can change. -/
abbrev edgeBlocks : List Block := [.channels, .run, .driveline, .sup, .tally, .table, .fitment, .book, .ctl, .link]

/-- What a line transition can change. -/
abbrev lineBlocks : List Block := [.lines, .run, .driveline, .sup, .tally, .table, .fitment, .book, .ctl, .link]

theorem overspeedTest_frame (i) : s.sameExcept (s.overspeedTest i) edgeBlocks := by
  simp only [State.overspeedTest]
  (repeat' split) <;> first
    | exact .refl _ _
    | exact .trans (.trans ((setChannelRecord_frame ..).mono (by simp)) ((take_frame ..).mono (by simp)))
        ((raise_frame ..).mono (by simp))
    | exact (setChannelRecord_frame ..).mono (by simp)
theorem handOn_frame (i r b) : s.sameExcept (s.handOn i r b) edgeBlocks := by
  unfold State.handOn
  have h1 : ∀ u : State, u.sameExcept (if r.revolution then u.revolution s.channels[i].cfg.function else u) edgeBlocks :=
    fun u => .ite (fun _ => (revolution_frame ..).mono (by simp)) (fun _ => .refl _ _)
  have h2 : ∀ u : State, u.sameExcept
      (if r.announced then u.announce s.channels[i].cfg.function (some s.channels[i].state) i else u) edgeBlocks :=
    fun u => .ite (fun _ => (announce_frame ..).mono (by simp)) (fun _ => .refl _ _)
  have h3 : ∀ u : State, u.sameExcept (if r.noisy then u.raise .sensorFault (.channel (some i)) else u) edgeBlocks :=
    fun u => .ite (fun _ => (raise_frame ..).mono (by simp)) (fun _ => .refl _ _)
  exact .ite (fun _ => .trans (.trans (.trans (.trans (h1 s) (h2 _)) (h3 _)) ((speedUpdate_frame ..).mono (by simp)))
    (overspeedTest_frame ..)) (fun _ => .trans (.trans (h1 s) (h2 _)) (h3 _))
theorem takeEdge_frame (i) : s.sameExcept (s.takeEdge i) edgeBlocks :=
  .trans (.trans (.trans ((wake_frame s).mono (by simp))
    ((setChannelRecord_frame _ i (s.wake.channels[i].edge s.wake.now).1).mono (by simp))) (handOn_frame ..))
    ((supervise_frame _).mono (by simp))
theorem execActiveEdge_frame (i r w) : Changes (execActiveEdge i r w s) s (.time :: edgeBlocks) := by
  have h := (pass_frame s w).mono (bs := .time :: edgeBlocks) (by simp)
  simp only [execActiveEdge]
  split
  · exact .next (h.trans ((takeEdge_frame ..).mono (by simp)))
  · exact .next h
theorem takeStall_frame (i) : s.sameExcept (s.takeStall i) edgeBlocks := by
  have h : s.sameExcept (s.setChannelRecord i s.channels[i].stall) edgeBlocks :=
    (setChannelRecord_frame ..).mono (by simp)
  exact .trans (.ite (fun _ => h.trans ((announce_frame ..).mono (by simp))) (fun _ => h)) ((supervise_frame _).mono (by simp))
theorem execStallTimerExpiry_frame (i) : Changes (execStallTimerExpiry i s) s (.time :: edgeBlocks) := by
  unfold execStallTimerExpiry
  (repeat' split)
  · exact .same ..
  · exact .next (.trans ((reach_frame ..).mono (by simp)) ((takeStall_frame ..).mono (by simp)))
  · exact .same ..
theorem publishLine_frame (l a) : s.sameExcept (s.publishLine l a) lineBlocks := by
  unfold State.publishLine
  split
  · exact .refl _ _
  · exact (crankTransition_frame ..).mono (by simp)
  · exact .trans ((evalGear_frame _).mono (by simp)) ((clutchTransition_frame ..).mono (by simp))
  · exact (evalGear_frame _).mono (by simp)
  · exact (ptoTransition_frame ..).mono (by simp)
theorem lineTransition_frame (l a) : s.sameExcept (s.lineTransition l a) lineBlocks := by
  have h := (setLineRecord_frame s l { s.lines[l.index] with filtered := a, timer := none }).mono (bs := lineBlocks) (by simp)
  exact .trans (.trans (.ite (fun _ => h.trans ((wake_frame _).mono (by simp))) (fun _ => h)) (publishLine_frame ..))
    ((supervise_frame _).mono (by simp))
theorem filterLevel_frame (l) : s.sameExcept (s.filterLevel l) lineBlocks := by
  simp only [State.filterLevel]
  (repeat' split) <;> first
    | exact (setLineRecord_frame ..).mono (by simp)
    | exact lineTransition_frame ..
theorem execLineLevelChange_frame (l h w) : Changes (execLineLevelChange l h w s) s (.time :: lineBlocks) := by
  have k := (pass_frame s w).mono (bs := .time :: lineBlocks) (by simp)
  simp only [execLineLevelChange]
  (repeat' split)
  · exact .next k
  · exact .next (k.trans (.trans ((setLineRecord_frame ..).mono (by simp)) ((filterLevel_frame ..).mono (by simp))))
  · exact .next (k.trans ((setLineRecord_frame ..).mono (by simp)))
theorem execLineFilterExpiry_frame (l) : Changes (execLineFilterExpiry l s) s (.time :: lineBlocks) := by
  simp only [execLineFilterExpiry]
  (repeat' split)
  · exact .next (.trans ((reach_frame ..).mono (by simp)) ((setLineRecord_frame ..).mono (by simp)))
  · exact .next (.trans ((reach_frame ..).mono (by simp)) ((lineTransition_frame ..).mono (by simp)))
  · exact .same ..
theorem execWallClockTick_frame : Changes (execWallClockTick s) s [.time, .clock] := by
  unfold execWallClockTick; split
  · exact .next (by simp [State.sameExcept])
  · exact .same ..
theorem execRunConfirmExpiry_frame : Changes (execRunConfirmExpiry s) s (.time :: runBlocks) := by
  simp only [execRunConfirmExpiry]; split
  · refine .next (.ite (fun _ => ?_) (fun _ => by simp [State.sameExcept]))
    refine .trans ?_ (.trans ((runConfirmed_frame _).mono (by simp)) ((supervise_frame _).mono (by simp)))
    simp [State.sameExcept]
  · exact .same ..
theorem execStopConfirmExpiry_frame : Changes (execStopConfirmExpiry s) s (.time :: runBlocks) := by
  simp only [execStopConfirmExpiry]; split
  · refine .next (.ite (fun _ => ?_) (fun _ => by simp [State.sameExcept]))
    refine .trans ?_ (.trans ((stopConfirmed_frame _).mono (by simp)) ((supervise_frame _).mono (by simp)))
    simp [State.sameExcept]
  · exact .same ..
theorem engageGear_frame (g) : s.sameExcept (s.engageGear g) reportBlocks := by
  have h : s.sameExcept
      { s with driveline := { s.driveline with gear := .engaged g, lastGear := some g, settleTimer := none } } reportBlocks := by
    simp [State.sameExcept]
  unfold State.engageGear
  split
  · exact .ite (fun _ => h) (fun _ => h.trans ((take_frame ..).mono (by simp)))
  · exact h
theorem execSettleTimerExpiry_frame : Changes (execSettleTimerExpiry s) s (.time :: reportBlocks) := by
  unfold execSettleTimerExpiry; split
  · exact .next (.trans ((reach_frame ..).mono (by simp)) ((engageGear_frame ..).mono (by simp)))
  · exact .same ..
theorem execLaunchWindowExpiry_frame : Changes (execLaunchWindowExpiry s) s [.time, .driveline] := by
  unfold execLaunchWindowExpiry; split
  · exact .next (.trans ((reach_frame ..).mono (by simp)) ((clutchEngaged_frame _).mono (by simp)))
  · exact .same ..
theorem execStaleTimerExpiry_frame : Changes (execStaleTimerExpiry s) s [.time, .driveline, .link] := by
  unfold execStaleTimerExpiry; split
  · refine .next (.trans ?_ ((raise_frame ..).mono (by simp)))
    simp [State.sameExcept]
  · exact .same ..
theorem execQuietTimerExpiry_frame : Changes (execQuietTimerExpiry s) s [.time, .driveline, .ctl, .sup] := by
  unfold execQuietTimerExpiry; split
  · refine .next (.trans (.trans ?_ ((setTow_frame ..).mono (by simp))) ((supervise_frame _).mono (by simp)))
    simp [State.sameExcept]
  · exact .same ..
theorem execAccrualTimerExpiry_frame : Changes (execAccrualTimerExpiry s) s (.time :: usageBlocks) := by
  unfold execAccrualTimerExpiry; split
  · refine .next (.trans ?_ ((routeAll_frame ..).mono (by simp)))
    simp [State.sameExcept]
  · exact .same ..
theorem execFitmentDeadlineExpiry_frame : Changes (execFitmentDeadlineExpiry s) s (.time :: .sup :: usageBlocks) := by
  unfold execFitmentDeadlineExpiry; split
  · exact .next (.trans (.trans (.trans ((reach_frame ..).mono (by simp)) ((endContext_frame ..).mono (by simp)))
      ((raise_frame ..).mono (by simp))) ((supervise_frame _).mono (by simp)))
  · exact .same ..

/-! ## Store Controller, Supervisor -/

theorem execCheckpointTimerExpiry_frame : Changes (execCheckpointTimerExpiry s) s [.time, .sup, .tally, .ctl] := by
  unfold execCheckpointTimerExpiry; split
  · refine .next (.trans ?_ ((checkpoint_frame _).mono (by simp)))
    simp [State.sameExcept]
  · exact .same ..
theorem queueRepair_frame (n) : s.sameExcept (s.queueRepair n) [.sup, .tally, .ctl] :=
  .ite (fun _ => .refl _ _) (fun _ => queueLines_frame ..)
theorem scrubLine_frame (n) : s.sameExcept (s.scrubLine n) [.sup, .tally, .ctl] := by
  unfold State.scrubLine; split
  · exact .refl _ _
  · exact .trans ((setCtl_frame ..).mono (by simp)) (queueRepair_frame ..)
  · exact .trans ((setCtl_frame ..).mono (by simp)) (queueRepair_frame ..)
theorem scrubStep_frame : s.sameExcept s.scrubStep [.sup, .tally, .ctl] := by
  have h := (setCtl_frame s { s.ctl with scrubPointer := nextLine s.ctl.scrubPointer }).mono
    (bs := [.sup, .tally, .ctl]) (by simp)
  exact .ite (fun _ => h) (fun _ => h.trans (scrubLine_frame ..))
theorem execScrubTimerExpiry_frame (d) : Changes (execScrubTimerExpiry d s) s [.time, .store, .sup, .tally, .ctl] := by
  unfold execScrubTimerExpiry; split
  · refine .next (.ite (fun _ => .trans ?_ ((scrubStep_frame _).mono (by simp))) (fun _ => by simp [State.sameExcept]))
    simp [State.sameExcept]
  · exact .same ..
theorem drain_frame : s.sameExcept s.drain [.sup, .tally, .ctl] :=
  .trans ((setSup_frame s _).mono (by simp)) (queueLines_frame ..)
theorem execDormancyTimerExpiry_frame : Changes (execDormancyTimerExpiry s) s [.time, .sup, .tally, .ctl] := by
  unfold execDormancyTimerExpiry; split
  · exact .next (.trans ((reach_frame ..).mono (by simp)) ((drain_frame _).mono (by simp)))
  · exact .same ..
theorem storeLine_frame (n l) : s.sameExcept (s.storeLine n l) [.store] := by simp [State.sameExcept, State.storeLine]
theorem storeLeft_frame (f w) : s.sameExcept (s.storeLeft f w) [.store] := storeLine_frame ..
theorem releaseLine_frame (f) : s.sameExcept (s.releaseLine f) [.ctl] := setCtl_frame ..
theorem writePassed_frame (f) : s.sameExcept (s.writePassed f) [.ctl, .link] :=
  .trans (.trans (.trans ((landed_frame s).mono (by simp)) ((releaseLine_frame _ f).mono (by simp))) (endRecords_frame ..))
    ((setCtl_frame ..).mono (by simp))
theorem writeFailed_frame (f) : s.sameExcept (s.writeFailed f) [.ctl, .link] :=
  .trans (.trans (.trans (.trans (.trans ((landed_frame s).mono (by simp)) ((markDirty_frame _ f.line).mono (by simp)))
    ((setCtl_frame ..).mono (by simp))) ((raise_frame ..).mono (by simp))) (endRecords_frame ..)) ((setCtl_frame ..).mono (by simp))
theorem endWrite_frame (f w) : s.sameExcept (s.endWrite f w) [.store, .sup, .tally, .ctl, .link] := by
  have h := (storeLeft_frame s f w).mono (bs := [.store, .sup, .tally, .ctl, .link]) (by simp)
  have h0 := (storeLine_frame s f.line (afterWrite (storeGet s.store f.line) f.image w)).mono
    (bs := [.store, .sup, .tally, .ctl, .link]) (by simp)
  refine .ite (fun _ => h0.trans ?_) (fun _ => .ite (fun _ => h.trans ?_) (fun _ => h.trans ((startWrite_frame ..).mono (by simp))))
  · exact .trans ((writePassed_frame ..).mono (by simp)) ((arbitrate_frame _).mono (by simp))
  · exact .trans ((writeFailed_frame ..).mono (by simp)) ((arbitrate_frame _).mono (by simp))
theorem execWriteComplete_frame (w) : Changes (execWriteComplete w s) s [.store, .sup, .tally, .ctl, .link] := by
  unfold execWriteComplete; split
  · exact .next (.trans (endWrite_frame ..) ((supervise_frame _).mono (by simp)))
  · exact .same ..
theorem cutWrite_frame (w) : s.sameExcept (s.cutWrite w) [.store] := by
  unfold State.cutWrite; split
  · exact storeLeft_frame ..
  · exact .refl _ _
theorem decay_frame (d) : s.sameExcept (s.decay d) [.store] := by simp [State.sameExcept, State.decay]
theorem execSupplyLoss_frame (w) : Changes (execSupplyLoss w s) s (.store :: .pins :: rebuildBlocks) :=
  .next (.ite (fun _ => .trans (.trans ((cutWrite_frame ..).mono (by simp)) ((atRest_frame _).mono (by simp)))
    ((setPins_frame ..).mono (by simp))) (fun _ => .refl _ _))
theorem execPowerUp_frame (w d) : Changes (execPowerUp w d s) s (.store :: .pins :: rebuildBlocks) := by
  have h : s.sameExcept (((s.cutWrite w).decay d).setPins { s.pins with supply := true }) (.store :: .pins :: rebuildBlocks) :=
    .trans (.trans ((cutWrite_frame ..).mono (by simp)) ((decay_frame ..).mono (by simp))) ((setPins_frame ..).mono (by simp))
  exact .next (h.trans ((atRest_frame _).mono (by simp)))
theorem execResetAsserted_frame (w) : Changes (execResetAsserted w s) s (.store :: .pins :: rebuildBlocks) :=
  .next (.ite (fun _ => .refl _ _) (fun _ => .trans (.trans ((cutWrite_frame ..).mono (by simp)) ((atRest_frame _).mono (by simp)))
    ((setPins_frame ..).mono (by simp))))
theorem execResetReleased_frame (d) : Changes (execResetReleased d s) s (.store :: .pins :: rebuildBlocks) := by
  have h : s.sameExcept ((s.decay d).setPins { s.pins with reset := false }) (.store :: .pins :: rebuildBlocks) :=
    .trans ((decay_frame ..).mono (by simp)) ((setPins_frame ..).mono (by simp))
  exact .next (.ite (fun _ => .ite (fun _ => h.trans ((atRest_frame _).mono (by simp))) (fun _ => h)) (fun _ => .refl _ _))
theorem warned_frame : s.sameExcept s.warned [.sup, .tally, .ctl, .link] := by
  unfold State.warned
  (repeat' split) <;> first
    | exact enterHoldup_frame _
    | exact .refl _ _
theorem execPowerWarnAsserted_frame : Changes (execPowerWarnAsserted s) s [.pins, .sup, .tally, .ctl, .link] :=
  .next (.ite (fun _ => .refl _ _) (fun _ => .trans ((setPins_frame ..).mono (by simp)) ((warned_frame _).mono (by simp))))
theorem execPowerWarnCleared_frame : Changes (execPowerWarnCleared s) s [.pins, .sup, .tally, .ctl] := by
  have h := (setPins_frame s { s.pins with powerWarn := false }).mono (bs := [.pins, .sup, .tally, .ctl]) (by simp)
  exact .next (.ite (fun _ => .ite (fun _ => h.trans ((leaveHoldup_frame _).mono (by simp))) (fun _ => h)) (fun _ => .refl _ _))
theorem execEndOfStartUp_frame : Changes (execEndOfStartUp s) s rebuildBlocks :=
  .next (.ite (fun _ => (tick_frame s).trans (finishStart_frame _)) (fun _ => .refl _ _))

end Sys2Proof.Machine
end

