-- ==== Sys2Proof/Laws/Store.lean ====
section
/-! SUPPORT. The nonvolatile store: every operation keeps its canonical form; what is read after a write. -/

namespace Sys2Proof.Machine

/-! ## The canonical form is kept -/

theorem storeInsert_keys {n : Nat} {l : StoredLine} {st : Store} {e : Nat × StoredLine} (h : e ∈ storeInsert n l st) :
    e = (n, l) ∨ e ∈ st := by
  induction st with
  | nil => simpa [storeInsert] using h
  | cons x st ih =>
    unfold storeInsert at h
    split at h
    · simpa using h
    · split at h
      · simp only [List.mem_cons] at h ⊢; tauto
      · simp only [List.mem_cons] at h ⊢
        rcases h with h | h
        · exact .inr (.inl h)
        · rcases ih h with k | k
          · exact .inl k
          · exact .inr (.inr k)

theorem storeInsert_rising {n : Nat} {l : StoredLine} {st : Store} (h : (st.map Prod.fst).Pairwise (· < ·)) :
    ((storeInsert n l st).map Prod.fst).Pairwise (· < ·) := by
  induction st with
  | nil => simp [storeInsert]
  | cons x st ih =>
    simp only [List.map_cons, List.pairwise_cons, List.mem_map, forall_exists_index, and_imp, forall_apply_eq_imp_iff₂] at h
    unfold storeInsert
    split
    · rename_i lt
      simp only [List.map_cons, List.pairwise_cons, List.mem_cons, List.mem_map, forall_eq_or_imp]
      refine ⟨⟨lt, ?_⟩, ?_, h.2⟩
      · rintro _ ⟨e, he, rfl⟩; exact lt.trans (h.1 e he)
      · rintro _ ⟨e, he, rfl⟩; exact h.1 e he
    · split
      · rename_i eq
        subst eq
        simp only [List.map_cons, List.pairwise_cons, List.mem_map]
        exact ⟨by rintro _ ⟨e, he, rfl⟩; exact h.1 e he, h.2⟩
      · rename_i nlt ne
        simp only [List.map_cons, List.pairwise_cons, List.mem_map]
        refine ⟨?_, ih h.2⟩
        rintro _ ⟨e, he, rfl⟩
        rcases storeInsert_keys he with k | k
        · subst k; simp only; omega
        · exact h.1 e k

theorem storePut_wf {st : Store} (h : Store.wf st) {n : Nat} (hn : n < Config.lineCount) (l : StoredLine) :
    Store.wf (storePut st n l) := by
  unfold storePut
  split
  · exact ⟨h.1.sublist (List.filter_sublist.map Prod.fst), fun e he => h.2 e (List.mem_filter.1 he).1⟩
  · rename_i ne
    refine ⟨storeInsert_rising h.1, fun e he => ?_⟩
    rcases storeInsert_keys he with k | k
    · subst k; exact ⟨hn, ne⟩
    · exact h.2 e k

theorem decayLine_wf {st : Store} (h : Store.wf st) (d : Nat × Words) : Store.wf (decayLine st d) := by
  unfold decayLine
  split
  · exact storePut_wf h ‹_› _
  · exact h

theorem decayed_wf {st : Store} (h : Store.wf st) (d : Decay) : Store.wf (decayed st d) := by
  induction d generalizing st with
  | nil => exact h
  | cons x d ih => exact ih (decayLine_wf h x)

/-! ## Reading after a write -/

theorem storeInsert_find (st : Store) (n m : Nat) (l : StoredLine) :
    (storeInsert n l st).find? (fun e => e.1 == m) = if m = n then some (n, l) else st.find? (fun e => e.1 == m) := by
  induction st with
  | nil =>
    by_cases h : m = n
    · simp [storeInsert, h]
    · simp [storeInsert, h, Ne.symm h]
  | cons x st ih =>
    unfold storeInsert
    by_cases hm : m = n
    · subst hm
      split
      · simp
      · split
        · simp
        · rename_i ne
          rw [List.find?_cons_of_neg (by simp only [beq_iff_eq]; exact Ne.symm ne), ih, if_pos rfl, if_pos rfl]
    · have hn : (n == m) = false := by simpa using Ne.symm hm
      rw [if_neg hm] at ih ⊢
      split
      · rw [List.find?_cons]; simp only [hn]
      · split
        · rename_i eq
          rw [List.find?_cons, List.find?_cons]; simp only [← eq, hn]
        · rw [List.find?_cons, List.find?_cons, ih]

theorem filter_find (st : Store) (n m : Nat) :
    (st.filter (fun e => e.1 != n)).find? (fun e => e.1 == m) = if m = n then none else st.find? (fun e => e.1 == m) := by
  by_cases hm : m = n
  · subst hm; simp [List.find?_eq_none]
  · rw [if_neg hm, List.find?_filter]
    congr 1; funext e
    by_cases he : e.1 = m
    · simp [he, hm]
    · simp [he]

/-- A line reads as written, and every other line as before. -/
theorem storeGet_storePut (st : Store) (n m : Nat) (l : StoredLine) :
    storeGet (storePut st n l) m = if m = n then l else storeGet st m := by
  have find : (storePut st n l).find? (fun e => e.1 == m) =
      if m = n then (if l = factoryLine n then none else some (n, l)) else st.find? (fun e => e.1 == m) := by
    unfold storePut
    split
    · rw [filter_find]
    · rw [storeInsert_find]
  rw [storeGet, find]
  by_cases hm : m = n
  · subst hm
    by_cases hl : l = factoryLine m <;> simp [hl]
  · rw [if_neg hm, if_neg hm]; rfl

end Sys2Proof.Machine
end

