-- ==== Sys2Proof/Laws/Queue.lean ====
section
/-! SUPPORT. The Write Queue: what queuing and the arbiter do to the lines held, to the records and to the settings. -/

namespace Sys2Proof.Machine

theorem mem_join (q : WriteQueue) (c : WriteClass) (n m : Nat) : m ∈ (q.join c n).lines ↔ m ∈ q.lines ∨ m = n := by
  cases c <;> simp only [WriteQueue.join, WriteQueue.lines, List.mem_append, List.mem_singleton] <;> tauto

theorem mem_without (q : WriteQueue) (n m : Nat) : m ∈ (q.without n).lines ↔ m ∈ q.lines ∧ m ≠ n := by
  simp only [WriteQueue.without, WriteQueue.lines, List.mem_append, List.mem_filter, bne_iff_ne]; tauto

theorem classOf_none (q : WriteQueue) (n : Nat) : q.classOf n = none ↔ n ∉ q.lines := by
  simp only [WriteQueue.classOf, WriteQueue.lines, List.mem_append]
  by_cases h1 : n ∈ q.flush <;> by_cases h2 : n ∈ q.commit <;> by_cases h3 : n ∈ q.checkpoint <;>
    by_cases h4 : n ∈ q.repair <;> simp [h1, h2, h3, h4]

/-- Queuing a line adds it to the queued lines and takes none away. -/
theorem mem_put (q : WriteQueue) (c : WriteClass) (n m : Nat) : m ∈ (q.put c n).lines ↔ m ∈ q.lines ∨ m = n := by
  unfold WriteQueue.put
  split
  · exact mem_join q c n m
  · rename_i d hd
    have hn : n ∈ q.lines := by
      by_contra k; rw [(classOf_none q n).2 k] at hd; exact absurd hd (by simp)
    split
    · rw [mem_join, mem_without]
      by_cases h : m = n <;> simp [h]
    · exact ⟨.inl, fun h => h.elim id fun k => k ▸ hn⟩

/-- The head entry stands before the rest. -/
theorem pop_lines {q rest : WriteQueue} {n : Nat} (h : q.pop = some (n, rest)) : q.lines = n :: rest.lines := by
  rcases q with ⟨_ | ⟨a, f⟩, _ | ⟨b, c⟩, _ | ⟨d, k⟩, _ | ⟨e, r⟩⟩ <;>
    simp only [WriteQueue.pop, Option.some.injEq, Prod.mk.injEq, reduceCtorEq] at h <;>
    obtain ⟨rfl, rfl⟩ := h <;> simp [WriteQueue.lines]

theorem pop_none {q : WriteQueue} (h : q.pop = none) : q.lines = [] := by
  rcases q with ⟨_ | ⟨a, f⟩, _ | ⟨b, c⟩, _ | ⟨d, k⟩, _ | ⟨e, r⟩⟩ <;> simp_all [WriteQueue.pop, WriteQueue.lines]

/-! ## The controller -/

theorem enqueue_sameSettings (x : StoreController) (c n) : x.sameSettings (x.enqueue c n) := by
  unfold StoreController.enqueue
  (repeat' split) <;> simp [StoreController.sameSettings]

theorem enqueue_records (x : StoreController) (c n) : (x.enqueue c n).records = x.records := by
  unfold StoreController.enqueue; (repeat' split) <;> rfl

theorem enqueue_dirty (x : StoreController) (c n) : (x.enqueue c n).dirty = x.dirty := by
  unfold StoreController.enqueue; (repeat' split) <;> rfl

theorem enqueue_holds (x : StoreController) (c : WriteClass) (n m : Nat) :
    (x.enqueue c n).holds m ↔ x.holds m ∨ m = n := by
  unfold StoreController.enqueue StoreController.holds StoreController.flightLine
  split
  · rename_i f hf
    split
    · rename_i hl
      simp only [hf, Option.map_some, Option.some.injEq, hl]
      constructor
      · rintro (h | h)
        · exact .inl (.inl h)
        · exact .inr h.symm
      · rintro ((h | h) | h)
        · exact .inl h
        · exact .inr h
        · exact .inr h.symm
    · simp only [mem_put]; tauto
  · simp only [mem_put]; tauto

theorem StoreController.sameSettings.refl (x : StoreController) : x.sameSettings x := by simp [StoreController.sameSettings]
theorem StoreController.sameSettings.trans {x y z : StoreController} (h : x.sameSettings y) (k : y.sameSettings z) :
    x.sameSettings z := by
  obtain ⟨a1, a2, a3, a4, a5, a6, a7, a8, a9, a10, a11⟩ := h
  obtain ⟨b1, b2, b3, b4, b5, b6, b7, b8, b9, b10, b11⟩ := k
  exact ⟨b1.trans a1, b2.trans a2, b3.trans a3, b4.trans a4, b5.trans a5, b6.trans a6, b7.trans a7, b8.trans a8,
    b9.trans a9, b10.trans a10, b11.trans a11⟩

/-- What queuing lines does to the controller: each line is held, no record and no setting changes. -/
theorem enqueueAll_spec (s : State) (c : WriteClass) (ns : List Nat) :
    (∀ m, (s.enqueueAll c ns).ctl.holds m ↔ s.ctl.holds m ∨ m ∈ ns) ∧
    (s.enqueueAll c ns).ctl.records = s.ctl.records ∧ (s.enqueueAll c ns).ctl.dirty = s.ctl.dirty ∧
    s.ctl.sameSettings (s.enqueueAll c ns).ctl := by
  suffices h : ∀ x : StoreController,
      (∀ m, (ns.foldl (fun x n => x.enqueue c n) x).holds m ↔ x.holds m ∨ m ∈ ns) ∧
      (ns.foldl (fun x n => x.enqueue c n) x).records = x.records ∧
      (ns.foldl (fun x n => x.enqueue c n) x).dirty = x.dirty ∧
      x.sameSettings (ns.foldl (fun x n => x.enqueue c n) x) from h s.ctl
  induction ns with
  | nil => intro x; exact ⟨by simp, rfl, rfl, .refl x⟩
  | cons n ns ih =>
    intro x
    obtain ⟨h1, h2, h3, h4⟩ := ih (x.enqueue c n)
    refine ⟨fun m => ?_, h2.trans (enqueue_records ..), h3.trans (enqueue_dirty ..), (enqueue_sameSettings ..).trans h4⟩
    rw [List.foldl_cons, h1, enqueue_holds, List.mem_cons]; tauto

/-- What the arbiter does in ACTIVE or STARTING: the lines held stay held, records and settings stay. -/
theorem arbitrate_spec (s : State) (h : s.sup.power = .active ∨ s.sup.power = .starting) :
    (∀ m, s.arbitrate.ctl.holds m ↔ s.ctl.holds m) ∧ s.arbitrate.ctl.records = s.ctl.records ∧
    s.ctl.sameSettings s.arbitrate.ctl ∧ s.arbitrate.sup = s.sup ∧ s.arbitrate.tally = s.tally := by
  have same : (∀ m, s.ctl.holds m ↔ s.ctl.holds m) ∧ s.ctl.records = s.ctl.records ∧ s.ctl.sameSettings s.ctl ∧
      s.sup = s.sup ∧ s.tally = s.tally := ⟨fun _ => .rfl, rfl, .refl _, rfl, rfl⟩
  unfold State.arbitrate
  split
  · exact same
  · rename_i nf
    rcases h with h | h <;> simp only [h]
    · split
      · rename_i n rest hp
        refine ⟨fun m => ?_, rfl, by simp [StoreController.sameSettings, State.startWrite], rfl, rfl⟩
        have fl : s.ctl.flight = none := by simpa using nf
        simp only [StoreController.holds, StoreController.flightLine, State.startWrite, pop_lines hp, fl, Option.map_some,
          Option.some.injEq, List.mem_cons, Option.map_none, reduceCtorEq, or_false]
        constructor
        · rintro (h | h)
          · exact .inr h
          · exact .inl h.symm
        · rintro (h | h)
          · exact .inr h.symm
          · exact .inl h
      · exact same
    · simpa using same

/-- Queuing lines in ACTIVE or STARTING: each of them is held, and the rest of the state is kept. -/
theorem queueLines_spec (s : State) (h : s.sup.power = .active ∨ s.sup.power = .starting) (c : WriteClass) (ns : List Nat) :
    (∀ m, (s.queueLines c ns).ctl.holds m ↔ s.ctl.holds m ∨ m ∈ ns) ∧
    (s.queueLines c ns).ctl.records = s.ctl.records ∧ s.ctl.sameSettings (s.queueLines c ns).ctl ∧
    s.sameExcept (s.queueLines c ns) [.ctl] := by
  obtain ⟨e1, e2, _, e4⟩ := enqueueAll_spec s c ns
  have fr := enqueueAll_frame s c ns
  obtain ⟨a1, a2, a3, a4, a5⟩ := arbitrate_spec (s.enqueueAll c ns) (by rw [fr.sup (by simp)]; exact h)
  refine ⟨fun m => (a1 m).trans (e1 m), a2.trans e2, e4.trans a3, fr.trans ?_⟩
  have k := arbitrate_frame (s.enqueueAll c ns)
  obtain ⟨k0, k1, k2, k3, k4, k5, k6, k7, k8, k9, k10, k11, k12, k13, k14, k15, k16, k17⟩ := k
  exact ⟨k0, fun _ => k1 (by simp), fun _ => k2 (by simp), fun _ => k3 (by simp), fun _ => k4 (by simp),
    fun _ => k5 (by simp), fun _ => k6 (by simp), fun _ => k7 (by simp), fun _ => k8 (by simp), fun _ => k9 (by simp),
    fun _ => a5, fun _ => k11 (by simp), fun _ => k12 (by simp), fun _ => k13 (by simp), fun _ => k14 (by simp),
    fun n => absurd (by simp) n, fun _ => a4, fun _ => k17 (by simp)⟩

/-- The deferred record of a request taken in ACTIVE or STARTING (R156). -/
theorem defer_spec (s : State) (h : s.sup.power = .active ∨ s.sup.power = .starting) (tag kind : Byte) (ns : List Nat) :
    (s.defer tag kind ns).ctl.records =
      s.ctl.records ++ [{ id := s.nextId, tag := tag, kind := kind, awaits := ns, silent := false }] ∧
    (∀ m, (s.defer tag kind ns).ctl.holds m ↔ s.ctl.holds m ∨ m ∈ ns) ∧ s.ctl.sameSettings (s.defer tag kind ns).ctl ∧
    s.sameExcept (s.defer tag kind ns) [.nextId, .ctl] := by
  obtain ⟨q1, q2, q3, q4⟩ := queueLines_spec (s.createRecord tag kind ns) h .commit ns
  exact ⟨q2, q1, q3, (createRecord_frame s tag kind ns).trans (q4.mono (by simp))⟩

end Sys2Proof.Machine
end

