-- ==== Sys2Proof/Laws/Link.lean ====
section
/-! SUPPORT. A request that can be taken at once: what serving it comes to. -/

namespace Sys2Proof.Machine

/-- The dormancy timer is all the Supervisor changes after a command (R178). -/
theorem supervise_sup (s : State) : s.supervise.sup = { s.sup with dormancy := s.supervise.sup.dormancy } := rfl

/-- The state in which the executor judges a ready request: the request has left the intake queue. -/
def State.taking (s : State) (d : Timer) : State :=
  { s with link := { s.link with intake := s.link.intake.tail }, sup := { s.sup with dormancy := d } }

/-- A ready request is at the head after it is admitted, and can be taken. -/
theorem ready_admit {s : State} {r : Request} (h : s.ready r) :
    (s.accept r).canTake r = true ∧ ∃ d, (s.accept r).dropHead = s.taking d := by
  obtain ⟨-, pw, hd, fp, rc⟩ := h
  have rc' : r.kind ∉ deferredKinds ∨ s.ctl.records.length < Config.recordPlaces :=
    (Decidable.em _).elim (fun k => .inr (rc k)) .inl
  by_cases k : s.link.intake.head? = some r
  · rw [State.accept, if_pos k]
    exact ⟨by simp [State.canTake, k, fp, rc'], s.sup.dormancy, rfl⟩
  · have e : s.link.intake = [] := hd.resolve_right k
    have w : s.wake = s := by simp [State.wake, pw]
    have a : s.accept r = (s.join r).supervise := by
      simp [State.accept, State.arrive, w, pw, e, Config.intakePlaces]
    have z : (s.join r).supervise.link = { s.link with intake := [r] } := by
      simp [State.supervise, e]
    refine ⟨?_, (s.join r).supervise.sup.dormancy, ?_⟩
    · rw [a, State.canTake, z]
      have f : (s.join r).supervise.freePlaces = s.freePlaces := by
        simp [State.freePlaces, State.supervise, State.reserved]
      have c : (s.join r).supervise.ctl = s.ctl := rfl
      simp [f, c, fp, rc']
    · rw [a]
      simp [State.dropHead, State.taking, State.supervise, e, State.join]

/-- A ready request is taken, judged by its own chapter, and answered (R186). -/
theorem serve_ready {s : State} {r : Request} (h : s.ready r) (m : Meaning) :
    ∃ d, s.serve r m = ((m r.payload (s.taking d)).give r).supervise := by
  obtain ⟨ct, d, hd⟩ := ready_admit h
  refine ⟨d, ?_⟩
  have nst : (s.taking d).startingRefuses r = false := by simp [State.startingRefuses, State.taking, h.2.1]
  rw [State.serve, if_pos h.1, if_pos ct, State.takeHead, hd, State.judge, nst]; simp

/-- A ready unknown request is taken and refused (R186). -/
theorem serveUnknown_ready {s : State} {r : Request} (h : s.ready r) :
    ∃ d, s.serveUnknown r = ((s.taking d).reply (.refused r.tag r.kind .unknownKind)).supervise := by
  obtain ⟨ct, d, hd⟩ := ready_admit h
  refine ⟨d, ?_⟩
  rw [State.serveUnknown, if_pos h.1, if_pos ct, hd]; rfl

end Sys2Proof.Machine
end

