-- ==== Sys2Proof/Laws/Channels.lean ====
section
/-! SUPPORT. What an edge and a stall do to the channels: the observers and the Tally Engine never change one. -/

namespace Sys2Proof.Machine

/-- The episode flag after the overspeed test (R35). -/
def Channel.episodeAfter (c : Channel) : Bool :=
  if c.overspeedBegins then true else if c.overspeedEnds then false else c.episode

theorem overspeedTest_channels (s : State) (i : Fin 10) :
    (s.overspeedTest i).channels = s.channels.set i { s.channels[i] with episode := s.channels[i].episodeAfter } := by
  simp only [State.overspeedTest, Channel.episodeAfter]
  split
  · rename_i h
    have k := (take_frame (s.setChannelRecord i { s.channels[i] with episode := true })
      (.overspeed s.channels[i].cfg.function)).trans ((raise_frame _ .overspeed (.channel (some i))).mono (by simp))
    rw [k.channels (by simp)]; simp
  · split
    · simp
    · exact (Vector.set_getElem_self _).symm

/-- What a channel hands on changes no channel but the episode flag of its own (R34, R35). -/
theorem handOn_channels (s : State) (i : Fin 10) (r : EdgeReport) (b : Bool) :
    (s.handOn i r b).channels =
      if r.update && b then s.channels.set i { s.channels[i] with episode := s.channels[i].episodeAfter } else s.channels := by
  unfold State.handOn
  have h1 : ∀ u : State, (if r.revolution then u.revolution s.channels[i].cfg.function else u).channels = u.channels := by
    intro u; split
    · exact (revolution_frame ..).channels (by simp)
    · rfl
  have h2 : ∀ u : State, (if r.announced then u.announce s.channels[i].cfg.function (some s.channels[i].state) i else u).channels
      = u.channels := by
    intro u; split
    · exact (announce_frame ..).channels (by simp)
    · rfl
  have h3 : ∀ u : State, (if r.noisy then u.raise .sensorFault (.channel (some i)) else u).channels = u.channels := by
    intro u; split
    · exact (raise_frame ..).channels (by simp)
    · rfl
  dsimp only
  split
  · rw [overspeedTest_channels, (speedUpdate_frame ..).channels (by simp), h3, h2, h1]
  · rw [h3, h2, h1]

/-- The channels after an active edge on an enabled channel. -/
theorem takeEdge_channels (s : State) (i : Fin 10) :
    (s.takeEdge i).channels =
      s.channels.set i (let r := s.channels[i].edge s.now
        if r.2.update && decide (s.sup.power ≠ .dormant) then { r.1 with episode := r.1.episodeAfter } else r.1) := by
  have hw := wake_frame s
  have hc : s.wake.channels = s.channels := hw.channels (by simp)
  have hn : s.wake.now = s.now := hw.now (by simp)
  simp only [State.takeEdge]
  rw [(supervise_frame _).channels (by simp), handOn_channels]
  simp only [setChannelRecord_channels, hc, hn]
  split <;> simp

/-- The channels after a stall. -/
theorem takeStall_channels (s : State) (i : Fin 10) : (s.takeStall i).channels = s.channels.set i s.channels[i].stall := by
  simp only [State.takeStall]
  rw [(supervise_frame _).channels (by simp)]
  split
  · rw [(announce_frame ..).channels (by simp)]; rfl
  · rfl

/-- An active edge on an enabled channel outside STARTING is taken after its wait. -/
theorem edge_run (s : State) (i : Fin 10) (rising : Bool) (wait : Nat) (hl : s.live = true) (hp : s.sup.power ≠ .starting)
    (hs : s.channels[i].state ≠ .disabled) (hr : s.channels[i].cfg.edgeMode.isActive rising = true) :
    exec (.activeEdge i rising wait) s = .next ((s.pass wait).takeEdge i) := by
  simp only [exec, execActiveEdge]
  have h1 : (s.pass wait).live = true := hl
  have h2 : (s.pass wait).channels[i].cfg.edgeMode.isActive rising = true := hr
  have h3 : (s.pass wait).channels[i].state ≠ .disabled := hs
  have h4 : (s.pass wait).sup.power ≠ .starting := hp
  rw [h1, h2, decide_eq_true h3, decide_eq_true h4]; rfl

/-- The parts an edge can change. -/
theorem edge_frame (s : State) (i : Fin 10) (wait) : s.sameExcept ((s.pass wait).takeEdge i) [.time, .channels, .run, .driveline, .tally, .table, .fitment, .book, .ctl, .sup, .link] :=
  .trans ((pass_frame s wait).mono (by simp)) ((takeEdge_frame ..).mono (by simp [edgeBlocks]))

/-- Time after an edge. -/
theorem edge_now (s : State) (i : Fin 10) (wait) : ((s.pass wait).takeEdge i).now = s.now + wait := by
  have := (takeEdge_frame (s.pass wait) i).now (by simp [edgeBlocks])
  rw [this]; rfl

/-- The channel of an edge after it, from what the edge makes of the channel. -/
theorem edge_self (s : State) (i : Fin 10) (wait) (r : Channel × EdgeReport) (h : s.channels[i].edge (s.now + wait) = r) :
    ((s.pass wait).takeEdge i).channels[i] =
      if r.2.update = true ∧ s.sup.power ≠ .dormant then { r.1 with episode := r.1.episodeAfter } else r.1 := by
  subst h
  simp only [takeEdge_channels, Fin.getElem_fin, Vector.getElem_set_self]
  have hd : decide ((s.pass wait).sup.power ≠ .dormant) = decide (s.sup.power ≠ .dormant) := rfl
  rw [hd]
  simp only [State.pass, Bool.and_eq_true]
  by_cases h : s.sup.power = .dormant <;> simp [h]

/-- The other channels after an edge. -/
theorem edge_other (s : State) (i j : Fin 10) (wait) (h : j ≠ i) : ((s.pass wait).takeEdge i).channels[j] = s.channels[j] := by
  simp only [takeEdge_channels, Fin.getElem_fin]
  rw [Vector.getElem_set_ne _ _ (fun e => h (Fin.ext e.symm))]; rfl

/-- The tick of a base. -/
theorem tick_eq (c : Channel) : c.cfg.timeBase.ticks = if c.cfg.timeBase = .fine then 1 else 64 := by
  cases h : c.cfg.timeBase <;> rfl

/-- A period in ticks. -/
theorem period_eq (c : Channel) (a b) : c.period a b = min 65535 ((b - a) / (if c.cfg.timeBase = .fine then 1 else 64)) := by
  rw [Channel.period, tick_eq]; rfl

end Sys2Proof.Machine
end

