-- ==== Sys2Proof/Laws/Routed.lean ====
section
/-! SUPPORT. What the routing of quanta does (`State.routed`): the one lemma `routeAll_routed` for every command that counts. -/

namespace Sys2Proof.Machine

variable (s : State)

/-! ## The thresholds -/

/-- The service threshold after its test, if it watches q (R91). -/
def serviceFor (x : Tally) (q : Quantity) (l : Service × Life) : Service × Life :=
  ({ l.1 with armed := l.1.armed && !(decide (l.1.quantity = some q) && decide (l.1.due ≤ (x.value q).getD 0)) }, l.2)

/-- The life limit after its test, if it watches q (R93). -/
def lifeFor (x : Tally) (q : Quantity) (l : Service × Life) : Service × Life :=
  (l.1, { l.2 with overLife := l.2.overLife || (decide (0 < l.2.limit) && decide (l.2.quantity = q) &&
      decide (l.2.limit ≤ (x.value q).getD 0)) })

/-- A slot whose thresholds have changed. -/
def Slot.withLimits (x : Slot) (f : Service × Life → Service × Life) : Slot :=
  { x with ident := { x.ident with limits := x.ident.limits.map f } }

theorem withLimits_id {x : Slot} {f : Service × Life → Service × Life} (h : ∀ l, x.ident.limits = some l → f l = l) :
    x.withLimits f = x := by
  have e : x.ident.limits.map f = x.ident.limits := by
    cases k : x.ident.limits with
    | none => rfl
    | some l => simp [h l k]
  unfold Slot.withLimits
  rw [e]

theorem testService_table (i : Fin 20) (q : Quantity) (h : s.table.slots[i].serviceQuantity = some q) :
    (s.testService i).table = { s.table with
      slots := s.table.slots.set i (s.table.slots[i].withLimits (serviceFor s.table.slots[i].tally q)) } := by
  unfold Slot.serviceQuantity at h
  unfold State.testService
  rcases k : s.table.slots[i].ident.limits with _ | ⟨⟨sq, due, armed⟩, lf⟩
  · rw [k] at h; exact absurd h (by simp)
  · rw [k] at h
    obtain rfl : sq = some q := h
    have k' : s.table.slots[i.val].ident.limits = some (⟨some q, due, armed⟩, lf) := k
    simp only [k]
    split
    · rename_i c
      simp only [Bool.and_eq_true, decide_eq_true_eq, Fin.getElem_fin] at c
      rw [(raise_frame ..).table (by simp)]
      simp [Slot.withLimits, serviceFor, k', c]
    · rename_i c
      simp only [Bool.and_eq_true, decide_eq_true_eq, Fin.getElem_fin, not_and] at c
      rw [withLimits_id]
      · simp
      · intro l e
        rw [k] at e; cases e
        cases armed <;> simp_all [serviceFor]

theorem testLife_table (i : Fin 20) (q : Quantity) (h : s.table.slots[i].lifeQuantity = some q) :
    (s.testLife i).table = { s.table with
      slots := s.table.slots.set i (s.table.slots[i].withLimits (lifeFor s.table.slots[i].tally q)) } := by
  unfold Slot.lifeQuantity at h
  unfold State.testLife
  rcases k : s.table.slots[i].ident.limits with _ | ⟨sv, ⟨lq, limit, past⟩⟩
  · rw [k] at h; exact absurd h (by simp)
  · rw [k] at h
    obtain rfl : lq = q := by simpa using h
    have k' : s.table.slots[i.val].ident.limits = some (sv, ⟨lq, limit, past⟩) := k
    simp only [k]
    split
    · rename_i c
      simp only [Bool.and_eq_true, decide_eq_true_eq, Fin.getElem_fin, Bool.not_eq_true'] at c
      rw [(raise_frame ..).table (by simp)]
      simp [Slot.withLimits, lifeFor, k', c]
    · rename_i c
      simp only [Bool.and_eq_true, decide_eq_true_eq, Fin.getElem_fin, Bool.not_eq_true', not_and] at c
      rw [withLimits_id]
      · simp
      · intro l e
        rw [k] at e; cases e
        cases past <;> simp_all [lifeFor]

/-- The thresholds of a slot after the tests of those that watch q. -/
def testedFor (x : Tally) (q : Quantity) (l : Service × Life) : Service × Life := lifeFor x q (serviceFor x q l)

theorem withLimits_congr {x : Slot} {f g : Service × Life → Service × Life} (h : ∀ l, x.ident.limits = some l → f l = g l) :
    x.withLimits f = x.withLimits g := by
  have e : x.ident.limits.map f = x.ident.limits.map g := by
    cases k : x.ident.limits with
    | none => rfl
    | some l => simp [h l k]
  unfold Slot.withLimits
  rw [e]

theorem withLimits_withLimits (x : Slot) (f g : Service × Life → Service × Life) :
    (x.withLimits f).withLimits g = x.withLimits fun l => g (f l) := by
  simp [Slot.withLimits, Function.comp_def]

theorem testThresholds_table (i : Fin 20) (q : Quantity) : (s.testThresholds (.slot i) q).table = { s.table with
    slots := s.table.slots.set i (s.table.slots[i].withLimits (testedFor s.table.slots[i].tally q)) } := by
  have service : ((if s.table.slots[i].serviceQuantity = some q then s.testService i else s) : State).table = { s.table with
      slots := s.table.slots.set i (s.table.slots[i].withLimits (serviceFor s.table.slots[i].tally q)) } := by
    split
    · exact testService_table s i q ‹_›
    · rename_i c
      rw [withLimits_id]
      · simp
      · intro l e
        simp only [Slot.serviceQuantity, e, Option.bind_some] at c
        simp [serviceFor, c]
  simp only [State.testThresholds]
  generalize (if s.table.slots[i].serviceQuantity = some q then s.testService i else s) = u at *
  have slot : u.table.slots[i] = s.table.slots[i].withLimits (serviceFor s.table.slots[i].tally q) := by simp [service]
  split
  · rw [testLife_table u i q ‹_›, slot, service, withLimits_withLimits]
    simp only [Slot.withLimits, Fin.getElem_fin, Vector.set_set]
    rfl
  · rename_i c
    rw [service, withLimits_congr]
    intro l e
    have : l.2.quantity ≠ q := by
      rw [slot] at c
      simp only [Slot.lifeQuantity, Slot.withLimits, e, serviceFor, Option.map_some] at c
      exact fun k => c (by rw [k])
    simp [testedFor, lifeFor, serviceFor, this]

/-! ## The values -/

theorem scalarAdd_quantity (x : Scalar) (n : Nat) : (x.add n).quantity = x.quantity := by
  unfold Scalar.add; split <;> rfl

/-- The scalar of a quantity after an addition. -/
theorem find_add (xs : List Scalar) (q r : Quantity) (n : Nat) :
    (xs.map fun x => if x.quantity = q then x.add n else x).find? (fun x => decide (x.quantity = r)) =
      (xs.find? fun x => decide (x.quantity = r)).map fun x => if r = q then x.add n else x := by
  induction xs with
  | nil => rfl
  | cons x xs ih =>
    have e : (if x.quantity = q then x.add n else x).quantity = x.quantity := by
      split
      · exact scalarAdd_quantity ..
      · rfl
    rw [List.map_cons, List.find?_cons, e, List.find?_cons]
    by_cases k : x.quantity = r
    · simp [k]
    · simp [k, ih]

theorem add_value_other (x : Tally) (q : Quantity) (e n : Nat) {r : Quantity} (h : r ≠ q) : (x.add q e n).value r = x.value r := by
  simp only [Tally.value, Tally.add, find_add, h, if_false, Option.map_id']

theorem add_value (x : Tally) (q : Quantity) (e n : Nat) :
    (x.add q e n).value q = (x.value q).map fun v => min Config.maxTally (v + n) := by
  simp only [Tally.value, Tally.add, find_add, if_true]
  cases (x.scalars.find? fun y => decide (y.quantity = q)) with
  | none => rfl
  | some y => cases k : y.value <;> simp [Scalar.add, k]

/-- A value after additions: as it was, or larger and within the maximum, or brought down to the maximum. -/
def valueGrows (v w : Option Nat) : Prop :=
  v = w ∨ ∃ a b, v = some a ∧ w = some b ∧ (a < b ∧ b ≤ Config.maxTally ∨ Config.maxTally < a ∧ b = Config.maxTally)

theorem valueGrows.trans {u v w : Option Nat} (h : valueGrows u v) (k : valueGrows v w) : valueGrows u w := by
  rcases h with rfl | ⟨a, b, rfl, rfl, h⟩
  · exact k
  · rcases k with rfl | ⟨c, d, e, rfl, k⟩
    · exact .inr ⟨a, b, rfl, rfl, h⟩
    · cases e; exact .inr ⟨a, d, rfl, rfl, by omega⟩

theorem add_grows (x : Tally) (q : Quantity) (e : Nat) {n : Nat} (h : n ≠ 0) (r : Quantity) :
    valueGrows (x.value r) ((x.add q e n).value r) := by
  by_cases k : r = q
  · subst k
    rw [add_value]
    cases k : x.value r with
    | none => exact .inl rfl
    | some v =>
      by_cases c : v = Config.maxTally
      · subst c; exact .inl (by simp)
      · refine .inr ⟨v, min Config.maxTally (v + n), rfl, rfl, ?_⟩
        omega
  · exact .inl (add_value_other x q e n k).symm

theorem borne_grows (p : Position) (xs : List Quantum) (x : Tally) (r : Quantity) : valueGrows (x.value r) ((borne p xs x).value r) := by
  induction xs generalizing x with
  | nil => exact .inl rfl
  | cons y xs ih =>
    simp only [borne, List.foldl_cons]
    split
    · rename_i c; exact (add_grows x _ _ c.2 r).trans (ih _)
    · exact ih _

theorem changedLimits_some (x y : Tally) (r lq : Quantity) (due limit : Nat) (armed past : Bool) :
    changedLimits x y (⟨some r, due, armed⟩, ⟨lq, limit, past⟩) =
      (⟨some r, due, armed && decide (y.value r = x.value r ∨ (y.value r).getD 0 < due)⟩,
       ⟨lq, limit, past || decide (0 < limit ∧ y.value lq ≠ x.value lq ∧ limit ≤ (y.value lq).getD 0)⟩) := rfl

theorem changedLimits_none (x y : Tally) (lq : Quantity) (due limit : Nat) (armed past : Bool) :
    changedLimits x y (⟨none, due, armed⟩, ⟨lq, limit, past⟩) =
      (⟨none, due, armed⟩, ⟨lq, limit, past || decide (0 < limit ∧ y.value lq ≠ x.value lq ∧ limit ≤ (y.value lq).getD 0)⟩) := by
  simp [changedLimits]

/-- The tests after one addition and after the next ones are the tests after all of them (R91, R93). -/
theorem changedLimits_trans {x y z : Tally} (h : ∀ r, valueGrows (x.value r) (y.value r)) (k : ∀ r, valueGrows (y.value r) (z.value r))
    (l : Service × Life) : changedLimits y z (changedLimits x y l) = changedLimits x z l := by
  obtain ⟨⟨sq, due, armed⟩, ⟨lq, limit, past⟩⟩ := l
  have key : ∀ r d, ((y.value r = x.value r ∨ (y.value r).getD 0 < d) ∧ (z.value r = y.value r ∨ (z.value r).getD 0 < d)) ↔
      (z.value r = x.value r ∨ (z.value r).getD 0 < d) := by
    intro r d
    have h := h r; have k := k r
    generalize x.value r = a at *; generalize y.value r = b at *; generalize z.value r = c at *
    rcases h with rfl | ⟨a, b, rfl, rfl, h⟩
    · simp
    · rcases k with rfl | ⟨c, d, e, rfl, k⟩
      · simp
      · cases e; simp; omega
  have life : (past || decide (0 < limit ∧ y.value lq ≠ x.value lq ∧ limit ≤ (y.value lq).getD 0) ||
      decide (0 < limit ∧ z.value lq ≠ y.value lq ∧ limit ≤ (z.value lq).getD 0)) =
      (past || decide (0 < limit ∧ z.value lq ≠ x.value lq ∧ limit ≤ (z.value lq).getD 0)) := by
    have n := not_congr (key lq limit)
    simp only [not_and_or, not_or, Nat.not_lt] at n
    rw [Bool.eq_iff_iff]
    simp only [Bool.or_eq_true, decide_eq_true_eq, or_assoc]
    tauto
  cases sq with
  | none => rw [changedLimits_none, changedLimits_none, changedLimits_none, life]
  | some r =>
    have service : (armed && decide (y.value r = x.value r ∨ (y.value r).getD 0 < due) &&
        decide (z.value r = y.value r ∨ (z.value r).getD 0 < due)) =
        (armed && decide (z.value r = x.value r ∨ (z.value r).getD 0 < due)) := by
      rw [Bool.eq_iff_iff]
      simp only [Bool.and_eq_true, decide_eq_true_eq, and_assoc, key]
    rw [changedLimits_some, changedLimits_some, changedLimits_some, life, service]

/-! ## One quantum -/

/-- The tests after the addition of one quantum to a slot (R79 step 4). -/
theorem testedFor_add (x : Tally) (q : Quantity) (e n : Nat) (h : (x.add q e n).value q ≠ x.value q) (l : Service × Life) :
    testedFor (x.add q e n) q l = changedLimits x (x.add q e n) l := by
  obtain ⟨⟨sq, due, armed⟩, ⟨lq, limit, past⟩⟩ := l
  have life : (decide (0 < limit) && decide (lq = q) && decide (limit ≤ ((x.add q e n).value q).getD 0)) =
      decide (0 < limit ∧ (x.add q e n).value lq ≠ x.value lq ∧ limit ≤ ((x.add q e n).value lq).getD 0) := by
    rw [Bool.eq_iff_iff]
    by_cases k : lq = q
    · subst k; simp [h]
    · simp [k, add_value_other x q e n k]
  cases sq with
  | none => rw [changedLimits_none, ← life]; simp [testedFor, lifeFor, serviceFor]
  | some r =>
    have service : (!(decide (some r = some q) && decide (due ≤ ((x.add q e n).value q).getD 0))) =
        decide ((x.add q e n).value r = x.value r ∨ ((x.add q e n).value r).getD 0 < due) := by
      rw [Bool.eq_iff_iff]
      by_cases k : r = q
      · subst k; simp [h]
      · simp [k, add_value_other x q e n k]
    rw [changedLimits_some, ← life, ← service]; rfl

theorem changedLimits_same {x y : Tally} (h : ∀ r, y.value r = x.value r) (l : Service × Life) : changedLimits x y l = l := by
  obtain ⟨⟨sq, due, armed⟩, ⟨lq, limit, past⟩⟩ := l
  cases sq with
  | none => rw [changedLimits_none]; simp [h]
  | some r => rw [changedLimits_some]; simp [h]

/-- A slot with new tallies, its thresholds tested. -/
def Slot.bearing (x : Slot) (new : Tally) : Slot := Slot.withLimits { x with tally := new } (changedLimits x.tally new)

/-- The book with one increment of the open record increased. -/
def Book.bearing (b : Book) (p : Position) (q : Quantity) (n : Nat) : Book :=
  { b with places := b.places.set b.openPlace (b.places[b.openPlace].add p q n) }

theorem addPeriod_book (p : Position) (q : Quantity) (n : Nat) : (s.addPeriod p q n).book = s.book.bearing p q n := by
  unfold State.addPeriod
  exact (markIf_frame ..).book (by simp)

/-- A delivery before the tests of step 4 (u): the holder has taken the quantum, the open record too if it is scalar; the tests are
made where the value changed (R79). -/
theorem deliver_steps (x : Quantum) :
    let h := s.holder x.position
    let old := s.tallyOf x.position h
    let new := old.add x.quantity x.entry x.amount
    ∃ u : State, (s.setTally x.position h new).sameExcept u [.book, .ctl, .link] ∧
      u.book = (if x.quantity.isHist then s.book else s.book.bearing x.position x.quantity x.amount) ∧
      (new.value x.quantity = old.value x.quantity → s.deliver x = u) ∧
      (new.value x.quantity ≠ old.value x.quantity → s.deliver x = u.testThresholds h x.quantity) := by
  intro h old new
  refine ⟨_, ?_, ?_, fun e => if_pos e, fun e => if_neg e⟩
  · refine .trans (.trans ?_ ((raiseSaturated_frame ..).mono (by simp))) ((raiseSaturated_frame ..).mono (by simp))
    exact .ite (fun _ => .refl _ _) fun _ => (addPeriod_frame ..).mono (by simp)
  · rw [(raiseSaturated_frame ..).book (by simp), (raiseSaturated_frame ..).book (by simp)]
    have e : (s.setTally x.position h new).book = s.book := (setTally_frame ..).book (by simp)
    split
    · exact e
    · exact (addPeriod_book ..).trans (by rw [e])

/-- What a delivery leaves in the Period Book (R11). -/
theorem deliver_book (x : Quantum) : (s.deliver x).book =
    if x.quantity.isHist then s.book else s.book.bearing x.position x.quantity x.amount := by
  obtain ⟨u, -, k, same, other⟩ := deliver_steps s x
  rw [← k]
  by_cases c : ((s.tallyOf x.position (s.holder x.position)).add x.quantity x.entry x.amount).value x.quantity =
      (s.tallyOf x.position (s.holder x.position)).value x.quantity
  · rw [same c]
  · rw [other c, (testThresholds_frame ..).book (by simp)]

/-- What a delivery leaves in the table, the orphan tallies and the fitment, where its holder is no slot. -/
theorem deliver_noSlot (x : Quantum) (h : ∀ i, s.holder x.position ≠ .slot i) :
    (s.deliver x).table = (s.setTally x.position (s.holder x.position)
      ((s.tallyOf x.position (s.holder x.position)).add x.quantity x.entry x.amount)).table := by
  obtain ⟨u, f, -, same, other⟩ := deliver_steps s x
  have e : ∀ q, u.testThresholds (s.holder x.position) q = u := by
    intro q
    cases k : s.holder x.position with
    | slot i => exact absurd k (h i)
    | interim => rfl
    | orphan => rfl
  rw [← f.table (by simp)]
  by_cases c : ((s.tallyOf x.position (s.holder x.position)).add x.quantity x.entry x.amount).value x.quantity =
      (s.tallyOf x.position (s.holder x.position)).value x.quantity
  · rw [same c]
  · rw [other c, e]

/-- What a delivery leaves in the orphan tallies and the fitment. -/
theorem deliver_others (x : Quantum) :
    let t := s.setTally x.position (s.holder x.position)
      ((s.tallyOf x.position (s.holder x.position)).add x.quantity x.entry x.amount)
    (s.deliver x).tally = t.tally ∧ (s.deliver x).fitment = t.fitment := by
  intro t
  obtain ⟨u, f, -, same, other⟩ := deliver_steps s x
  rw [← f.tally (by simp), ← f.fitment (by simp)]
  by_cases c : ((s.tallyOf x.position (s.holder x.position)).add x.quantity x.entry x.amount).value x.quantity =
      (s.tallyOf x.position (s.holder x.position)).value x.quantity
  · rw [same c]; exact ⟨rfl, rfl⟩
  · rw [other c, (testThresholds_frame ..).tally (by simp), (testThresholds_frame ..).fitment (by simp)]; exact ⟨rfl, rfl⟩

theorem setTally_slot_table (p : Position) (i : Fin 20) (t : Tally) : (s.setTally p (.slot i) t).table =
    { s.table with slots := s.table.slots.set i { s.table.slots[i] with tally := t } } := by
  simp only [State.setTally]
  rw [(markIf_frame ..).table (by simp), (markIf_frame ..).table (by simp)]
  rfl

/-- What a delivery leaves in the table, where its holder is a slot. -/
theorem deliver_slot (x : Quantum) (i : Fin 20) (h : s.holder x.position = .slot i) : (s.deliver x).table =
    { s.table with
      slots := s.table.slots.set i (s.table.slots[i].bearing (s.table.slots[i].tally.add x.quantity x.entry x.amount)) } := by
  obtain ⟨u, f, -, same, other⟩ := deliver_steps s x
  rw [h] at f same other
  let new : Slot := { s.table.slots[i] with tally := s.table.slots[i].tally.add x.quantity x.entry x.amount }
  have k : u.table = { s.table with slots := s.table.slots.set i new } := (f.table (by simp)).trans (setTally_slot_table ..)
  have slot : u.table.slots[i] = new := by simp [k]
  by_cases c : (s.table.slots[i].tally.add x.quantity x.entry x.amount).value x.quantity = s.table.slots[i].tally.value x.quantity
  · rw [same c, k, Slot.bearing, withLimits_id]
    intro l _
    refine changedLimits_same (fun r => ?_) l
    by_cases d : r = x.quantity
    · rw [d]; exact c
    · exact add_value_other _ _ _ _ d
  · rw [other c, testThresholds_table, slot, k, Slot.bearing, withLimits_congr (g := changedLimits s.table.slots[i].tally
      (s.table.slots[i].tally.add x.quantity x.entry x.amount))]
    · simp only [Fin.getElem_fin, Vector.set_set]
      rfl
    · intro l _; exact testedFor_add _ _ _ _ c l

/-! ## Every quantum keeps the holders -/

theorem holder_congr {s t : State} (map : t.table.map = s.table.map)
    (state : ∀ i : Fin 20, t.table.slots[i].ident.state = s.table.slots[i].ident.state)
    (fit : t.fitment.map (·.position) = s.fitment.map (·.position)) (p : Position) : t.holder p = s.holder p := by
  have e : t.unheldHolder p = s.unheldHolder p := by
    unfold State.unheldHolder
    simp only [map, state]
  unfold State.holder
  rw [e]
  cases a : s.fitment <;> cases b : t.fitment <;> simp_all

theorem withLimits_state (x : Slot) (f : Service × Life → Service × Life) : (x.withLimits f).ident.state = x.ident.state := rfl

theorem setSlots_state {v : Vector Slot 20} {i : Fin 20} {x : Slot} (h : x.ident.state = v[i].ident.state) (j : Fin 20) :
    (v.set i x)[j].ident.state = v[j].ident.state := by
  by_cases e : i = j
  · subst e; simpa using h
  · simp [Fin.val_ne_of_ne e]

theorem deliver_state (x : Quantum) (j : Fin 20) : (s.deliver x).table.slots[j].ident.state = s.table.slots[j].ident.state := by
  cases h : s.holder x.position with
  | slot i => rw [deliver_slot s x i h]; refine setSlots_state (i := i) ?_ j; rfl
  | interim => rw [deliver_noSlot s x (by simp [h]), h]; rfl
  | orphan => rw [deliver_noSlot s x (by simp [h]), h]; exact congrArg (fun a => a.slots[j].ident.state) ((markIf_frame ..).table (by simp))

theorem deliver_map (x : Quantum) : (s.deliver x).table.map = s.table.map := by
  cases h : s.holder x.position with
  | slot i => rw [deliver_slot s x i h]
  | interim => rw [deliver_noSlot s x (by simp [h]), h]; rfl
  | orphan => rw [deliver_noSlot s x (by simp [h]), h]; exact congrArg (·.map) ((markIf_frame ..).table (by simp))

/-- The fitment after a delivery: the interim accumulator may have taken the quantum. -/
theorem deliver_fitment (x : Quantum) : (s.deliver x).fitment = if s.holder x.position = .interim then
    s.fitment.map fun c => { c with interim := c.interim.add x.quantity x.entry x.amount } else s.fitment := by
  rw [(deliver_others s x).2]
  cases h : s.holder x.position with
  | slot i =>
    simp only [State.setTally]
    rw [(markIf_frame ..).fitment (by simp), (markIf_frame ..).fitment (by simp)]; rfl
  | interim =>
    cases e : s.fitment <;> simp [State.setTally, State.tallyOf, e]
  | orphan =>
    simp only [State.setTally]
    rw [(markIf_frame ..).fitment (by simp)]; rfl

/-- The Tally Engine after a delivery: an orphan tally may have taken the quantum. -/
theorem deliver_tally (x : Quantum) : (s.deliver x).tally = if s.holder x.position = .orphan then
    { s.tally with
      orphans := s.tally.orphans.set x.position.index (s.tally.orphans[x.position.index].add x.quantity x.entry x.amount) }
    else s.tally := by
  rw [(deliver_others s x).1]
  cases h : s.holder x.position with
  | slot i =>
    simp only [State.setTally]
    rw [(markIf_frame ..).tally (by simp), (markIf_frame ..).tally (by simp)]; rfl
  | interim => rfl
  | orphan =>
    simp only [State.setTally]
    rw [(markIf_frame ..).tally (by simp)]; rfl

/-- The table after a delivery: a slot may have taken the quantum. -/
theorem deliver_table (x : Quantum) (h : ∀ i, s.holder x.position ≠ .slot i) : (s.deliver x).table = s.table := by
  rw [deliver_noSlot s x h]
  cases k : s.holder x.position with
  | slot i => exact absurd k (h i)
  | interim => rfl
  | orphan => exact (markIf_frame ..).table (by simp)

theorem deliver_holder (x : Quantum) (p : Position) : (s.deliver x).holder p = s.holder p := by
  refine holder_congr (deliver_map s x) (deliver_state s x) ?_ p
  rw [deliver_fitment]
  split
  · cases s.fitment <;> rfl
  · rfl

/-! ## Quanta, one after another -/

theorem borne_other {p : Position} {x : Quantum} (h : x.position ≠ p) (t : Tally) : borne p [x] t = t := by simp [borne, h]
theorem borne_own {p : Position} {x : Quantum} (h : x.position = p) (n : x.amount ≠ 0) (t : Tally) :
    borne p [x] t = t.add x.quantity x.entry x.amount := by simp [borne, h, n]
theorem borne_append (p : Position) (xs ys : List Quantum) (t : Tally) : borne p (xs ++ ys) t = borne p ys (borne p xs t) := by
  simp [borne]
theorem recorded_append (xs ys : List Quantum) (x : Place) : recorded (xs ++ ys) x = recorded ys (recorded xs x) := by simp [recorded]
theorem recorded_lines {x y : Place} (h : x.lines = y.lines) (xs : List Quantum) : (recorded xs x).lines = (recorded xs y).lines := by
  induction xs generalizing x y with
  | nil => exact h
  | cons a xs ih =>
    simp only [recorded, List.foldl_cons]
    split
    · exact ih (by simp [Place.add, h])
    · exact ih h

/-- Quanta routed one list after the other, the holders being the same. -/
theorem State.routed.trans {s u t : State} {xs ys : List Quantum} (h : s.routed u xs) (k : u.routed t ys)
    (same : ∀ p, u.holder p = s.holder p) : s.routed t (xs ++ ys) := by
  obtain ⟨h1, h2, h3, h4, h5, h6, h7, h8, h9, h10⟩ := h
  obtain ⟨k1, k2, k3, k4, k5, k6, k7, k8, k9, k10⟩ := k
  have page : u.book.openPlace = s.book.openPlace := by simp [Book.openPlace, h9]
  refine ⟨fun p own => ?_, fun p n => ?_, fun i n => ?_, k4.trans h4, ?_, ?_, fun pl n => ?_, k8.trans h8, k9.trans h9, k10.trans h10⟩
  · obtain ⟨ha, hb⟩ := h1 p own
    obtain ⟨ka, kb⟩ := k1 p (by intro q e; rw [same, same] at *; simpa [same] using own q (by simpa [same] using e))
    rw [same] at ka
    refine ⟨by rw [ka, ha, borne_append], fun i e => ?_⟩
    have ha' : u.table.slots[i].tally = borne p xs s.table.slots[i].tally := by rw [e] at ha; exact ha
    have ka' : t.table.slots[i].tally = borne p ys u.table.slots[i].tally := by rw [e] at ka; exact ka
    have hb := hb i e
    rw [kb i (by rw [same, e]), hb]
    have l : ∀ o : Option (Service × Life), (o.map (changedLimits s.table.slots[i].tally u.table.slots[i].tally)).map
        (changedLimits u.table.slots[i].tally t.table.slots[i].tally) =
        o.map (changedLimits s.table.slots[i].tally t.table.slots[i].tally) := by
      intro o
      cases o with
      | none => rfl
      | some l =>
        refine congrArg some (changedLimits_trans (fun r => ?_) (fun r => ?_) l)
        · rw [ha']; exact borne_grows ..
        · rw [ka']; exact borne_grows ..
    simp only [l]
  · rw [k2 p (by rwa [same]), h2 p n]
  · rw [k3 i (fun p => by rw [same]; exact n p), h3 i n]
  · rw [k5, h5]
    cases s.fitment <;> rfl
  · simp only [page] at k6
    rw [k6, recorded_append]
    exact recorded_lines h6 ys
  · rw [k7 pl (by rwa [page]), h7 pl n]

theorem index_ne {p q : Position} (h : p ≠ q) : p.index.val ≠ q.index.val := by
  revert h; cases p <;> cases q <;> decide

/-- A delivery to a position leaves the holders of the others as they were. -/
theorem deliver_tallyOf_other (x : Quantum) (p : Position) (e : x.position ≠ p) (own : s.ownHolder p) :
    (s.deliver x).tallyOf p (s.holder p) = s.tallyOf p (s.holder p) ∧
    ∀ i : Fin 20, s.holder p = .slot i → (s.deliver x).table.slots[i] = s.table.slots[i] := by
  have other : s.holder x.position = s.holder p → s.holder p = .orphan := fun h => (own _ h).resolve_left e
  have slots : ∀ i : Fin 20, s.holder p = .slot i → (s.deliver x).table.slots[i] = s.table.slots[i] := by
    intro i k
    cases h : s.holder x.position with
    | slot j =>
      rw [deliver_slot s x j h]
      have : j ≠ i := by rintro rfl; exact absurd (other (h.trans k.symm)) (by simp [k])
      simp [Fin.val_ne_of_ne this]
    | interim => rw [deliver_table s x (by simp [h])]
    | orphan => rw [deliver_table s x (by simp [h])]
  refine ⟨?_, slots⟩
  cases k : s.holder p with
  | slot i => exact congrArg Slot.tally (slots i k)
  | interim =>
    have : s.holder x.position ≠ .interim := fun h => absurd (other (h.trans k.symm)) (by simp [k])
    simp only [State.tallyOf, deliver_fitment, this, if_false]
  | orphan =>
    simp only [State.tallyOf, deliver_tally]
    split
    · simp [index_ne e]
    · rfl

/-- A delivery to a position: its holder has taken the quantum, and a slot's thresholds have been tested. -/
theorem deliver_tallyOf_own (x : Quantum) :
    (s.deliver x).tallyOf x.position (s.holder x.position) =
      (s.tallyOf x.position (s.holder x.position)).add x.quantity x.entry x.amount ∧
    ∀ i : Fin 20, s.holder x.position = .slot i → (s.deliver x).table.slots[i] =
      s.table.slots[i].bearing (s.table.slots[i].tally.add x.quantity x.entry x.amount) := by
  have slots : ∀ i : Fin 20, s.holder x.position = .slot i → (s.deliver x).table.slots[i] =
      s.table.slots[i].bearing (s.table.slots[i].tally.add x.quantity x.entry x.amount) := by
    intro i h; rw [deliver_slot s x i h]; simp
  refine ⟨?_, slots⟩
  cases h : s.holder x.position with
  | slot i => exact congrArg Slot.tally (slots i h)
  | interim =>
    have : s.fitment ≠ none := by
      intro e
      simp only [State.holder, e, State.unheldHolder] at h
      (repeat' split at h) <;> simp at h
    cases e : s.fitment with
    | none => exact absurd e this
    | some c => simp [State.tallyOf, deliver_fitment, h, e]
  | orphan => simp [State.tallyOf, deliver_tally, h]

/-- One quantum of a nonzero amount is routed as `State.routed` says. -/
theorem deliver_routed (x : Quantum) (n : x.amount ≠ 0) : s.routed (s.deliver x) [x] := by
  have book := deliver_book s x
  have others : (s.deliver x).book.oldest = s.book.oldest ∧ (s.deliver x).book.newest = s.book.newest ∧
      (s.deliver x).book.places[s.book.openPlace].lines = (recorded [x] s.book.places[s.book.openPlace]).lines ∧
      ∀ pl : Fin 24, pl ≠ s.book.openPlace → (s.deliver x).book.places[pl] = s.book.places[pl] := by
    rw [book]
    cases h : x.quantity.isHist
    · simp only [Book.bearing, recorded]
      refine ⟨rfl, rfl, by simp [h, n], fun pl ne => ?_⟩
      simp [Fin.val_ne_of_ne (Ne.symm ne)]
    · simp [recorded, h]
  refine ⟨fun p own => ?_, fun p ne => ?_, fun i ne => ?_, deliver_map s x, ?_, others.2.2.1, others.2.2.2, others.1, others.2.1, ?_⟩
  · by_cases e : x.position = p
    · subst e
      obtain ⟨tally, slots⟩ := deliver_tallyOf_own s x
      refine ⟨by rw [tally, borne_own rfl n], fun i h => ?_⟩
      rw [slots i h]; rfl
    · obtain ⟨tally, slots⟩ := deliver_tallyOf_other s x p e own
      refine ⟨by rw [tally, borne_other e], fun i h => ?_⟩
      rw [slots i h]
      exact congrArg Slot.ident (withLimits_id (x := s.table.slots[i]) fun l _ => changedLimits_same (fun _ => rfl) l).symm
  · rw [deliver_tally]
    split
    · rename_i h
      have : x.position ≠ p := by rintro rfl; exact ne h
      simp [index_ne this]
    · rfl
  · cases h : s.holder x.position with
    | slot j =>
      rw [deliver_slot s x j h]
      have : j ≠ i := by rintro rfl; exact ne _ h
      simp [Fin.val_ne_of_ne this]
    | interim => rw [deliver_table s x (by simp [h])]
    | orphan => rw [deliver_table s x (by simp [h])]
  · rw [deliver_fitment]
    split
    · cases e : s.fitment with
      | none => rfl
      | some c => simp [State.tallyOf, deliver_fitment, *]
    · cases e : s.fitment with
      | none => rfl
      | some c => simp [State.tallyOf, deliver_fitment, *]
  · rw [deliver_tally]; split <;> rfl

/-- Nothing routed. -/
theorem routed_nil : s.routed s [] := by
  refine ⟨fun p _ => ⟨rfl, fun i _ => ?_⟩, fun _ _ => rfl, fun _ _ => rfl, rfl, ?_, rfl, fun _ _ => rfl, rfl, rfl, rfl⟩
  · exact congrArg Slot.ident (withLimits_id (x := s.table.slots[i]) fun l _ => changedLimits_same (fun _ => rfl) l).symm
  · cases e : s.fitment <;> simp [State.tallyOf, e]

/-- A quantum of amount 0 adds nothing. -/
theorem State.routed.skip {s t : State} {x : Quantum} {xs : List Quantum} (n : x.amount = 0) (h : s.routed t xs) : s.routed t (x :: xs) := by
  have b : ∀ p t, borne p (x :: xs) t = borne p xs t := by simp [borne, n]
  have r : ∀ y, recorded (x :: xs) y = recorded xs y := by simp [recorded, n]
  unfold State.routed at *
  simpa only [b, r] using h

/-- What `routeAll` does, said once: the holders stay, and exactly these quanta are routed. -/
theorem routeAll_routed (xs : List Quantum) : s.routed (s.routeAll xs) xs ∧ ∀ p, (s.routeAll xs).holder p = s.holder p := by
  induction xs generalizing s with
  | nil => exact ⟨routed_nil s, fun _ => rfl⟩
  | cons x xs ih =>
    obtain ⟨h, k⟩ := ih (s.route x)
    by_cases n : x.amount = 0
    · have e : s.route x = s := if_pos n
      rw [e] at h k
      exact ⟨by simpa only [State.routeAll, List.foldl_cons, e] using h.skip n, by simpa only [State.routeAll, List.foldl_cons, e] using k⟩
    · have e : s.route x = s.deliver x := if_neg n
      rw [e] at h k
      have a := (deliver_routed s x n).trans h (deliver_holder s x)
      refine ⟨by simpa only [State.routeAll, List.foldl_cons, e, List.singleton_append] using a, fun p => ?_⟩
      have := (k p).trans (deliver_holder s x p)
      simpa only [State.routeAll, List.foldl_cons, e] using this

/-- What the Tally Engine does with a usage. -/
theorem take_routed (u : Usage) : s.routed (s.take u) u.quanta := (routeAll_routed s u.quanta).1

/-- The parts of a state that routing reads and changes are all that `State.routed` speaks of. -/
theorem State.routed.same {s s' t t' : State} {xs : List Quantum} (h : s.routed t xs) {as bs : List Block} (a : s.sameExcept s' as)
    (b : t.sameExcept t' bs) (ha : ∀ k ∈ as, k ≠ .tally ∧ k ≠ .table ∧ k ≠ .fitment ∧ k ≠ .book)
    (hb : ∀ k ∈ bs, k ≠ .tally ∧ k ≠ .table ∧ k ≠ .fitment ∧ k ≠ .book) : s'.routed t' xs := by
  have out : ∀ {cs : List Block}, (∀ k ∈ cs, k ≠ .tally ∧ k ≠ .table ∧ k ≠ .fitment ∧ k ≠ .book) →
      .tally ∉ cs ∧ .table ∉ cs ∧ .fitment ∉ cs ∧ .book ∉ cs := fun h =>
    ⟨fun m => (h _ m).1 rfl, fun m => (h _ m).2.1 rfl, fun m => (h _ m).2.2.1 rfl, fun m => (h _ m).2.2.2 rfl⟩
  obtain ⟨a1, a2, a3, a4⟩ := out ha
  obtain ⟨b1, b2, b3, b4⟩ := out hb
  have ea := a.tally a1; have eb := a.table a2; have ec := a.fitment a3; have ed := a.book a4
  have fa := b.tally b1; have fb := b.table b2; have fc := b.fitment b3; have fd := b.book b4
  have hold : ∀ p, s'.holder p = s.holder p := fun p => by simp only [State.holder, State.unheldHolder, eb, ec]
  have ts : ∀ p h, s'.tallyOf p h = s.tallyOf p h := fun p h => by cases h <;> simp only [State.tallyOf, ea, eb, ec]
  have tt : ∀ p h, t'.tallyOf p h = t.tallyOf p h := fun p h => by cases h <;> simp only [State.tallyOf, fa, fb, fc]
  unfold State.routed State.ownHolder at *
  simpa only [hold, ts, tt, ea, eb, ec, ed, fa, fb, fc, fd] using h

end Sys2Proof.Machine
end

