-- ==== Sys2Proof/Laws/Served.lean ====
section
/-! SUPPORT. What serving a ready request comes to, for each of the three answers (R186): the provers cite these. -/

namespace Sys2Proof.Machine

theorem taking_frame (s : State) (d : Timer) : s.sameExcept (s.taking d) [.link, .sup] := by simp [State.sameExcept, State.taking]

/-- A ready request whose meaning refuses it and changes nothing. -/
theorem ready_refused {s : State} {r : Request} {c : Instr} {m : Meaning} {reason : Reason} (h : s.ready r)
    (hc : exec c s = .next (s.serve r m)) (e : ∀ d, m r.payload (s.taking d) = .refused reason (s.taking d)) :
    s.refuses c r reason := by
  obtain ⟨d, hd⟩ := serve_ready h m
  refine ⟨_, hc.trans (congrArg _ hd), ?_⟩
  rw [e]
  refine ⟨rfl, rfl, ?_⟩
  exact .trans (.trans (taking_frame s d) ((reply_frame ..).mono (by simp))) ((supervise_frame _).mono (by simp))

/-- A ready request whose meaning answers DONE with a body and leaves `g`. -/
theorem ready_done {s : State} {r : Request} {m : Meaning} {body : List Byte} {g : Timer → State} (h : s.ready r)
    (e : ∀ d, m r.payload (s.taking d) = .done body (g d)) :
    ∃ d t, s.serve r m = t ∧ t.link = { (g d).link with replies := (g d).link.replies ++ [.done r.tag body] } ∧
      t.sup = { (g d).sup with dormancy := t.sup.dormancy } ∧ (g d).sameExcept t [.link, .sup] := by
  obtain ⟨d, hd⟩ := serve_ready h m
  refine ⟨d, _, hd, ?_⟩
  rw [e]
  exact ⟨rfl, rfl, .trans ((reply_frame ..).mono (by simp)) ((supervise_frame _).mono (by simp))⟩

/-- A ready request whose meaning answers DONE with a body and changes nothing. -/
theorem ready_reports {s : State} {r : Request} {c : Instr} {m : Meaning} {body : List Byte} (h : s.ready r)
    (hc : exec c s = .next (s.serve r m)) (e : ∀ d, m r.payload (s.taking d) = .done body (s.taking d)) :
    s.reports c r.tag body := by
  obtain ⟨d, t, ht, hl, hs, hf⟩ := ready_done h e
  exact ⟨t, hc.trans (congrArg _ ht), hl, hs, (taking_frame s d).trans hf⟩

/-- A ready request whose meaning answers DEFERRED with a body, leaves `g` and awaits `lines`. -/
theorem ready_deferred {s : State} {r : Request} {m : Meaning} {body : List Byte} {lines : List Nat} {g : Timer → State}
    (h : s.ready r) (e : ∀ d, m r.payload (s.taking d) = .deferred body lines (g d))
    (pw : ∀ d, (g d).sup.power = .active) :
    ∃ d t, s.serve r m = t ∧ t.link = { (g d).link with replies := (g d).link.replies ++ [.deferred r.tag body] } ∧
      t.sup = { (g d).sup with dormancy := t.sup.dormancy } ∧ t.nextId = (g d).nextId + 1 ∧
      t.ctl.records = (g d).ctl.records ++ [{ id := (g d).nextId, tag := r.tag, kind := r.kind, awaits := lines, silent := false }] ∧
      (∀ n, t.ctl.holds n ↔ (g d).ctl.holds n ∨ n ∈ lines) ∧ (g d).ctl.sameSettings t.ctl ∧
      (g d).sameExcept t [.nextId, .ctl, .link, .sup] := by
  obtain ⟨d, hd⟩ := serve_ready h m
  refine ⟨d, _, hd, ?_⟩
  rw [e]
  obtain ⟨h1, h2, h3, h4⟩ := defer_spec ((g d).reply (.deferred r.tag body)) (.inl (pw d)) r.tag r.kind lines
  have hn : (((g d).reply (.deferred r.tag body)).defer r.tag r.kind lines).nextId = (g d).nextId + 1 :=
    (queueLines_frame (((g d).reply (.deferred r.tag body)).createRecord r.tag r.kind lines) .commit lines).nextId (by simp)
  refine ⟨h4.link (by simp), ?_, hn, h1, h2, h3, ?_⟩
  · rw [← show (((g d).reply (.deferred r.tag body)).defer r.tag r.kind lines).sup = (g d).sup from h4.sup (by simp)]; rfl
  · exact .trans (.trans ((reply_frame ..).mono (by simp)) (h4.mono (by simp))) ((supervise_frame _).mono (by simp))

/-- What a ready deferred request awaits and keeps, when its execution left the controller's queue, records and settings. -/
theorem ready_awaits {s : State} {r : Request} {c : Instr} {m : Meaning} {body : List Byte} {lines : List Nat}
    {g : Timer → State} {bs : List Block} (h : s.ready r) (hc : exec c s = .next (s.serve r m))
    (e : ∀ d, m r.payload (s.taking d) = .deferred body lines (g d)) (fr : ∀ d, (s.taking d).sameExcept (g d) bs)
    (hsup : .sup ∉ bs) (hid : .nextId ∉ bs) (hr : ∀ d, (g d).ctl.records = s.ctl.records)
    (hh : ∀ d n, (g d).ctl.holds n ↔ s.ctl.holds n) (hq : ∀ d, s.ctl.sameSettings (g d).ctl) :
    ∃ d t, exec c s = .next t ∧ t.link = { (g d).link with replies := (g d).link.replies ++ [.deferred r.tag body] } ∧
      s.samePower t ∧ s.awaiting t r lines ∧ s.ctl.sameSettings t.ctl ∧ (g d).sameExcept t [.nextId, .ctl, .link, .sup] ∧
      s.sameExcept t (.nextId :: .ctl :: .link :: .sup :: bs) := by
  have hs : ∀ d, (g d).sup = (s.taking d).sup := fun d => (fr d).sup hsup
  obtain ⟨d, t, h1, h2, h3, h4, h5, h6, h7, h8⟩ := ready_deferred h e (fun d => by rw [hs d]; exact h.2.1)
  have hn : (g d).nextId = s.nextId := (fr d).nextId hid
  refine ⟨d, t, hc.trans (congrArg _ h1), h2, ?_, ⟨?_, ?_, fun n => (h6 n).trans ?_⟩, (hq d).trans h7, h8, ?_⟩
  · rw [hs d] at h3; exact h3
  · rw [h5, hr, hn]
  · rw [h4, hn]
  · rw [hh]
  · exact .trans (.trans ((taking_frame s d).mono (by simp)) ((fr d).mono (by simp +contextual))) (h8.mono (by simp +contextual))

end Sys2Proof.Machine
end

