-- ==== Sys2Proof/Laws/Writes.lean ====
section
/-! SUPPORT. The end of deferred records and of a line write: what each operation leaves in the store, in the controller and at the link. -/

namespace Sys2Proof.Machine

/-- Ended records leave the controller, and nothing else there changes. -/
theorem endRecords_ctl (s : State) (res e) : (s.endRecords res e).ctl =
    { s.ctl with records := s.ctl.records.filter fun r => !e r } := by
  have : ∀ (rs : List DeferredRecord) (u : State), (rs.foldl (State.finish res) u).ctl = u.ctl := by
    intro rs; induction rs with
    | nil => intro u; rfl
    | cons r rs ih => intro u; rw [List.foldl_cons, ih]; unfold State.finish; split <;> rfl
  unfold State.endRecords; rw [this]

/-- The FINISHED replies of the ended records join the reply queue in order, silent ones left out. -/
theorem endRecords_link (s : State) (res e) : (s.endRecords res e).link =
    { s.link with
      replies := s.link.replies ++
        ((s.ctl.records.filter e).filter fun r => !r.silent).map (fun r => .finished r.tag r.kind res) } := by
  have : ∀ (rs : List DeferredRecord) (u : State), (rs.foldl (State.finish res) u).link =
      { u.link with
        replies := u.link.replies ++ (rs.filter fun r => !r.silent).map (fun r => .finished r.tag r.kind res) } := by
    intro rs; induction rs with
    | nil => intro u; simp
    | cons r rs ih =>
      intro u; rw [List.foldl_cons, ih]; unfold State.finish
      by_cases h : r.silent = true
      · simp [h]
      · simp [h, State.reply]
  unfold State.endRecords; rw [this]

theorem worse_eq_clean (a b : WordRead) : WordRead.worse a b = WordRead.clean ↔ a = .clean ∧ b = .clean := by
  cases a <;> cases b <;> simp [WordRead.worse]

theorem foldl_worse (ws : List WordRead) (a) : ws.foldl WordRead.worse a = .clean ↔ a = .clean ∧ ∀ w ∈ ws, w = .clean := by
  induction ws generalizing a with
  | nil => simp
  | cons w ws ih => rw [List.foldl_cons, ih, worse_eq_clean]; simp [and_assoc]

/-- A line reads clean exactly when all its words do. -/
theorem outcome_clean (l : StoredLine) : l.outcome = .clean ↔ l.words = cleanWords := by
  unfold StoredLine.outcome
  rw [foldl_worse]
  constructor
  · rintro ⟨-, h⟩
    ext i hi
    have := h (l.words[i]) (by simp)
    rw [this]; simp [cleanWords]
  · intro h; simp [h, cleanWords]

@[simp] theorem LineImage.unmark_marked (x : LineImage) : x.unmark.marked = false := by cases x <;> rfl

/-- A failed or cut write of any other image than one with the mark set leaves what its end says (R150, R154). -/
theorem leftBy_unmarked (before image e) (h : LineImage.marked image = false) : leftBy before image e = afterWrite before image e := by
  simp [leftBy, h]

/-- A failed or cut write of the mark leaves contents without it (R164, log 33). -/
theorem leftBy_marked (before image e) (h : LineImage.marked image = true) : (leftBy before image e).image.marked = false := by
  simp [leftBy, h]

/-- The words read as the end of the write says. -/
@[simp] theorem leftBy_words (before image e) : (leftBy before image e).words = (afterWrite before image e).words := by
  unfold leftBy; dsimp only; split <;> rfl

theorem insertLine_mem (n m : Nat) (l : List Nat) : m ∈ insertLine n l ↔ m = n ∨ m ∈ l := by
  induction l with
  | nil => simp [insertLine]
  | cons a l ih =>
    unfold insertLine; split
    · simp
    · split
      · rename_i h; subst h; simp
      · simp only [List.mem_cons, ih]; tauto

theorem rejoin_records (x : StoreController) (f) : (x.rejoin f).records = x.records := by
  unfold StoreController.rejoin; split <;> rfl

theorem rejoin_failed (x : StoreController) (f) : (x.rejoin f).failed = x.failed := by
  unfold StoreController.rejoin; split <;> rfl

theorem rejoin_failures (x : StoreController) (f) : (x.rejoin f).failures = x.failures := by
  unfold StoreController.rejoin; split <;> rfl

theorem rejoin_dirty (x : StoreController) (f) : (x.rejoin f).dirty = x.dirty := by
  unfold StoreController.rejoin; split <;> rfl

theorem rejoin_holds (x : StoreController) (f m) (h : x.flight = none) :
    (x.rejoin f).holds m ↔ m ∈ x.queue.lines ∨ m = f.line ∧ f.pending ≠ none := by
  unfold StoreController.rejoin StoreController.holds StoreController.flightLine
  split <;> simp_all [mem_join]

/-- The arbiter leaves the dirty mark of a line that is not queued. -/
theorem arbitrate_dirty (s : State) (hp : s.sup.power = .active) (n : Nat) (h : n ∈ s.ctl.dirty)
    (hq : n ∉ s.ctl.queue.lines) : n ∈ s.arbitrate.ctl.dirty := by
  unfold State.arbitrate
  split
  · exact h
  · simp only [hp]
    split
    · rename_i m rest hpop
      have := pop_lines hpop
      simp only [State.startWrite, List.mem_filter]
      refine ⟨h, ?_⟩
      have : n ≠ m := fun e => hq (by rw [this, e]; simp)
      simpa using this
    · exact h

end Sys2Proof.Machine
end

