-- ==== Sys2Proof/WellFormed.lean ====
section
/-! DEFINITION. What the senders can send: the bounds a command's operands keep. -/

namespace Sys2Proof

/-- A payload a frame can carry (12): at most 248 bytes. -/
def payloadOk (payload : List Byte) : Bool :=
  decide (payload.length ≤ Config.replyBody)

/-- The request kinds are 0x01 to 0x22 (R197). -/
def isRequestKind (kind : Byte) : Bool :=
  decide (1 ≤ kind.toNat ∧ kind.toNat ≤ 0x22)

/-- Decay names lines of the store, each once. -/
def decayOk (decay : Decay) : Bool :=
  decay.all (fun d => decide (d.1 < Config.lineCount)) && decide (decay.map Prod.fst).Nodup

/-- A write cut short leaves the old contents, the new ones, or a mixture that reads uncorrectable (R150). -/
def cutOk (cut : WriteEnd) : Bool :=
  decide (cut.held ≠ .garbled) || cut.words.toList.contains .uncorrectable

/-- The well-formed commands. -/
def Instr.wf : Instr → Bool
  | .setChannel _ p => payloadOk p
  | .setLines _ p => payloadOk p
  | .setTime _ p => payloadOk p
  | .setEngineThresholds _ p => payloadOk p
  | .setGearTable _ p => payloadOk p
  | .setDriveline _ p => payloadOk p
  | .loadSample _ p => payloadOk p
  | .readLive _ p => payloadOk p
  | .setWearWeights _ p => payloadOk p
  | .readOrphans _ p => payloadOk p
  | .clearOrphans _ p => payloadOk p
  | .rearmService _ p => payloadOk p
  | .readSlot _ p => payloadOk p
  | .readPosition _ p => payloadOk p
  | .discardSlot _ p => payloadOk p
  | .beginFitment _ p => payloadOk p
  | .stageComponent _ p => payloadOk p
  | .exportOutgoing _ p => payloadOk p
  | .readFitment _ p => payloadOk p
  | .commitFitment _ p => payloadOk p
  | .abortFitment _ p => payloadOk p
  | .openRental _ p => payloadOk p
  | .closeRental _ p => payloadOk p
  | .listPeriods _ p => payloadOk p
  | .readPeriod _ p => payloadOk p
  | .releasePeriods _ p => payloadOk p
  | .setStoreTiming _ p => payloadOk p
  | .readStoreStatus _ p => payloadOk p
  | .setDormancy _ p => payloadOk p
  | .factoryClear _ p => payloadOk p
  | .identify _ p => payloadOk p
  | .readStatus _ p => payloadOk p
  | .takeNotice _ p => payloadOk p
  | .setNoticeLevels _ p => payloadOk p
  | .unknownKind k _ p => !isRequestKind k && payloadOk p
  | .frameArrival body _ => decide (2 ≤ body.length ∧ body.length ≤ 250)
  | .gapTimerExpiry => true
  | .breakReceived _ => true
  | .replySent => true
  | .powerUp cut decay => cutOk cut && decayOk decay
  | .resetAsserted cut => cutOk cut
  | .resetReleased decay => decayOk decay
  | .supplyLoss cut => cutOk cut
  | .powerWarnAsserted => true
  | .powerWarnCleared => true
  | .wallClockTick => true
  | .activeEdge _ _ _ => true
  | .stallTimerExpiry _ => true
  | .lineLevelChange _ _ _ => true
  | .lineFilterExpiry _ => true
  | .runConfirmExpiry => true
  | .stopConfirmExpiry => true
  | .settleTimerExpiry => true
  | .launchWindowExpiry => true
  | .staleTimerExpiry => true
  | .quietTimerExpiry => true
  | .accrualTimerExpiry => true
  | .fitmentDeadlineExpiry => true
  | .checkpointTimerExpiry => true
  | .scrubTimerExpiry decay => decayOk decay
  | .writeComplete _ => true
  | .dormancyTimerExpiry => true
  | .characterReceived _ _ => true
  | .endOfStartUp => true

end Sys2Proof
end

