-- ==== Sys2Proof/Tests/Slice0.lean ====
section
/-! SUPPORT. Tests of the model: the bounds of WellFormed, the spec's worked examples one event at a time, and for every obligation
with hypotheses a state and operands that meet them, each clause at values where its range begins or ends. -/

set_option Elab.async false

namespace Sys2Proof.Tests

open Sys2Proof.Machine

/-! ## WellFormed: an ill-formed command for each check -/

theorem test_wf_payload : (Instr.setTime 1 (List.replicate 248 0)).wf = true ∧ (Instr.setTime 1 (List.replicate 249 0)).wf = false := by
  decide +kernel
theorem test_wf_unknownKind : (Instr.unknownKind 0x22 1 []).wf = false ∧ (Instr.unknownKind 0x23 1 []).wf = true ∧
    (Instr.unknownKind 0 1 []).wf = true := by decide +kernel
theorem test_wf_body : (Instr.frameArrival [1] 0).wf = false ∧ (Instr.frameArrival (List.replicate 251 0) 0).wf = false ∧
    (Instr.frameArrival [1, 2] 0).wf = true := by decide +kernel
theorem test_wf_decay : (Instr.scrubTimerExpiry [(178, cleanWords)]).wf = false ∧
    (Instr.scrubTimerExpiry [(3, cleanWords), (3, cleanWords)]).wf = false ∧ (Instr.scrubTimerExpiry [(177, cleanWords)]).wf = true := by
  decide +kernel
theorem test_wf_cut : (Instr.supplyLoss { held := .garbled, words := cleanWords }).wf = false ∧
    (Instr.supplyLoss { held := .garbled, words := cleanWords.set 0 .uncorrectable }).wf = true := by decide +kernel

/-! ## Small states -/

/-- Line n of the store with contents that read clean. -/
def clean (n : Nat) (x : LineImage) : Nat × StoredLine := (n, { image := x, words := cleanWords })
/-- Line n of the store with one word uncorrectable. -/
def bad (n : Nat) : Nat × StoredLine := (n, { image := .invalid, words := cleanWords.set 7 .uncorrectable })
/-- A channel with a function, in a state, at a speed. -/
def chan (f : ChannelFunction) (st : ChannelState) (v : Nat) : Channel :=
  { Channel.rest { ChannelConfig.default with function := f, teeth := 60, minPeriod := 20, overspeed := 3200, enabled := true } with
    state := st, speed := some v }
/-- The recorder after reset with some channels from CH0 on. -/
def withChannels (cs : List Channel) : State :=
  { State.reset with channels := tabulate 10 fun i => cs.getD i.val (.rest .default) }
/-- The recorder after reset with a slot, mapped at its position. -/
def withSlot (i : Fin 20) (p : Position) (x : Slot) : State :=
  { State.reset with table := { slots := State.reset.table.slots.set i x, map := State.reset.table.map.set p.index (some i) } }
/-- A FITTED slot with given service threshold and life limit. -/
def fitted (k : Kind) (p : Position) (t : Tally) (l : Service × Life) : Slot :=
  { ident := { state := .fitted, kind := some k, serial := some [0x41], position := some p, lastPosition := none, fittedAt := none,
               carried := some false, limits := some l }, tally := t }
/-- A period record's header of the book. -/
def period (q : Nat) (st : PeriodState) (k : PeriodKind) (c : Option Text) : Header :=
  let info : PeriodInfo :=
    { kind := k, contract := c, segment := 0, openReason := .rentalEnd, restarts := 0, unwarned := 0, tows := 0 }
  { seq := q, state := st, info := some info, closeReason := if st = .closed then some .request else none,
    openedAt := none, closedAt := none, incomplete := false }
/-- A record's place with an empty increment list. -/
def placed (h : Header) : Place := { header := some h, lines := Vector.replicate 3 { seq := some h.seq, entries := [] } }
/-- A book of CLOSED records from `o` on and an open one `n`. -/
def bookOf (o n : Nat) (k : PeriodKind) (c : Option Text) : Book :=
  { places := tabulate 24 fun p =>
      match (List.range (n + 1 - o)).find? (fun j => decide (placeOf (o + j) = p)) with
      | some j => placed (if o + j = n then period n .opened k c else period (o + j) .closed .rental (some [0x52]))
      | none => .free
    oldest := o, newest := n }
/-- The contract reference RC-31108 (8.9). -/
def rc : Text := [0x52, 0x43, 0x2D, 0x33, 0x31, 0x31, 0x30, 0x38]
/-- A contract reference as a payload. -/
def rcPayload (t : Text) : List Byte := textBytes 16 t
/-- What a command makes of a state, as one value to compare. -/
def after {α : Type} (c : Instr) (s : State) (f : State → α) : Option α :=
  match exec c s with
  | .next t => some (f t)
  | _ => none

/-! ## The worked examples of the spec, one event at a time -/

/-- 2.9: E = 60; steps 1 and 2, an overspeed period of 78 ticks, and one of 83. -/
theorem test_edges : let c := { chan .engineSpeed .stopped 0 with tooth := 58 }
    (c.edge 0).1 = { c with tooth := 59, capture := some 0 } ∧
    ((c.edge 0).1.edge 1250).1 = { c with state := .turning, speed := some 2000, tooth := 0, capture := some 1250 } ∧
    ((c.edge 0).1.edge 1250).2.revolution = true ∧ c.speedOf 312 = 8012 ∧ c.speedOf 78 = 32051 ∧
    { c with speed := some 32051 }.overspeedBegins = true ∧ { c with speed := some 31250, episode := true }.overspeedEnds = false ∧
    { c with speed := some 30120, episode := true }.overspeedEnds = true := by decide +kernel
/-- 2.9: step 7 makes the channel NOISY, step 9 TURNING again. -/
theorem test_noisy : let c := { chan .engineSpeed .turning 8333 with tooth := 18, noise := 4, short := 2, capture := some 0 }
    let n := { c with state := .noisy, speed := none, noise := 12, good := 7, short := 0 }
    (c.edge 3).1 = { c with state := .noisy, speed := none, noise := 5, short := 0, capture := some 3 } ∧
    (n.edge 312).1 = { c with noise := 12, speed := some 8012, tooth := 19, short := 0, capture := some 312 } := by decide +kernel
/-- 3.8 at 2.3 s: CRANK is released, KEY is ACTIVE, the engine turns at 200.0 rpm. -/
def cranking : State :=
  let run : RunDetector := { State.reset.run with state := .cranking, measure := some 125000 }
  let s : State := { withChannels [chan .engineSpeed .turning 2000] with now := 575000, run := run }
  s.setLineRecord .key { level := true, filtered := true, setting := .default, timer := none }
/-- 3.8: the CRANK release at 2.3 s delivers 18 tenths and starts the stop confirm timer; 3.3 s ends the attempt. -/
theorem test_crank : let t := cranking.crankTransition false
    t.run = { cranking.run with measure := none, attempt := 18, stopTimer := some 825000 } ∧
    t.tally.orphans[Position.starter.index].value .crankTenths = some 18 ∧
    after .stopConfirmExpiry t (fun u => (u.run.state, u.notice .failedStart)) =
      some (.off, some { detail := .tenths 18, repeats := 0 }) := by decide +kernel
/-- The Gear Table of 4.10. -/
def gears : GearTable :=
  { settle := 300, entries := [⟨6500, 40, .forward⟩, ⟨3800, 40, .forward⟩, ⟨2300, 40, .forward⟩, ⟨1400, 40, .forward⟩,
                               ⟨1000, 40, .forward⟩, ⟨6100, 40, .reverse⟩] }
/-- 4.10 at 3.0 s. -/
def slipping : State :=
  let run : RunDetector := { State.reset.run with state := .running }
  let line : Driveline := { State.reset.driveline with fresh := true, load := some 60, clutch := .engaged }
  let s : State := { withChannels [chan .engineSpeed .turning 12000, chan .gearIn .turning 1690] with run := run, driveline := line }
  s.setLineRecord .clutch { level := true, filtered := true, setting := .default, timer := none }
/-- 4.10: the windows, the search, and the slip amount at 3.0 s. -/
theorem test_gears : gears.entries.map (fun e => (e.lower, e.upper)) =
      [(6240, 6760), (3648, 3952), (2208, 2392), (1344, 1456), (960, 1040), (5856, 6344)] ∧ gears.ok = true ∧
    gears.search .forward 6500 = some 0 ∧ gears.search .forward 16900 = none ∧ gears.search .reverse 6344 = some 5 ∧
    slipping.slipAmount = 618 := by
  decide +kernel
/-- 5.8: one accrual second gives 16 quanta, 13 of them scalar; with the clutch pressed the gear second is gone. -/
def driving : State :=
  { withChannels [chan .engineSpeed .turning 12000, chan .gearIn .turning 12000, chan .gearOut .turning 8571,
      chan .wheelLF .turning 1000, chan .wheelRF .turning 1000, chan .wheelLR .turning 1000, chan .wheelRR .turning 1000] with
    run := { State.reset.run with state := .running }
    driveline := { State.reset.driveline with table := gears, gear := .engaged 3, fresh := true, load := some 65, clutch := .engaged } }
theorem test_accrual : let qs := driving.secondQuanta.filter fun x => decide (x.amount ≠ 0)
    qs.length = 16 ∧ (qs.filter fun x => !x.quantity.isHist).length = 13 ∧
    qs.map (fun x => (x.position, x.quantity, x.entry, x.amount)) =
      [(.engine, .runSeconds, 0, 1), (.engine, .loadSeconds, 4, 1), (.engine, .wearUnits, 0, 150), (.gearbox, .runSeconds, 0, 1),
       (.gearbox, .loadSeconds, 4, 1), (.gearbox, .wearUnits, 0, 150), (.gearbox, .gearSeconds, 3, 1), (.transfer, .wearUnits, 0, 150),
       (.propRear, .wearUnits, 0, 150), (.diffRear, .wearUnits, 0, 150), (.hubLF, .wearUnits, 0, 150), (.hubRF, .wearUnits, 0, 150),
       (.hubLR, .wearUnits, 0, 150), (.hubRR, .wearUnits, 0, 150), (.aux1, .runSeconds, 0, 1), (.aux2, .runSeconds, 0, 1)] := by
  decide +kernel
/-- The clutch of 5.9 in slot 7. -/
def clutchSlot (slip : Nat) (sv : Service) : Slot :=
  fitted .clutch .clutch { scalars := [⟨.launches, some 3, false⟩, ⟨.slipUnits, some slip, false⟩], hists := [] }
    (sv, { quantity := .slipUnits, limit := 40000000, overLife := false })
/-- 5.9: step 1, the threshold is reached. -/
theorem test_service : let t := (withSlot 7 .clutch (clutchSlot 4999700 ⟨some .slipUnits, 5000000, true⟩)).route (quantum .clutch .slipUnits 618)
    t.table.slots[7] = clutchSlot 5000318 ⟨some .slipUnits, 5000000, false⟩ ∧ t.ctl.dirty = [27, 28, 86, 87, 88, 89] ∧
    t.notice .serviceDue = some { detail := .slot 7, repeats := 0 } := by decide +kernel
/-- 5.9: step 3, the threshold fires again as it is armed. -/
theorem test_rearm : after (.rearmService 9 ([7, 15] ++ leBytes 6 5000000))
      (withSlot 7 .clutch (clutchSlot 5000730 ⟨some .slipUnits, 5000000, false⟩)) (fun t => (t.table.slots[7], t.link.replies)) =
    some (clutchSlot 5000730 ⟨some .slipUnits, 5000000, false⟩, [.deferred 9 []]) := by decide +kernel
/-- 6.9: slot 12's scalar line has decayed; slot 7 keeps CLUTCH, slot 2 becomes STRAY. -/
def torn : Store :=
  let limits : Service × Life := (⟨none, 0, false⟩, ⟨.revolutions, 0, false⟩)
  let hub : Tally := .zero .hubLR 0
  let old := clutchSlot 500 ⟨none, 0, false⟩
  let new := clutchSlot 0 ⟨none, 0, false⟩
  [clean 5 (.map { entries := (List.replicate 16 none).set 2 (some 7) |>.set 11 (some 12), mark := false, bounds := some (1, 1) }),
   clean 12 new.ident.image, clean 13 (scalarImage new.tally.scalars), clean 27 old.ident.image,
   clean 28 (scalarImage old.tally.scalars), clean 42 (fitted .hub .hubLR hub limits).ident.image, bad 43]
theorem test_rebuild : let t := { State.reset with store := torn }.startUp
    t.table.map[Position.clutch.index] = some 7 ∧ t.table.map[Position.hubLR.index] = none ∧
    t.table.slots[2].ident.state = .stray ∧ t.table.slots[2].ident.lastPosition = some .clutch ∧
    t.table.slots[7].ident.state = .fitted ∧ t.table.slots[12].ident.state = .damaged ∧
    t.table.slots[12].tally.scalars = absentScalars .hubLR ∧
    (t.sup.report.slotsDamaged, t.sup.report.slotsStray, t.sup.report.mapCleared) = (1, 1, 1) ∧
    t.ctl.dirty = [5, 12, 42, 43, 44, 86, 87, 88, 89] := by decide +kernel
/-- 6.10: pages of a gearbox slot with 12 gears. -/
theorem test_pages : let t := Tally.zero .gearbox 12
    t.items.length = 26 ∧ (pageOf t.items 0).length = 16 ∧ (pageOf t.items 16).length = 10 ∧ pageOf t.items 26 = [] ∧
    (pageBytes t.items 0).take 4 = [26, 0, 16, 1] ∧ (pageBytes t.items 16).take 4 = [26, 16, 10, 0] := by decide +kernel
/-- The recorder after reset with a book. -/
def withBook (b : Book) : State := { State.reset with book := b }
/-- 8.9: step 1. -/
theorem test_openRental : after (.openRental 1 (rcPayload rc)) (withBook (bookOf 38 56 .idle none))
      (fun t => (t.book.count, t.book.newest, t.ctl.records.map (·.awaits), t.link.replies)) =
    some (19, 56, [[114, 115, 116, 117, 5]], [.deferred 1 (leBytes 4 0 ++ leBytes 4 56)]) := by decide +kernel
/-- 8.9: step 3. -/
theorem test_closeMismatch : after (.closeRental 2 (rcPayload (rc.set 0 0x72))) (withBook (bookOf 38 56 .rental (some rc)))
      (fun t => t.link.replies) = some [.refused 2 0x17 .contractMismatch] := by decide +kernel
/-- 8.9: step 4. -/
theorem test_closeRental : after (.closeRental 2 (rcPayload rc)) (withBook (bookOf 38 56 .rental (some rc)))
      (fun t => (t.book.count, t.ctl.records.map (·.awaits), t.notice .bookNearFull)) =
    some (20, [[118, 119, 120, 121, 114, 115, 116, 117, 5]], some { detail := .count 20, repeats := 0 }) := by decide +kernel
/-- 8.9: step 6. -/
theorem test_release : after (.releasePeriods 3 (leBytes 4 50)) (withBook (bookOf 38 57 .idle none))
      (fun t => (t.book.count, t.book.oldest, t.ctl.records.map (·.awaits), t.link.replies)) =
    some (7, 51, [[138, 142, 146, 150, 154, 158, 162, 166, 170, 174, 82, 86, 90, 5]], [.deferred 3 ([13] ++ leBytes 4 51)]) := by
  decide +kernel
/-- 9.9: step 2, the commit's lines meet the checkpoint's; step 3, line 5 completes. -/
def meeting : StoreController :=
  { State.reset.ctl with
    queue := { flush := [], commit := [], checkpoint := [7, 8, 10, 11, 28, 29, 70, 114, 115, 116, 117], repair := [71] } }
/-- The commit's 16 lines queued, in the order of R124. -/
def metCommit : StoreController :=
  [118, 119, 120, 121, 114, 115, 116, 117, 13, 14, 12, 27, 28, 29, 68, 5].foldl (fun x n => x.enqueue .commit n) meeting
theorem test_queue : metCommit.queue =
      { flush := [], commit := [118, 119, 120, 121, 114, 115, 116, 117, 13, 14, 12, 27, 28, 29, 68],
        checkpoint := [7, 8, 10, 11, 70], repair := [71] } ∧ (metCommit.flight.bind (·.pending)) = some .commit ∧
    after (.writeComplete { held := .new, words := cleanWords }) { State.reset with ctl := metCommit }
      (fun t => (t.ctl.flightLine, t.ctl.queue.commit.getLast?)) = some (some 118, some 5) := by decide +kernel
/-- 10.5: the torn rental opening. -/
def tornBook : Store :=
  let b := bookOf 50 56 .idle none
  let lines (n : Nat) : LineImage := if n = 5 then .map { entries := List.replicate 16 none, mark := false, bounds := some (50, 56) }
    else if n = 118 then .header (period 57 .opened .rental (some rc))
    else if n = 119 then .increments { seq := some 57, entries := [] }
    else if n = 121 then .increments { seq := some 33, entries := [] }
    else if 82 ≤ n then (b.places[placeOf ((n - 82) / 4)]).image ((n - 82) % 4)
    else (factoryLine n).image
  (List.range 178).foldl (fun st n => if n = 120 then storePut st n (bad n).2 else storePut st n (clean n (lines n)).2) []
theorem test_book : let t : State := State.startUp { State.reset with store := tornBook }
    t.book.oldest = 50 ∧ t.book.newest = 57 ∧ t.sup.report.uncorrectable = 1 ∧ t.sup.report.recoveryCloses = 1 ∧
    t.sup.report.opening = .reset ∧ t.sup.report.markFound = false ∧ t.ctl.dirty = [5, 114, 118, 119, 120, 121] ∧
    (t.book.header 56).map (fun h => (h.state, h.closeReason)) = some (.closed, some .recovery) ∧
    (t.book.openHeader.bind (·.info)).map (fun i => (i.kind, i.openReason, i.restarts, i.unwarned)) = some (.idle, .recovery, 1, 1) := by
  decide +kernel

/-- R181: the CRC of the nine digits is the one its polynomial and initial value give; a frame closes with it, low byte first. -/
theorem test_crc : crc16 [0x31, 0x32, 0x33, 0x34, 0x35, 0x36, 0x37, 0x38, 0x39] = 0x29B1#16 ∧
    (frameBytes [0x1F, 7]).take 4 = [0xC3, 2, 0x1F, 7] ∧
    (frameBytes [0x1F, 7]).drop 4 = leBytes 2 (crc16 [2, 0x1F, 7]).toNat := by decide +kernel
/-- 11.8, step 2: with 4 records a deferred request waits at the head, and a short one waits behind it. -/
def blocked : State :=
  let x (n : Nat) : DeferredRecord := { id := n, tag := 1, kind := 0x16, awaits := [5], silent := false }
  { State.reset with nextId := 4, ctl := { State.reset.ctl with records := [x 0, x 1, x 2, x 3] } }
theorem test_blocked : after (.clearOrphans 22 [0]) blocked (fun t => t.link.intake) = some [⟨0x0B, 22, [0]⟩] ∧
    (match exec (.clearOrphans 22 [0]) blocked with
      | .next t => after (.loadSample 23 [60]) t (fun u => (u.link.intake.map (·.tag), u.link.replies))
      | _ => none) = some ([22, 23], []) := by decide +kernel
/-- 12.5: a page of record 56 stops before HUB_LF. -/
theorem test_periodPage :
    let e (p : Position) (n : Nat) : Entry := { position := p, pairs := List.replicate n { quantity := .wearUnits, amount := 1, saturated := false } }
    let es := [e .engine 7, e .starter 4, e .clutch 2, e .gearbox 7, e .transfer 3, e .propRear 3, e .diffRear 3, e .hubLF 3, e .hubRF 3,
      e .hubLR 3, e .hubRR 3]
    (periodPage (period 56 .closed .rental none) es .engine).length = 231 ∧
    (entryPage es .engine).take 3 = [11, 7, 1] ∧ (entryPage es .hubLF).take 3 = [11, 4, 0] := by decide +kernel
/-- 7.10 at 90 s: an INSTALL at HUB_LR is committed into slot 12. -/
def installing : State :=
  let staged : Staged := { kind := .hub, serial := [0x48, 0x42], carried := [⟨.wearUnits, 0, 9400000⟩, ⟨.revolutions, 0, 3120000⟩,
    ⟨.towedRevolutions, 0, 18000⟩, ⟨.towSeconds, 0, 300⟩], serviceQuantity := none, due := 0, lifeQuantity := .revolutions, limit := 60000000 }
  let interim : Tally := ((Tally.zero .hubLR 0).add .revolutions 0 180).add .wearUnits 0 300
  { withBook (bookOf 41 57 .rental (some rc)) with
    table := { State.reset.table with slots := tabulate 20 fun i =>
      if i.val < 12 then { Slot.empty with ident := .bare .damaged } else .empty }
    fitment := some { action := .install, position := .hubLR, outgoing := none, interim := interim, exported := false,
                      staged := some staged, timeout := 120, deadline := 1000 } }
theorem test_commit : after (.commitFitment 4 []) installing (fun t => (t.ctl.records.map (·.awaits), t.link.replies, t.book.count)) =
      some ([[122, 123, 124, 125, 118, 119, 120, 121, 43, 44, 42, 77, 5]], [.deferred 4 ([12] ++ leBytes 4 57 ++ leBytes 4 58)], 18) ∧
    after (.commitFitment 4 []) installing (fun t => (t.tally.orphans[Position.hubLR.index].value .revolutions,
      t.table.slots[12].tally.value .revolutions, t.fitment)) = some (some 180, some 3120000, none) := by decide +kernel
/-- R163, R164: POWER_WARN with line 5 in flight and four lines queued; the mark is not yet written. -/
theorem test_holdup : after .powerWarnAsserted State.reset (fun t => (t.sup.power, t.ctl.queue.flush, t.ctl.flush, t.ctl.flightLine)) =
    some (.holdup, [86, 87, 88, 89], .running, some 5) := by decide +kernel
/-- R178, R179: the dormancy drain, and a wake by an arrival. -/
theorem test_dormancy : after .dormancyTimerExpiry State.reset (fun t => (t.sup.power, t.ctl.queue.commit)) =
      some (.draining, [86, 87, 88, 89]) ∧
    after (.readStatus 1 []) (State.reset.setPower .dormant) (fun t => (t.sup.power, t.link.replies.length, t.tally.accrual)) =
      some (.active, 1, some 250000) := by decide +kernel

/-! ## Witnesses: each obligation's hypotheses are met, clause by clause -/

theorem ready_like {s : State} (h1 : s.sup = State.reset.sup) (h2 : s.pins = State.reset.pins) (h3 : s.link = State.reset.link)
    (h4 : s.ctl = State.reset.ctl) (r : Request) : s.ready r := by
  refine ⟨?_, ?_, ?_, ?_, fun _ => ?_⟩ <;> simp only [State.live, State.freePlaces, State.reserved, h1, h2, h3, h4] <;>
    first | decide +kernel | exact .inl rfl
theorem reset_ready (r : Request) : State.reset.ready r := ready_like rfl rfl rfl rfl r

/-! ### The machine -/

/-- Start-up before step 1, with a store. -/
def unread (st : Store) : State := { State.reset.atRest with store := st }
theorem witness_StepTakesFrontCommand : let s := unread []
    s.pending = [] ∧ s.live = true ∧ s.sup.power = .starting ∧ s.sup.unread = true ∧ State.reset.pending = [] ∧
    State.reset.sup.unread = false := by decide +kernel
/-- A recorder with the clock's second at the front of its queue, and everything at its bound. -/
def full : State :=
  let x (n : Nat) (b : Bool) : DeferredRecord := { id := n, tag := 1, kind := 0x16, awaits := [5], silent := b }
  { blocked with
    pending := [.wallClockTick]
    ctl := { StoreController.rest with dirty := [5, 177], records := [x 0 false, x 1 true, x 2 true, x 3 true] }
    link := { State.reset.link with intake := List.replicate 6 ⟨0x20, 1, []⟩, replies := List.replicate 11 (.retry 1 1), dropped := 65535 } }
theorem witness_StoreInvariantKept : full.storeOk ∧ ∃ t, step full = .next t :=
  ⟨⟨by decide, by decide, by decide, fun n h => by
    rcases h with h | h
    · exact absurd h (by simp [StoreController.holds, full, StoreController.rest, StoreController.flightLine, WriteQueue.empty, WriteQueue.lines])
    · have : n = 5 ∨ n = 177 := by simpa [full, StoreController.rest] using h
      rcases this with h | h <;> subst h <;> decide⟩, _, rfl⟩
theorem witness_LinkBoundsKept : full.linkBounds ∧ ∃ t, step full = .next t := ⟨by unfold State.linkBounds; decide +kernel, _, rfl⟩
/-- A REPLACE of the clutch in slot 7, its commit at the front of the queue, and the record of an empty book open in place 1. -/
def replacing : State :=
  let x := clutchSlot 500 ⟨some .slipUnits, 501, true⟩
  let staged : Staged :=
    { kind := .clutch, serial := [0x43], carried := [⟨.slipUnits, 0, 9⟩], serviceQuantity := some .slipUnits, due := 9,
      lifeQuantity := .slipUnits, limit := 10 }
  { withSlot 7 .clutch x with
    pending := [.commitFitment 4 []]
    fitment := some { action := .replace, position := .clutch, outgoing := some (7, x), interim := (Tally.zero .clutch 0).add .slipUnits 0 9,
                      exported := true, staged := some staged, timeout := 30, deadline := 1000 } }
theorem witness_SlotsMatchMap : replacing.tableOk ∧ ∃ t, step replacing = .next t ∧ t.table.map[Position.clutch.index] = some 0 :=
  ⟨⟨fun p => by cases p <;> decide +kernel, fun i h => by
      have hi : i = 7 := by revert i; decide +kernel
      subst hi; exact ⟨.clutch, .clutch, rfl, rfl, by decide⟩,
    fun c h => by cases h; exact ⟨by decide +kernel, by decide, fun x h => by cases h; decide⟩⟩, _, rfl, by decide +kernel⟩
/-- The commit closes record 1 and opens record 2; and before step 1 of start-up. -/
theorem witness_BookStaysConsecutive : replacing.bookOk ∧ (∃ t, step replacing = .next t ∧ t.book.newest = 2) ∧ (unread []).bookOk ∧
    ∃ t, step (unread []) = .next t ∧ t.sup.unread = false := by
  refine ⟨⟨fun h => absurd h (by decide), fun _ => ⟨by decide, by decide, by decide, by decide, fun q h1 h2 => ?_, fun p h => ?_⟩⟩,
    ⟨_, rfl, by decide +kernel⟩, ⟨fun _ => by decide, fun h => absurd h (by decide)⟩, _, rfl, by decide +kernel⟩
  · have hq : q = 1 := Nat.le_antisymm h2 h1
    subst hq
    exact ⟨_, rfl, rfl, by decide, by decide⟩
  · have hp := h 1 (by decide) (by decide)
    revert p
    decide +kernel
theorem witness_CountsStayWithinMaxima : full.countsOk ∧ ∃ t, step full = .next t := ⟨by unfold State.countsOk; decide +kernel, _, rfl⟩

/-! ### Channels, lines, clock -/

/-- CH0 with a capture running since 0. -/
def running (c : Channel) : State := withChannels [{ c with capture := some 0 }]
/-- Edges that change nothing: a DISABLED channel, STARTING, a falling edge, RESET held. Edges in STOPPED with no capture: one that completes
the revolution of a WHEEL_LF channel in DORMANT, one that does not, and one that completes it while RUNNING. -/
theorem witness_EdgeIgnoredOrCaptured : let wheel := withChannels [{ chan .wheelLF .stopped 0 with tooth := 59 }]
    let s := wheel.setPower .dormant
    let u := withChannels [{ chan .engineSpeed .stopped 0 with tooth := 58 }]
    let w : State := { wheel with run := { wheel.run with state := .running } }
    State.reset.channels[3].state = .disabled ∧ (State.reset.setPower .starting).sup.power = .starting ∧
    u.channels[0].cfg.edgeMode.isActive false = false ∧ (u.setPins { supply := true, reset := true, powerWarn := false }).live = false ∧
    (∀ x ∈ [s, u, w], x.live = true ∧ x.sup.power ≠ .starting ∧ x.channels[0].state = .stopped ∧
      x.channels[0].cfg.edgeMode.isActive true = true ∧ x.channels[0].capture = none) ∧
    decide (60 ≤ s.channels[0].tooth + 1) = true ∧ decide (60 ≤ u.channels[0].tooth + 1) = false ∧ s.run.state ≠ .running ∧
    ChannelFunction.wheelLF.towIndex ≠ none ∧ ChannelFunction.engineSpeed.towIndex = none ∧ w.run.state = .running ∧
    after (.activeEdge 0 true 5) s (fun t => (t.driveline.tow, t.driveline.towCounts[2], t.sup.power)) =
      some (.towSuspect, 1, .active) := by decide +kernel
/-- A period of exactly the minimum, 20 ticks, from STOPPED, and one cut off at 65,535 ticks from TURNING. -/
theorem witness_GoodPeriodGivesSpeed : let s := running (chan .engineSpeed .stopped 0)
    let u := running (chan .engineSpeed .turning 500)
    s.live = true ∧ s.sup.power ≠ .starting ∧ s.channels[0].state = .stopped ∧ u.channels[0].state = .turning ∧
    s.channels[0].cfg.edgeMode.isActive true = true ∧ s.channels[0].capture = some 0 ∧
    s.channels[0].cfg.minPeriod ≤ min 65535 ((s.now + 20 - 0) / 1) ∧ u.channels[0].cfg.minPeriod ≤ min 65535 ((u.now + 70000 - 0) / 1) := by
  decide +kernel
/-- The clauses of a good period: the speed at which an overspeed episode begins, one tenth above the threshold's, and at which it does
not; the edge that wakes DORMANT; BLIND, which the announcement ends in RUNNING; a launch at the threshold; a completed revolution of
an output-side function. -/
theorem witness_GoodPeriodGivesSpeed_clauses :
    let s : State := { running (chan .engineSpeed .stopped 0) with run := { State.reset.run with state := .blind } }
    let g := running (chan .gearOut .turning 90)
    let l : State := { g with driveline := { g.driveline with clutch := .launchPending, launchTimer := some 9 } }
    let w := running { chan .wheelRR .turning 90 with tooth := 59 }
    after (.activeEdge 0 true 312) s (fun t => (t.run.state, t.channels[0].speed)) = some (.running, some 8012) ∧
    [78, 79].map (fun p => after (.activeEdge 0 true p) s (fun t => (t.channels[0].speed, t.channels[0].episode))) =
      [some (some 32051, true), some (some 31645, false)] ∧
    after (.activeEdge 0 true 78) (s.setPower .dormant) (fun t => (t.sup.power, t.channels[0].episode, t.run.state)) =
      some (.active, false, .running) ∧
    after (.activeEdge 0 true 12500) l (fun t => (t.channels[0].speed, t.driveline.clutch)) = some (some 200, .engaged) ∧
    after (.activeEdge 0 true 12501) l (fun t => (t.channels[0].speed, t.driveline.clutch)) = some (some 199, .launchPending) ∧
    after (.activeEdge 0 true 1000) w (fun t => (t.driveline.tow, t.driveline.towCounts[5])) = some (.towSuspect, 1) := by decide +kernel
/-- A period of 19 ticks, one below the minimum, as the second and as the third short one in a row. -/
theorem witness_ShortPeriodCountsNoise : let s := running { chan .engineSpeed .turning 500 with short := 1 }
    let u := running { chan .engineSpeed .turning 500 with short := 2 }
    s.live = true ∧ s.sup.power ≠ .starting ∧ s.channels[0].state = .turning ∧ s.channels[0].capture = some 0 ∧
    min 65535 ((s.now + 19 - 0) / 1) < s.channels[0].cfg.minPeriod ∧ s.channels[0].short < 2 ∧ 2 ≤ u.channels[0].short ∧
    u.channels[0].state = .turning ∧ s.level .sensorFault ≠ 0 := by decide +kernel
/-- The seventh and the eighth good period, and a short one. -/
theorem witness_NoisyChannelRecovers : let c := { chan .engineSpeed .noisy 0 with speed := none }
    let s := running { c with good := 6 }
    let u := running { c with good := 7 }
    s.live = true ∧ s.channels[0].state = .noisy ∧ s.channels[0].capture = some 0 ∧ s.channels[0].good < 7 ∧
    7 ≤ u.channels[0].good ∧ u.channels[0].state = .noisy ∧ s.channels[0].cfg.minPeriod ≤ min 65535 ((s.now + 20 - 0) / 1) ∧
    min 65535 ((s.now + 19 - 0) / 1) < s.channels[0].cfg.minPeriod := by decide +kernel
theorem witness_StallStopsChannel : let s := running (chan .engineSpeed .stopped 0)
    let u := running (chan .gearIn .turning 500)
    let e := running (chan .engineSpeed .turning 4000)
    let r : State := { e with run := { e.run with state := .running } }
    s.channels[0].state = .stopped ∧ u.channels[0].state = .turning ∧ u.channels[0].capture = some 0 ∧ r.run.state = .running ∧
    r.lineActive .key = false ∧ r.sup.power = .active ∧ r.channels[0].cfg.function = .engineSpeed ∧
    after (.stallTimerExpiry 0) r (fun t => (t.run.state, t.ctl.queue.lines)) = some (.off, [86, 87, 88, 89]) := by decide +kernel
/-- KEY rises: with a filter, with filter time 0, and against a state that is ACTIVE already. -/
def keyLine (filtered : Bool) (filter : Nat) (timer : Timer) : State :=
  State.reset.setLineRecord .key { level := false, filtered := filtered, setting := { filter := filter, activeHigh := true }, timer := timer }
theorem witness_LineLevelMeetsFilter : (keyLine false 1 none).live = true ∧ (keyLine false 1 none).sup.power ≠ .starting ∧
    (∀ s ∈ [keyLine false 1 none, keyLine false 0 none, keyLine true 20 none], s.lines[LineId.key.index].level ≠ true) ∧
    (true == (keyLine true 20 none).lines[LineId.key.index].setting.activeHigh) = (keyLine true 20 none).lines[LineId.key.index].filtered ∧
    (true == (keyLine false 1 none).lines[LineId.key.index].setting.activeHigh) ≠ (keyLine false 1 none).lines[LineId.key.index].filtered ∧
    0 < (keyLine false 1 none).lines[LineId.key.index].setting.filter ∧
    (keyLine false 0 none).lines[LineId.key.index].setting.filter = 0 := by decide +kernel
theorem witness_FilterExpiryTurnsLine : let x := (keyLine true 20 (some 5000)).lines[LineId.key.index]
    x.timer = some 5000 ∧ (x.level == x.setting.activeHigh) ≠ x.filtered := by decide +kernel
/-- A line turning, its filter timer due at 5000, in a recorder with KEY ACTIVE or not. -/
def turning (l : LineId) (on key : Bool) (s : State) : State :=
  (s.setLineRecord .key { level := key, filtered := key, setting := .default, timer := none }).setLineRecord l
    { level := on, filtered := !on, setting := .default, timer := some 5000 }
/-- The engine and GEAR_OUT stand; a run state and a crank measurement. -/
def at_ (st : RunState) (m : Option Nat) : State :=
  { withChannels [chan .engineSpeed .stopped 0, chan .gearOut .stopped 0] with
    now := 30000, run := { State.reset.run with state := st, measure := m } }
/-- The Run Detector after a filter timer's expiry. -/
def run (c : LineId) (s : State) : Option (RunState × Option Nat × Nat) :=
  after (.lineFilterExpiry c) s fun t => (t.run.state, t.run.measure, t.run.attempt)
/-- CRANK ACTIVE in OFF with KEY ACTIVE and INACTIVE, in CRANKING, and in RUNNING; CRANK INACTIVE 24,999 and 25,000 units of 4 µs after the start of
a measurement. -/
theorem witness_FilterExpiryTurnsLine_clauses :
    run .crank (turning .crank true true (at_ .off none)) = some (.cranking, some 30000, 0) ∧
    run .crank (turning .crank true false (at_ .off none)) = some (.off, none, 0) ∧
    run .crank (turning .crank true true (at_ .cranking none)) = some (.cranking, some 30000, 0) ∧
    run .crank (turning .crank true true (at_ .running none)) = some (.running, none, 0) ∧
    run .crank (turning .crank false true (at_ .cranking (some 5001))) = some (.cranking, none, 0) ∧
    run .crank (turning .crank false true (at_ .cranking (some 5000))) = some (.cranking, none, 1) ∧
    (turning .crank true true (at_ .off none)).holder .starter = .orphan := by decide +kernel
/-- CLUTCH at a standing GEAR_OUT while RUNNING and while not, and PTO_ON while RUNNING, which wakes DORMANT. -/
theorem witness_FilterExpiryTurnsLine_driveline :
    after (.lineFilterExpiry .clutch) (turning .clutch true false (at_ .running none)) (fun t => t.driveline.clutch) = some .launchPending ∧
    after (.lineFilterExpiry .clutch) (turning .clutch true false (at_ .off none)) (fun t => t.driveline.clutch) = some .engaged ∧
    after (.lineFilterExpiry .ptoOn) (turning .ptoOn true false ((at_ .running none).setPower .dormant))
      (fun t => (t.driveline.pto, t.tally.orphans[Position.pto.index].value .ptoEngagements, t.sup.power)) =
      some (.working, some 1, .active) := by decide +kernel
theorem witness_ClockCountsAndIsSet : State.reset.clock.tick = some 250000 ∧
    State.reset.ready ⟨0x03, 1, leBytes 4 4294967295⟩ ∧ (leBytes 4 4294967295).length = 4 := ⟨rfl, reset_ready _, by decide +kernel⟩

/-! ### Run Detector, Driveline Observer -/

/-- The run state at an engine speed, with both confirm timers due at 9. -/
def engine (st : RunState) (v : Nat) : State :=
  let run : RunDetector := { State.reset.run with state := st, runTimer := some 9, stopTimer := some 9 }
  { withChannels [chan .engineSpeed .turning v] with run := run }
/-- At exactly 400.0 rpm, from CRANKING and from OFF. -/
theorem witness_RunConfirmStartsEngine : (engine .cranking 4000).run.runTimer = some 9 ∧ (engine .cranking 4000).runCondition = true ∧
    (engine .off 4000).runCondition = true ∧ (engine .off 4000).holder .engine = .orphan ∧ (engine .cranking 4000).holder .starter = .orphan ∧
    (engine .off 4000).level .uncrankedStart ≠ 0 := by decide +kernel
/-- One tenth below 250.0 rpm, from CRANKING and from RUNNING with KEY INACTIVE. -/
theorem witness_StopConfirmStopsEngine : (engine .cranking 2499).run.stopTimer = some 9 ∧ (engine .cranking 2499).stopCondition = true ∧
    (engine .running 2499).stopCondition = true ∧ (engine .running 2499).lineActive .key = false ∧
    (engine .running 2499).sup.power = .active ∧ (engine .cranking 2499).holder .starter = .orphan ∧
    86 ∈ (engine .running 2499).ctl.dirty := by decide +kernel
/-- What a run-state transition does: from RUNNING a launch is dropped, to RUNNING a standing GEAR_OUT pends, the checkpoint timer starts. -/
theorem witness_RunConfirm_ranTo : let s := at_ .off none
    let d : Driveline := { s.driveline with clutch := .engaged }
    let e : State := { engine .off 4000 with channels := s.channels.set 0 (chan .engineSpeed .turning 4000), driveline := d }
    let r : State := { engine .running 2499 with driveline := { s.driveline with clutch := .launchPending } }
    e.runCondition = true ∧ e.driveline.tow = .notTowing ∧ e.ctl.checkpointTimer = none ∧ r.stopCondition = true ∧
    after .runConfirmExpiry e (fun t => (t.driveline.clutch, t.ctl.checkpointTimer.isSome)) = some (.launchPending, true) ∧
    after .stopConfirmExpiry r (fun t => t.driveline.clutch) = some .engaged := by decide +kernel
/-- The Driveline Observer with every timer due at 9. -/
def driven (gear : GearState) (last : Option Nat) (clutch : ClutchState) : State :=
  { State.reset with driveline := { State.reset.driveline with
      gear := gear, lastGear := last, settleTimer := some 9, clutch := clutch, launchTimer := some 9, fresh := true, load := some 60,
      staleTimer := some 9, tow := .towing, quietTimer := some 9 } }
theorem witness_SettledGearEngages : let s := driven (.settling 1) (some 0) .engaged
    s.driveline.settleTimer = some 9 ∧ s.driveline.gear = .settling 1 ∧ s.driveline.lastGear = some 0 ∧ s.holder .gearbox = .orphan ∧
    (driven (.settling 1) none .engaged).driveline.lastGear = none ∧
    (driven (.settling 1) (some 1) .engaged).driveline.lastGear = some 1 := by decide +kernel
theorem witness_DrivelineTimersExpire : let s := driven .idle none .launchPending
    s.driveline.launchTimer = some 9 ∧ s.driveline.clutch = .launchPending ∧ s.driveline.staleTimer = some 9 ∧
    s.driveline.quietTimer = some 9 ∧ s.level .loadStale ≠ 0 := by decide +kernel
theorem witness_LoadSampleTaken : State.reset.ready ⟨0x07, 1, [100]⟩ ∧ (100 : Byte).toNat ≤ 100 ∧
    State.reset.ready ⟨0x07, 1, [101]⟩ ∧ 100 < (101 : Byte).toNat := ⟨reset_ready _, by decide, reset_ready _, by decide⟩

/-! ### Tally Engine -/

theorem witness_AccrualSecondRoutesQuanta : driving.tally.accrual = some 250000 ∧ driving.holder .engine = .orphan := by decide +kernel
/-- The same second with ENGINE in slot 3, whose service threshold the second reaches, and an INSTALL open at GEARBOX. -/
def drivingFitted : State :=
  let x : Slot := fitted .engine .engine ((Tally.zero .engine 6).add .runSeconds 0 99)
    (⟨some .runSeconds, 100, true⟩, ⟨.wearUnits, 151, false⟩)
  { driving with
    table := (withSlot 3 .engine x).table
    fitment := some { action := .install, position := .gearbox, outgoing := none, interim := .zero .gearbox 6, exported := false,
                      staged := none, timeout := 120, deadline := 1000 } }
/-- What the accrual second brings to the slot, to the interim accumulator, to an orphan tally and to the open record: RUN_SECONDS and
WEAR_UNITS, the second of the slot one short of its life limit. -/
theorem witness_AccrualSecondRoutesQuanta_holders :
    drivingFitted.tally.accrual = some 250000 ∧ drivingFitted.holder .engine = .slot 3 ∧ drivingFitted.holder .gearbox = .interim ∧
    drivingFitted.holder .aux1 = .orphan ∧
    after .accrualTimerExpiry drivingFitted (fun t => (t.table.slots[3].ident.limits.map fun l => (l.1.armed, l.2.overLife))) =
      some (some (false, false)) ∧
    after .accrualTimerExpiry drivingFitted (fun t => [t.tallyOf .engine (.slot 3), t.tallyOf .gearbox .interim,
      t.tallyOf .aux1 .orphan].map fun a => (a.value .runSeconds, a.value .wearUnits)) =
      some [(some 100, some 150), (some 1, some 150), (some 1, none)] ∧
    after .accrualTimerExpiry drivingFitted (fun t => [Position.engine, .gearbox, .aux1, .hubLF].map fun p =>
      (t.book.places[t.book.openPlace].increment p .runSeconds, t.book.places[t.book.openPlace].increment p .wearUnits)) =
      some [(1, 150), (1, 150), (1, 0), (0, 150)] := by decide +kernel
/-- No other position shares the slot, the interim accumulator or an orphan tally. -/
theorem witness_ownHolder : drivingFitted.ownHolder .engine ∧ drivingFitted.ownHolder .gearbox ∧ drivingFitted.ownHolder .aux1 := by
  refine ⟨?_, ?_, ?_⟩ <;> intro q <;> cases q <;> decide +kernel
/-- Loads at both ends of the bins L0 and L4. -/
theorem witness_AccrualAmounts : driving.driveline.gear = .engaged 3 ∧ driving.run.state = .running ∧ driving.driveline.fresh = true ∧
    driving.driveline.load = some 65 ∧ State.reset.run.state ≠ .running ∧ (engine .running 0).driveline.fresh = false ∧
    [0, 19, 20, 80, 100].map (fun v => ({ driving with driveline := { driving.driveline with load := some v } }.secondAmount .engine .loadSeconds).2)
      = [1, 1, 2, 5, 5] := by decide +kernel
/-- What the accrual second reads at the edges of the other clauses: an overspeed episode and none, a wheel that turns in TOWING and one that
does not turn, wear weights by group while RUNNING and while towed, and slip at a difference of the tolerance, 50 rpm, and one above. -/
theorem witness_AccrualAmounts_clauses :
    let o := withChannels [{ chan .engineSpeed .turning 33000 with episode := true }, chan .gearIn .turning 500]
    let w := withChannels [chan .wheelLF .turning 900, chan .wheelRF .stopped 0, chan .gearOut .turning 900]
    let tow : State := { w with driveline := { w.driveline with tow := .towing } }
    let slip (v : Nat) : State :=
      let s := withChannels [chan .engineSpeed .turning v, chan .gearIn .stopped 0]
      let u : State := { s with run := { s.run with state := .running }, driveline := { s.driveline with fresh := true, load := some 100 } }
      u.setLineRecord .clutch { level := true, filtered := true, setting := .default, timer := none }
    o.channelOf .engineSpeed = some 0 ∧ o.channelOf .gearIn = some 1 ∧ State.reset.channelOf .gearIn = none ∧
    (o.secondAmount .engine .overspeedSeconds, o.secondAmount .gearbox .overspeedSeconds) = ((1, 0), (0, 0)) ∧
    [Position.hubLF, .hubRF].map (fun p => (tow.secondAmount p .towSeconds).1) = [1, 0] ∧
    [Position.hubLF, .hubRF, .gearbox, .engine].map (fun p => (tow.secondAmount p .wearUnits).1) =
      [defaultWeights[27], 0, defaultWeights[13], 0] ∧
    (driving.secondAmount .engine .wearUnits).1 = defaultWeights[4] ∧
    [509, 510].map (fun v => ((slip v).secondAmount .clutch .slipUnits).1) = [0, 51] := by decide +kernel
theorem witness_QuantumHasOneHolder : let s := withSlot 7 .clutch (clutchSlot 0 ⟨none, 0, false⟩)
    let stray : State := withSlot 7 .clutch { Slot.empty with ident := .bare .damaged }
    (quantum .clutch .slipUnits 618).amount ≠ 0 ∧ State.reset.holder .clutch = .orphan ∧ State.reset.fitment = none ∧
    State.reset.table.map[Position.clutch.index] = none ∧ s.holder .clutch = .slot 7 ∧ s.table.map[Position.clutch.index] = some 7 ∧
    s.table.slots[7].ident.state = .fitted ∧ stray.table.map[Position.clutch.index] = some 7 ∧
    stray.table.slots[7].ident.state ≠ .fitted ∧ stray.holder .clutch = .orphan ∧
    installing.holder .hubLR = .interim ∧ (installing.fitment.map (·.position)) = some .hubLR ∧ Position.clutch ≠ .hubLR ∧
    Quantity.loadSeconds.isHist = true ∧ Quantity.slipUnits.isHist = false := by decide +kernel
/-- An increment line in the order of R132, with an amount two below the maximum: one quantum reaches 4,294,967,295, one passes it. And a
scalar that reaches 281,474,976,710,655 exactly and passes it by 1. -/
theorem witness_QuantumHasOneHolder_values :
    let e : List Entry := [{ position := .clutch, pairs := [⟨.launches, 1, false⟩, ⟨.slipUnits, 4294967293, false⟩] },
                           { position := .gearbox, pairs := [⟨.starts, 1, false⟩] }]
    let a : Place := { header := none, lines := Vector.replicate 3 { seq := some 1, entries := e } }
    let x : Scalar := { quantity := .starts, value := some 281474976710654, saturated := false }
    ((e.map fun y => y.position.code).Pairwise (· < ·)) ∧ (∀ y ∈ e, (y.pairs.map fun z => z.quantity.code).Pairwise (· < ·)) ∧
    [2, 3].map (fun n => ((a.add .clutch .slipUnits n).increment .clutch .slipUnits, (a.add .clutch .slipUnits n).mark .clutch .slipUnits)) =
      [(4294967295, false), (4294967295, true)] ∧
    281474976710654 + 1 ≤ 281474976710655 ∧ 281474976710655 < 281474976710654 + 2 ∧ x.add 1 = { x with value := some 281474976710655 } ∧
    x.add 2 = { x with value := some 281474976710655, saturated := true } := by decide +kernel
/-- The clutch in slot 7, its SLIP_UNITS and the open record's increment two below their maxima, the service threshold at 2 and the life
limit at 1 below the maximum. -/
def brimming : State :=
  let x : Slot := fitted .clutch .clutch { scalars := [⟨.launches, some 3, false⟩, ⟨.slipUnits, some 281474976710653, false⟩], hists := [] }
    (⟨some .slipUnits, 281474976710653, true⟩, ⟨.slipUnits, 281474976710654, false⟩)
  let b := State.reset.book
  { withSlot 7 .clutch x with book := { b with places := b.places.set 1 (b.places[1].add .clutch .slipUnits 4294967293) } }
/-- Amounts 1, 2 and 3: the thresholds reached at the due value and at the limit, the maxima reached exactly and passed; SATURATED names the
slot and then counts the period's raise, and a histogram's quantum names its entry. -/
theorem witness_QuantumHasOneHolder_next :
    let next (n : Nat) : State := brimming.route (quantum .clutch .slipUnits n)
    let hist : State := { drivingFitted with table := (withSlot 3 .engine (fitted .engine .engine
      ((Tally.zero .engine 6).add .loadSeconds 4 281474976710655) (⟨none, 0, false⟩, ⟨.wearUnits, 0, false⟩))).table }
    brimming.holder .clutch = .slot 7 ∧ brimming.level .saturated ≠ 0 ∧ brimming.notice .saturated = none ∧
    [0, 1, 2].map (fun n => (next n).table.slots[7].ident.limits.map fun l => (l.1.armed, l.2.overLife)) =
      [some (true, false), some (false, true), some (false, true)] ∧
    [1, 2, 3].map (fun n => ((next n).notice .serviceDue, (next n).notice .lifeLimit)) =
      List.replicate 3 (some { detail := .slot 7, repeats := 0 }, some { detail := .slot 7, repeats := 0 }) ∧
    [2, 3].map (fun n => (next n).notice .saturated) =
      [none, some { detail := .saturated (.slot 7) .clutch .slipUnits none, repeats := 1 }] ∧
    (hist.route ⟨.engine, .loadSeconds, 4, 1⟩).notice .saturated =
      some { detail := .saturated (.slot 3) .engine .loadSeconds (some 4), repeats := 0 } := by decide +kernel
theorem witness_OrphansCleared : State.reset.ready ⟨0x0B, 1, [BitVec.ofNat 8 Position.aux2.code]⟩ ∧ State.reset.ready ⟨0x0B, 1, [16]⟩ ∧
    15 < (16 : Byte).toNat := ⟨reset_ready _, reset_ready _, by decide⟩
/-- The due value one above the tally's value, and equal to it. -/
theorem witness_ServiceRearmed : let s := withSlot 7 .clutch (clutchSlot 500 ⟨some .slipUnits, 400, false⟩)
    let p := [7, 15] ++ leBytes 6 501
    s.ready ⟨0x0C, 1, p⟩ ∧ p.length = 8 ∧ field p 0 1 = 7 ∧ field p 1 1 = Quantity.slipUnits.code ∧
    s.table.slots[7].ident.state = .fitted ∧ s.isOutgoing 7 = false ∧ s.table.slots[7].ident.position = some .clutch ∧
    Position.clutch.scalarProfile.contains .slipUnits = true ∧ s.table.slots[7].ident.limits.isSome = true ∧
    (s.table.slots[7].tally.value .slipUnits).getD 0 < field p 2 6 ∧
    field ([7, 15] ++ leBytes 6 500) 2 6 ≤ (s.table.slots[7].tally.value .slipUnits).getD 0 ∧ s.level .serviceDue ≠ 0 :=
  ⟨ready_like rfl rfl rfl rfl _, by decide +kernel⟩

/-- The replies to a REARM_SERVICE with due value 1. -/
def refused (p : List Byte) (s : State) : Option (List Reply) := after (.rearmService 1 (p ++ leBytes 6 1)) s fun t => t.link.replies
/-- The refusals of REARM_SERVICE: a slot number and a quantity code one above the last, an EMPTY, a DAMAGED and an outgoing slot, and a
quantity that is not in the position's profile. -/
theorem witness_ServiceRearmed_refused : State.reset.ready ⟨0x0C, 1, [20, 15] ++ leBytes 6 1⟩ ∧
    installing.ready ⟨0x0C, 1, [0, 15] ++ leBytes 6 1⟩ ∧ replacing.ready ⟨0x0C, 1, [7, 15] ++ leBytes 6 1⟩ ∧
    refused [20, 15] .reset = some [.refused 1 0x0C .outOfRange] ∧ refused [0, 20] .reset = some [.refused 1 0x0C .outOfRange] ∧
    refused [0, 15] .reset = some [.refused 1 0x0C .slotEmpty] ∧ refused [0, 15] installing = some [.refused 1 0x0C .wrongState] ∧
    refused [7, 15] replacing = some [.refused 1 0x0C .positionHeld] ∧
    refused [7, 0] (withSlot 7 .clutch (clutchSlot 0 ⟨none, 0, false⟩)) = some [.refused 1 0x0C .notInProfile] :=
  ⟨reset_ready _, ready_like rfl rfl rfl rfl _, ready_like rfl rfl rfl rfl _, by decide +kernel⟩

/-! ### Settings -/

/-- A SET_CHANNEL payload of CH0 with the lowest and the highest settings. -/
def channelPayload (n f teeth edge base mp os en : Nat) : List Byte :=
  leBytes 1 n ++ leBytes 1 f ++ leBytes 2 teeth ++ leBytes 1 edge ++ leBytes 1 base ++ leBytes 2 mp ++ leBytes 2 os ++ leBytes 1 en
/-- The values of R21, as ChannelSetOrRefused has them. -/
def channelValues (p : List Byte) : Bool :=
  decide (field p 0 1 ≤ 9 ∧ field p 1 1 ≤ 10 ∧ 1 ≤ field p 2 2 ∧ field p 2 2 ≤ 1023 ∧ field p 4 1 ≤ 2 ∧ field p 5 1 ≤ 1 ∧
    1 ≤ field p 6 2 ∧ (field p 8 2 = 0 ∨ 100 ≤ field p 8 2 ∧ field p 8 2 ≤ 20000) ∧ field p 10 1 ≤ 1)
/-- Settings at the ends of their ranges and one beyond, a function given again and one taken, and a TURNING channel. -/
theorem witness_ChannelSetOrRefused : let s := withChannels [chan .engineSpeed .stopped 0, chan .gearIn .turning 500]
    s.ready ⟨0x01, 1, channelPayload 0 0 1023 2 1 65535 20000 1⟩ ∧
    (∀ p ∈ [channelPayload 0 0 1 0 0 1 0 0, channelPayload 0 0 1023 2 1 65535 20000 1, channelPayload 1 1 1 0 0 1 100 1,
      channelPayload 0 10 1 0 0 1 0 0], p.length = 11 ∧ channelValues p = true) ∧
    (∀ p ∈ [channelPayload 10 0 1 0 0 1 0 0, channelPayload 0 11 1 0 0 1 0 0, channelPayload 0 0 0 0 0 1 0 0,
      channelPayload 0 0 1024 0 0 1 0 0, channelPayload 0 0 1 3 0 1 0 0, channelPayload 0 0 1 0 2 1 0 0, channelPayload 0 0 1 0 0 0 0 0,
      channelPayload 0 0 1 0 0 1 99 0, channelPayload 0 0 1 0 0 1 20001 0, channelPayload 0 0 1 0 0 1 0 2],
      p.length = 11 ∧ channelValues p = false) ∧
    ChannelFunction.ofCode 0 = some .engineSpeed ∧ ChannelFunction.ofCode 10 = some .unassigned ∧
    s.channels[0].cfg.function = .engineSpeed ∧ s.channels[0].state = .stopped ∧ s.channels[1].state = .turning ∧ s.run.state = .blind :=
  ⟨ready_like rfl rfl rfl rfl _, by decide +kernel⟩
theorem witness_LinesSet : State.reset.ready ⟨0x02, 1, [255, 1, 0, 0, 20, 0, 20, 0, 20, 1]⟩ ∧
    (∀ k : Fin 5, field [255, 1, 0, 0, 20, 0, 20, 0, 20, 1] (2 * k.val + 1) 1 ≤ 1) ∧
    1 < field [255, 1, 0, 0, 20, 0, 20, 0, 20, 2] (2 * 4 + 1) 1 := ⟨reset_ready _, by decide +kernel⟩
/-- The ends of the ranges of R42, and a stop threshold one too high. -/
theorem witness_EngineThresholdsSet : State.reset.ready ⟨0x04, 1, leBytes 2 100 ++ leBytes 2 50 ++ leBytes 2 5000⟩ ∧
    (leBytes 2 100 ++ leBytes 2 50 ++ leBytes 2 5000).length = 6 ∧
    (readEngine (leBytes 2 100 ++ leBytes 2 50 ++ leBytes 2 5000)).ok = true ∧
    (readEngine (leBytes 2 100 ++ leBytes 2 51 ++ leBytes 2 5000)).ok = false ∧
    (readEngine (leBytes 2 3000 ++ leBytes 2 2950 ++ leBytes 2 100)).ok = true := ⟨reset_ready _, by decide +kernel⟩
/-- A Gear Table as a SET_GEAR_TABLE payload. -/
def tablePayload (x : GearTable) : List Byte := leBytes 2 x.settle ++ leBytes 1 x.entries.length ++ x.entries.flatMap fun e =>
  leBytes 2 e.ratio ++ leBytes 1 e.tolerance ++ leBytes 1 (if e.direction = .forward then 0 else 1)
/-- Two FORWARD entries with a tolerance of 50 ‰: 950 has the window 903 to 997, 1,050 that from 998, 1,049 that from 997. -/
def pairTable (a b : Nat) : GearTable := { settle := 50, entries := [⟨a, 50, .forward⟩, ⟨b, 50, .forward⟩] }
theorem witness_GearTableSet : let s := withSlot 4 .gearbox (fitted .gearbox .gearbox (.zero .gearbox 0) (⟨none, 0, false⟩, ⟨.runSeconds, 0, false⟩))
    State.reset.ready ⟨0x05, 1, tablePayload (pairTable 950 1050)⟩ ∧ s.ready ⟨0x05, 1, tablePayload gears⟩ ∧
    (∀ x ∈ [pairTable 950 1050, pairTable 950 1049, gears], (tablePayload x).length = 3 + 4 * x.entries.length ∧
      field (tablePayload x) 0 2 = x.settle ∧ field (tablePayload x) 2 1 = x.entries.length ∧
      (∀ k : Fin 6, ∀ e ∈ x.entries[k.val]?, field (tablePayload x) (3 + 4 * k.val) 2 = e.ratio ∧
        field (tablePayload x) (5 + 4 * k.val) 1 = e.tolerance ∧
        Direction.ofCode (field (tablePayload x) (6 + 4 * k.val) 1) = some e.direction) ∧ 50 ≤ x.settle ∧
      (∀ e ∈ x.entries, 500 ≤ e.ratio ∧ e.ratio ≤ 20000 ∧ 5 ≤ e.tolerance ∧ e.tolerance ≤ 200)) ∧
    ((pairTable 950 1050).entries.Pairwise fun a b => a.direction = b.direction → a.upper < b.lower ∨ b.upper < a.lower) ∧
    (¬(pairTable 950 1049).entries.Pairwise fun a b => a.direction = b.direction → a.upper < b.lower ∨ b.upper < a.lower) ∧
    s.table.map[Position.gearbox.index] = some 4 ∧ s.table.slots[4].ident.state = .fitted ∧
    State.reset.table.map[Position.gearbox.index] = none ∧ State.reset.driveline.table.entries.length ≠ 2 :=
  ⟨reset_ready _, ready_like rfl rfl rfl rfl _, by decide +kernel⟩
/-- A count of 13, a settle time and a ratio out of range; and an open GEARBOX fitment, whose accumulator is resized. -/
theorem witness_GearTableSet_clauses : let bad := [{ pairTable 950 1050 with settle := 49 }, pairTable 499 1050]
    let c : Context :=
      { action := .install, position := .gearbox, outgoing := none, interim := .zero .gearbox 0, exported := false,
        staged := none, timeout := 30, deadline := 1000 }
    (∀ x ∈ bad, after (.setGearTable 1 (tablePayload x)) .reset (fun t => t.link.replies) = some [.refused 1 0x05 .outOfRange]) ∧
    after (.setGearTable 1 (leBytes 2 300 ++ [13] ++ List.replicate 52 0)) .reset (fun t => t.link.replies) =
      some [.refused 1 0x05 .outOfRange] ∧
    after (.setGearTable 1 (tablePayload gears)) { State.reset with fitment := some c } (fun t => t.fitment) =
      some (some { c with interim := .zero .gearbox 6 }) := by decide +kernel
/-- The lowest and the highest values of R73, R160 and R178, and one beyond each. -/
theorem witness_LineThreeSettingsReplaced :
    let low := leBytes 2 5 ++ [1] ++ leBytes 2 10 ++ leBytes 2 500 ++ [0] ++ leBytes 2 5 ++ [2]
    let high := leBytes 2 200 ++ [10] ++ leBytes 2 1000 ++ leBytes 2 10000 ++ [100] ++ leBytes 2 500 ++ [60]
    State.reset.ready ⟨0x06, 1, low⟩ ∧ State.reset.sup.dormancy ≠ none ∧ State.reset.ready ⟨0x1B, 1, leBytes 2 600 ++ [60]⟩ ∧ State.reset.ready ⟨0x1D, 1, leBytes 2 30⟩ ∧
    low.length = 11 ∧ high.length = 11 ∧ (readDriveline low).ok = true ∧ (readDriveline high).ok = true ∧
    (readDriveline (high.set 10 61)).ok = false ∧ (readTiming (leBytes 2 10 ++ [1])).ok = true ∧
    (readTiming (leBytes 2 600 ++ [60])).ok = true ∧ (readTiming (leBytes 2 601 ++ [60])).ok = false ∧
    [29, 30, 3600, 3601].map delayOk = [false, true, true, false] :=
  ⟨reset_ready _, by decide +kernel, reset_ready _, reset_ready _, by decide +kernel⟩
theorem witness_LineFourSettingsReplaced :
    let w (n : Nat) : List Byte := (List.replicate 28 (leBytes 2 n)).flatten
    State.reset.ready ⟨0x09, 1, w 400⟩ ∧ State.reset.ready ⟨0x22, 1, List.replicate 14 0 ++ [7]⟩ ∧ (w 400).length = 56 ∧
    (∀ k : Fin 28, field (w 400) (2 * k.val) 2 ≤ 400) ∧ 400 < field (w 401) (2 * (27 : Fin 28).val) 2 ∧
    (List.replicate 14 (0 : Byte) ++ [7]).length = 15 ∧ (readNotices (List.replicate 14 0 ++ [7])).ok = true ∧
    (readNotices (List.replicate 14 7 ++ [1])).ok = true ∧ (readNotices (List.replicate 14 7 ++ [0])).ok = false ∧
    (readNotices (List.replicate 13 7 ++ [8, 1])).ok = false := ⟨reset_ready _, reset_ready _, by decide +kernel⟩

/-! ### Reads -/

/-- A first item at the item count and one above it; sequence numbers at the book's bounds and beyond. -/
theorem witness_ReadsChangeNothing : let s := withSlot 7 .clutch (clutchSlot 500 ⟨none, 0, false⟩)
    let b := withBook (bookOf 38 56 .idle none)
    State.reset.ready ⟨0x0A, 1, [16]⟩ ∧ State.reset.ready ⟨0x0D, 1, [20, 0]⟩ ∧ s.ready ⟨0x0D, 1, [7, 2]⟩ ∧ b.ready ⟨0x19, 1, leBytes 4 38 ++ [15]⟩ ∧ State.reset.ready ⟨0x0E, 1, [BitVec.ofNat 8 Position.aux2.code]⟩ ∧
    15 < (16 : Byte).toNat ∧ 20 ≤ field [20, 0] 0 1 ∧ 15 < field (leBytes 4 38 ++ [16]) 4 1 ∧ field [7, 2] 0 1 = (7 : Fin 20).val ∧ field [7, 2] 1 1 ≤ s.table.slots[7].tally.items.length ∧
    s.table.slots[7].tally.items.length < field [7, 3] 1 1 ∧ field (leBytes 4 38 ++ [15]) 4 1 = Position.aux2.code ∧
    (b.book.header 38).isSome = true ∧ (b.book.header 56).isSome = true ∧ b.book.oldest ≤ 38 ∧ 37 < b.book.oldest ∧ b.book.newest < 57 ∧
    (installing.fitment.map (·.position)) = some .hubLR ∧ State.reset.fitment = none :=
  ⟨reset_ready _, reset_ready _, ready_like rfl rfl rfl rfl _, ready_like rfl rfl rfl rfl _, reset_ready _, by decide +kernel⟩
theorem witness_IdentityAndStatusReported : let s := State.reset.setPower .starting
    State.reset.live = true ∧ State.reset.sup.power = .active ∧ s.sup.power = .starting ∧ s.live = true ∧ 2 ≤ s.freePlaces ∧
    s.ctl.records.length < 4 ∧ s.link.intake = [] := by decide +kernel
theorem witness_LiveReported : State.reset.ready ⟨0x08, 1, []⟩ ∧ State.reset.channels[0].speed = some 0 ∧
    (withChannels [{ chan .gearIn .noisy 0 with speed := none }]).channels[0].speed = none := ⟨reset_ready _, by decide +kernel⟩

/-! ### Component Table, Fitment Manager -/

theorem witness_SlotDiscarded : State.reset.ready ⟨0x0F, 1, [20]⟩ ∧ 20 ≤ (20 : Byte).toNat ∧ (19 : Byte).toNat = (19 : Fin 20).val ∧
    installing.table.slots[11].ident.state = .damaged ∧ installing.table.slots[19].ident.state = .empty ∧ installing.ready ⟨0x0F, 1, [11]⟩ ∧
    (withSlot 7 .clutch (clutchSlot 0 ⟨none, 0, false⟩)).table.slots[7].ident.state = .fitted :=
  ⟨reset_ready _, by decide, by decide, by decide +kernel, by decide +kernel, ready_like rfl rfl rfl rfl _, by decide +kernel⟩
/-- INSTALL at an unmapped position and REMOVE at a mapped one, at both ends of the timeout, and what fails. -/
theorem witness_FitmentBegun : let s := withSlot 7 .clutch (clutchSlot 0 ⟨none, 0, false⟩)
    let values (p : List Byte) := decide (field p 0 1 ≤ 15 ∧ field p 1 1 ≤ 2 ∧ 30 ≤ field p 2 2 ∧ field p 2 2 ≤ 600)
    s.ready ⟨0x10, 1, [2, 0] ++ leBytes 2 30⟩ ∧ State.reset.ready ⟨0x10, 1, [15, 1] ++ leBytes 2 600⟩ ∧
    installing.ready ⟨0x10, 1, [2, 0] ++ leBytes 2 30⟩ ∧
    values ([2, 0] ++ leBytes 2 30) = true ∧ values ([15, 1] ++ leBytes 2 600) = true ∧ values ([2, 0] ++ leBytes 2 29) = false ∧
    values ([2, 0] ++ leBytes 2 601) = false ∧ values ([16, 0] ++ leBytes 2 30) = false ∧ values ([2, 3] ++ leBytes 2 30) = false ∧
    Position.ofCode 2 = some .clutch ∧ Action.ofCode 0 = some .remove ∧ Action.ofCode 1 = some .install ∧
    Position.ofCode 15 = some .aux2 ∧ s.table.map[Position.clutch.index] ≠ none ∧ s.fitment = none ∧
    State.reset.table.map[Position.aux2.index] = none ∧ installing.fitment ≠ none :=
  ⟨ready_like rfl rfl rfl rfl _, reset_ready _, ready_like rfl rfl rfl rfl _, by decide +kernel⟩
/-- The staged record of 7.10 as a STAGE_COMPONENT payload, its entries not in order. -/
def stagedHub : Staged :=
  { kind := .hub, serial := [0x48], carried := [⟨.revolutions, 0, 5⟩, ⟨.wearUnits, 0, 281474976710655⟩], serviceQuantity := none, due := 0,
    lifeQuantity := .revolutions, limit := 60000000 }
def stagePayload (k : Nat) : List Byte :=
  leBytes 1 k ++ textBytes 20 [0x48] ++ [0xFF] ++ leBytes 6 0 ++ [9] ++ leBytes 6 60000000 ++ [2] ++ [9, 0] ++ leBytes 6 5 ++ [8, 0] ++
  leBytes 6 281474976710655
theorem witness_ComponentStaged : let p := stagePayload 7
    installing.ready ⟨0x11, 1, p⟩ ∧ State.reset.ready ⟨0x11, 1, p⟩ ∧
    p.length = 37 + 8 * stagedHub.carried.length ∧ field p 36 1 = 2 ∧ Kind.ofCode (field p 0 1) = some .hub ∧
    textField 20 p 1 = some stagedHub.serial ∧ field p 22 1 = 0xFF ∧ field p 23 6 = 0 ∧
    Quantity.ofCode (field p 29 1) = some .revolutions ∧ field p 30 6 = 60000000 ∧
    (∀ k : Fin 2, Quantity.ofCode (field p (37 + 8 * k.val) 1) = some stagedHub.carried[k].quantity ∧
      field p (38 + 8 * k.val) 1 = stagedHub.carried[k].index ∧ field p (39 + 8 * k.val) 6 = stagedHub.carried[k].value) ∧
    (installing.fitment.map fun c => (c.action, c.position)) = some (.install, .hubLR) ∧ Position.hubLR ∈ stagedHub.kind.fits ∧
    Kind.ofCode (field (stagePayload 6) 0 1) = some .diff ∧ Position.hubLR ∉ Kind.diff.fits ∧
    (∀ e ∈ stagedHub.carried, e.quantity ∈ Position.hubLR.profile ∧ e.index < 1) ∧ stagedHub.lifeQuantity ∈ Position.hubLR.scalarProfile ∧
    (stagedHub.carried.Pairwise fun a b => a.quantity ≠ b.quantity ∨ a.index ≠ b.index) :=
  ⟨ready_like rfl rfl rfl rfl _, reset_ready _, by decide +kernel⟩
/-- The refusals of STAGE_COMPONENT in a REMOVE, and in an INSTALL at HUB_LR: a kind code of 10, a quantity outside the profile, and an index
that does not exist. -/
theorem witness_ComponentStaged_refused :
    let gives (s : State) (p : List Byte) : Option (List Reply) := after (.stageComponent 1 p) s fun t => t.link.replies
    let p := stagePayload 7
    (replacing.fitment.map fun c => c.action) = some .replace ∧ gives .reset p = some [.refused 1 0x11 .noFitment] ∧
    gives { replacing with fitment := replacing.fitment.map fun c => { c with action := .remove } } p = some [.refused 1 0x11 .wrongState] ∧
    gives installing (p.set 0 10) = some [.refused 1 0x11 .outOfRange] ∧ gives installing (stagePayload 6) = some [.refused 1 0x11 .kindMismatch] ∧
    gives installing (p.set 37 0) = some [.refused 1 0x11 .notInProfile] ∧ gives installing (p.set 38 1) = some [.refused 1 0x11 .outOfRange] ∧
    gives installing p = some [.done 1 [2]] := by decide +kernel
/-- A REMOVE of the clutch in slot 7. -/
def removing : State :=
  let x := clutchSlot 500 ⟨some .slipUnits, 400, true⟩
  { withSlot 7 .clutch x with
    book := bookOf 38 56 .idle none
    fitment := some { action := .remove, position := .clutch, outgoing := some (7, x), interim := (Tally.zero .clutch 0).add .slipUnits 0 9,
                      exported := true, staged := none, timeout := 30, deadline := 1000 } }
theorem witness_FitmentRead : removing.ready ⟨0x12, 1, [2, 0]⟩ ∧ State.reset.ready ⟨0x13, 1, []⟩ ∧
    (removing.fitment.bind fun c => c.outgoing.map fun o => o.2.tally.items.length) = some 2 ∧
    (removing.fitment.map fun c => c.interim.items.length) = some 2 ∧ field [2, 0] 0 1 = 2 ∧ field [2, 0] 1 1 = 0 ∧
    field [3, 1] 0 1 = 3 ∧ field [3, 1] 1 1 = 1 ∧ 1 < field [0, 2] 1 1 ∧ (installing.fitment.bind (·.outgoing)) = none ∧
    State.reset.fitment = none ∧ (installing.fitment.bind (·.staged)).isSome = true ∧ (removing.fitment.bind (·.staged)) = none :=
  ⟨ready_like rfl rfl rfl rfl _, reset_ready _, by decide +kernel⟩
/-- The REMOVE above and the INSTALL of 7.10, whose incoming slot is 12. -/
theorem witness_FitmentCommitted : removing.ready ⟨0x14, 1, []⟩ ∧ installing.ready ⟨0x14, 1, []⟩ ∧
    (removing.fitment.map fun c => (c.action, c.exported)) = some (.remove, true) ∧
    (installing.fitment.map fun c => (c.action, c.outgoing, c.staged.isSome)) = some (.install, none, true) ∧
    installing.table.slots[12].ident.state = .empty ∧ (∀ j : Fin 20, j < 12 → installing.table.slots[j].ident.state ≠ .empty) ∧
    installing.book.count < 24 ∧ installing.book.newest < 4294967295 ∧ removing.book.count < 24 ∧
    (installing.book.places[installing.book.openPlace].header.bind (·.info)).isSome = true ∧
    (removing.book.places[removing.book.openPlace].header.bind (·.info)).isSome = true :=
  ⟨ready_like rfl rfl rfl rfl _, ready_like rfl rfl rfl rfl _, by decide +kernel⟩
/-- The refusals of COMMIT_FITMENT, in their order: no context; not exported; nothing staged; 20 slots DAMAGED; 24 records, and the last
sequence number. -/
theorem witness_FitmentCommitted_refused :
    let gives (s : State) : Option (List Reply) := after (.commitFitment 1 []) s fun t => t.link.replies
    let full : State := { installing with table := { installing.table with slots := Vector.replicate 20 (.mk (.bare .damaged) .empty) } }
    gives .reset = some [.refused 1 0x14 .noFitment] ∧
    gives { removing with fitment := removing.fitment.map fun c => { c with exported := false } } = some [.refused 1 0x14 .notExported] ∧
    gives { installing with fitment := installing.fitment.map fun c => { c with staged := none } } = some [.refused 1 0x14 .nothingStaged] ∧
    gives full = some [.refused 1 0x14 .noFreeSlot] ∧
    gives { installing with book := bookOf 34 57 .idle none } = some [.refused 1 0x14 .bookFull] ∧
    gives { installing with book := bookOf 4294967294 4294967295 .idle none } = some [.refused 1 0x14 .bookFull] := by decide +kernel
/-- The clean write of line n is in flight while the REMOVE above is committed. -/
def removingDuring (n : Nat) : State :=
  { removing with ctl := { removing.ctl with
      dirty := [], flight := some { line := n, image := .blank, retry := false, pending := none, records := [] } } }
/-- In flight: an increment line of the closed record, whose contents the commit does not change, is dirty again, and line 30, which is
not listed, is not (R124). -/
theorem witness_FitmentCommitted_flight : (∀ n ∈ [116, 30], (removingDuring n).ctl.flightLine = some n) ∧
    [116, 30].map (fun n => after (.commitFitment 1 []) (removingDuring n) fun t =>
      (t.ctl.flightLine, t.ctl.dirty.contains n, t.ctl.flight.bind (·.pending))) =
      [some (some 116, true, some .commit), some (some 30, false, none)] := by decide +kernel
theorem witness_FitmentEnded : State.reset.ready ⟨0x15, 1, []⟩ ∧ State.reset.fitment = none ∧ removing.ready ⟨0x15, 1, []⟩ ∧
    removing.fitment ≠ none ∧ installing.fitment ≠ none ∧ removing.level .fitmentTimeout ≠ 0 ∧ removing.notice .fitmentTimeout = none :=
  ⟨reset_ready _, by decide +kernel, ready_like rfl rfl rfl rfl _, by decide +kernel⟩

/-! ### Period Book -/

/-- An idle record that was restarted, a full book, a rental, and a fitment open. -/
def restarted : State :=
  let b := bookOf 38 56 .idle none
  let h : Header := { period 56 .opened .idle none with info := (period 56 .opened .idle none).info.map fun i => { i with restarts := 1 } }
  withBook { b with places := b.places.set 8 (placed h) }
theorem witness_RentalOpened : let s := withBook (bookOf 38 56 .idle none)
    s.ready ⟨0x16, 1, rcPayload rc⟩ ∧ restarted.ready ⟨0x16, 1, rcPayload rc⟩ ∧ (rcPayload rc).length = 17 ∧
    textField 16 (rcPayload rc) 0 = some rc ∧ textField 16 (rcPayload []) 0 = none ∧ textField 16 (rcPayload (List.replicate 17 0x41)) 0 = none ∧
    textField 16 (rcPayload (List.replicate 16 0x7E)) 0 = some (List.replicate 16 0x7E) ∧
    s.openInfo.map (fun i => (i.kind, i.restarts)) = some (.idle, 0) ∧ s.book.places[s.book.openPlace].increments = [] ∧
    restarted.openInfo.map (fun i => (i.kind, i.restarts)) = some (.idle, 1) ∧ restarted.book.count < 24 ∧ restarted.fitment = none ∧
    (bookOf 33 56 .idle none).count = 24 ∧ (bookOf 34 56 .idle none).count = 23 ∧
    (withBook (bookOf 38 56 .rental (some rc))).openKind = some .rental ∧ removing.openKind = some .idle ∧ removing.fitment ≠ none :=
  ⟨ready_like rfl rfl rfl rfl _, ready_like rfl rfl rfl rfl _, by decide +kernel⟩
theorem witness_RentalClosed : let s := withBook (bookOf 38 56 .rental (some rc))
    s.ready ⟨0x17, 1, rcPayload rc⟩ ∧ s.openInfo.map (fun i => (i.kind, i.contract)) = some (.rental, some rc) ∧ s.fitment = none ∧
    s.book.count < 24 ∧ s.book.newest < 4294967295 ∧ textField 16 (rcPayload (rc.set 0 0x72)) 0 = some (rc.set 0 0x72) ∧ rc.set 0 0x72 ≠ rc ∧
    (withBook (bookOf 33 56 .rental (some rc))).book.count = 24 ∧ installing.openKind = some .rental ∧ installing.fitment ≠ none :=
  ⟨ready_like rfl rfl rfl rfl _, by decide +kernel⟩
/-- Up to the record before the open one, and below the oldest. -/
theorem witness_PeriodsReleased : let s := withBook (bookOf 38 57 .idle none)
    s.ready ⟨0x1A, 1, leBytes 4 56⟩ ∧ (leBytes 4 56).length = 4 ∧ s.book.oldest ≤ s.book.newest ∧
    [37, 38, 56, 57, 4294967295].map (fun n => min (field (leBytes 4 n) 0 4 + 1) s.book.newest - s.book.oldest) = [0, 1, 19, 19, 19] :=
  ⟨ready_like rfl rfl rfl rfl _, by decide +kernel⟩
theorem witness_PartCleared : State.reset.ready ⟨0x1E, 1, []⟩ ∧ (∀ i : Fin 20, State.reset.table.slots[i].ident.state = .empty) ∧
    State.reset.fitment = none ∧ installing.table.slots[0].ident.state ≠ .empty ∧
    ({ State.reset with fitment := installing.fitment } : State).fitment ≠ none ∧ 3 % 24 ≠ 1 := ⟨reset_ready _, by decide +kernel⟩

/-! ### Notices, Link Port -/

/-- CLOCK_UNSET and SATURATED at level 4 each: tie order decides. ATTN with a notice pending, at a threshold above every level, and with
RESET held. -/
theorem witness_NoticeTakenAttnFollows : let s := State.reset.raise .saturated .empty
    let high : State := { s with link := { s.link with settings := { s.link.settings with attention := 5 } } }
    s.notice .clockUnset ≠ none ∧ s.notice .saturated ≠ none ∧
    (∀ j ∈ NoticeKind.all, s.notice j ≠ none → s.level j < s.level .clockUnset ∨
      s.level j = s.level .clockUnset ∧ NoticeKind.clockUnset.index ≤ j.index) ∧
    (∀ k ∈ NoticeKind.all, (State.reset.dropNotice .clockUnset).notice k = none) ∧ s.attn = true ∧ high.attn = false ∧
    (s.setPins { supply := true, reset := true, powerWarn := false }).attn = false := by decide +kernel
theorem witness_NoticeTakenAttnFollows_ready : (State.reset.raise .saturated .empty).ready ⟨0x21, 1, []⟩ := by
  refine ⟨?_, ?_, .inl ?_, ?_, fun _ => ?_⟩ <;> decide +kernel
/-- The first and the last kind, a kind beyond them, lengths one off, in ACTIVE and in STARTING. -/
theorem witness_RequestChecksInOrder : (Instr.unknownKind 0 1 []).request? = some ⟨0, 1, []⟩ ∧
    (Instr.unknownKind 0x23 1 []).request? = some ⟨0x23, 1, []⟩ ∧
    (Instr.setChannel 1 (List.replicate 10 0)).request? = some ⟨1, 1, List.replicate 10 0⟩ ∧
    (Instr.setNoticeLevels 1 []).request? = some ⟨0x22, 1, []⟩ ∧ State.reset.live = true ∧ 2 ≤ State.reset.freePlaces ∧
    State.reset.ctl.records.length < 4 ∧ State.reset.link.intake = [] ∧ State.reset.sup.power = .active ∧
    (State.reset.setPower .starting).sup.power = .starting ∧ requestLength ⟨1, 1, []⟩ = 11 ∧ requestLength ⟨0x22, 1, []⟩ = 15 ∧
    requestLength ⟨5, 1, tablePayload gears⟩ = 27 ∧ requestLength ⟨0x11, 1, stagePayload 7⟩ = 53 ∧
    requestLength ⟨0x14, 1, [0]⟩ ≠ 1 ∧ (Instr.commitFitment 1 [0]).request? = some ⟨0x14, 1, [0]⟩ := by decide +kernel
/-- A fifth and a sixth request queued, and each power state. -/
def queued (n : Nat) (p : PowerState) : State :=
  { State.reset.setPower p with link := { State.reset.link with intake := List.replicate n ⟨0x20, 1, []⟩ } }
/-- A deferred head request while 4 records exist, one behind another, the seventh, each with a place free, and in HOLDUP without one; a
wake of DRAINING and of DORMANT. -/
theorem witness_RequestWaitsOrWakes : let r : Request := ⟨0x0B, 22, [0]⟩
    let s : State := { blocked with link := { blocked.link with intake := [r] } }
    let h : State := { queued 0 .holdup with link := { State.reset.link with replies := List.replicate 12 (.retry 1 1) } }
    (Instr.clearOrphans 22 [0]).request? = some r ∧ s.link.intake.head? = some r ∧ r.kind ∈ deferredKinds ∧
    Config.recordPlaces ≤ s.ctl.records.length ∧ s.live = true ∧ blocked.link.intake.head? ≠ some r ∧ blocked.link.intake.length < 6 ∧
    (queued 5 .active).link.intake ≠ [] ∧ (queued 5 .starting).link.intake.head? ≠ some r ∧ 6 ≤ (queued 6 .active).link.intake.length ∧
    1 ≤ (queued 6 .active).freePlaces ∧ ¬1 ≤ h.freePlaces ∧ h.sup.power = .holdup ∧ h.live = true ∧ h.link.intake.head? ≠ some r ∧
    (queued 0 .draining).sup.power = .draining ∧ (queued 0 .dormant).sup.power = .dormant ∧
    after (.clearOrphans 22 [0]) h (fun t => t.link.dropped) = some 1 := by decide +kernel
theorem witness_FrameArrives : (queued 5 .active).link.intake.length < 6 ∧ 6 ≤ (queued 6 .active).link.intake.length ∧
    (∀ p ∈ [PowerState.active, .starting, .draining, .dormant, .holdup], (queued 0 p).sup.power = p ∧ (queued 0 p).live = true) ∧
    frameCrc [0x1F, 7] ≠ 0 ∧ ([] : List Byte).length ≤ 248 := by decide +kernel
theorem witness_FramerReadsCharacters : let s := State.reset.framing (.check [0x1F, 7] (some 3))
    s.live = true ∧ s.link.framer ≠ .hunt ∧ s.link.gapTimer = some 1250 ∧ State.reset.link.framer = .hunt ∧
    2 ≤ ([0x1F, 7] : List Byte).length := by decide +kernel
theorem witness_BreakAndReplySent : full.live = true ∧ full.link.replies = .retry 1 1 :: List.replicate 10 (.retry 1 1) := by decide +kernel

/-! ### Store, Supervisor, power -/

/-- The first write and the retry of line 5, with a record that awaits it. -/
def writing (retry : Bool) : State :=
  let r : DeferredRecord := { id := 0, tag := 1, kind := 0x1A, awaits := [5], silent := false }
  let f : Flight := { line := 5, image := State.reset.liveImage 5, retry := retry, pending := none, records := [0] }
  { State.reset with nextId := 1, ctl := { State.reset.ctl with records := [r], flight := some f } }
theorem witness_WriteEnds : (writing false).sup.power = .active ∧ (writing false).ctl.flight.isSome = true ∧
    ((writing false).ctl.flight.map (·.retry)) = some false ∧ ((writing true).ctl.flight.map (·.retry)) = some true ∧
    cleanWords.set 7 .corrected ≠ cleanWords ∧ (writing true).level .storeFault ≠ 0 ∧ 5 ∉ (writing true).ctl.queue.lines := by decide +kernel
/-- The write of line 5 in DRAINING or HOLDUP, nothing else queued. -/
def lastWrite (p : PowerState) (flush : FlushPhase) : State :=
  let s := writing true
  { s.setPower p with ctl := { s.ctl with queue := .empty, dirty := [], flush := flush } }
/-- Power state, flush phase, line in flight and mark after a write's end. -/
def ends (w : WriteEnd) (s : State) : Option (PowerState × FlushPhase × Option Nat × Bool) :=
  after (.writeComplete w) s fun t => (t.sup.power, t.ctl.flush, t.ctl.flightLine, t.sup.mark)
/-- A write's end with nothing queued: DRAINING ends; in HOLDUP the mark is written, its own write completes the flush, and its last failure
leaves it uncompleted. And a read-back that is clean with other data. -/
theorem witness_WriteEnds_clauses : let ok : WriteEnd := { held := .new, words := cleanWords }
    [ends ok (lastWrite .draining .absent), ends ok (lastWrite .holdup .running), ends ok (lastWrite .holdup .marking),
      ends { ok with words := cleanWords.set 0 .corrected } (lastWrite .holdup .marking)] =
      [some (.dormant, .absent, none, false), some (.holdup, .marking, some 5, true), some (.holdup, .complete, none, false),
       some (.holdup, .failed, none, false)] ∧
    after (.writeComplete { held := .old, words := cleanWords }) (writing false) (fun t => t.ctl.flight.map (·.retry)) = some (some true) := by
  decide +kernel
/-- The write of the clean-shutdown mark in flight, over a line 5 as manufactured. -/
def marking (retry : Bool) : State :=
  let s := lastWrite .holdup .marking
  let f : Flight :=
    { line := 5, image := .map { State.reset.mapLine with mark := true }, retry := retry, pending := none, records := [] }
  { s with sup := { s.sup with mark := true }, ctl := { s.ctl with records := [], flight := some f } }
/-- R164: a write of the mark sets it in the store only where it passes; a corrected word at first attempt or retry, the old contents, a
mixture and a cut leave none. -/
theorem witness_WriteEnds_mark : let words := cleanWords.set 0 .corrected
    let found (c : Instr) (retry : Bool) := after c (marking retry) fun t => markStored t.store
    ((marking true).ctl.flight.map fun f => (f.line, f.image.marked)) = some (5, true) ∧
    found (.writeComplete { held := .new, words := cleanWords }) true = some true ∧
    [(Held.new, false), (.new, true), (.old, true), (.garbled, true)].map
      (fun x => found (.writeComplete { held := x.1, words := words }) x.2) = List.replicate 4 (some false) ∧
    found (.supplyLoss { held := .new, words := cleanWords }) false = some false ∧
    found (.resetAsserted { held := .new, words := cleanWords }) false = some false := by decide +kernel
/-- Line 12 in flight with a pending class. -/
def flying (p : Option WriteClass) : StoreController :=
  { meeting with flight := some { line := 12, image := .blank, retry := false, pending := p, records := [] } }
/-- Line 28 at CHECKPOINT joins COMMIT, at FLUSH from HOLDUP entry on; a line that stands nowhere joins; line 12, in flight, takes
CHECKPOINT, and one that has COMMIT stays. The arbiter takes the head of COMMIT. -/
theorem witness_QueuingAndChoice : let s : State := { State.reset with ctl := { meeting with flight := none } }
    28 ∈ meeting.queue.linesAt .checkpoint ∧ meeting.queue.lines.Nodup ∧ meeting.flightLine ≠ some 28 ∧ 99 ∉ meeting.queue.lines ∧ meeting.flightLine ≠ some 99 ∧
    (meeting.enqueue .commit 28).queue.linesAt .commit = [28] ∧ (meeting.enqueue .scrubRepair 28) = meeting ∧
    ({ meeting with flush := .running }.enqueue .commit 99).queue.linesAt .flush = [99] ∧
    (flying none).enqueue .checkpoint 12 = flying (some .checkpoint) ∧ (flying (some .checkpoint)).enqueue .commit 12 = flying (some .commit) ∧
    (flying (some .commit)).enqueue .checkpoint 12 = flying (some .commit) ∧ s.ctl.flight = none ∧ s.sup.power = .active ∧
    s.ctl.queue.lines.head? = some 7 ∧ s.arbitrate.ctl.flightLine = some 7 ∧ meeting.flight ≠ none := by decide +kernel
/-- Lines 5 and 177 dirty, line 4 not for the checkpoint; the pointer at its ends; a line read corrected and one uncorrectable. -/
def idleStore (p : Nat) : State :=
  { State.reset with store := [bad 177], ctl := { StoreController.rest with
      dirty := [4, 5, 177], checkpointTimer := some 9, scrubTimer := some 9, scrubPointer := p } }
theorem witness_StoreTimersExpire : (idleStore 177).sup.power = .active ∧ (idleStore 177).ctl.checkpointTimer = some 9 ∧
    (idleStore 177).ctl.scrubTimer = some 9 ∧ (idleStore 177).ctl.scrubPointer < 178 ∧
    (storeGet (idleStore 177).store 177).outcome = .uncorrectable ∧
    (storeGet (decayed [] [(0, cleanWords.set 0 .corrected)]) 0).outcome = .corrected ∧ (177 + 1) % 178 = 0 ∧
    State.reset.sup.dormancy = some 75000000 ∧ State.reset.ctl.flight ≠ none ∧
    ({ State.reset with ctl := .rest } : State).sup.power = .active ∧ ({ State.reset with ctl := .rest } : State).sup.dormancy = some 75000000 ∧
    StoreController.rest.flight = none ∧ StoreController.rest.queue.lines = [] ∧ StoreController.rest.dirty = [] := by decide +kernel
theorem witness_SupplyAndResetRestart : State.reset.pins.supply = true ∧ State.reset.pins.reset = false ∧ State.reset.ctl.flight.isSome = true ∧
    (idleStore 0).ctl.flight = none ∧
    (State.reset.setPins { supply := true, reset := true, powerWarn := false }).pins.reset = true := by decide +kernel
/-- A store in which configuration, slot and orphan lines are uncorrectable, a table line that is intact, the map of 6.9, and one that no
layout reads. -/
theorem witness_StartUpReadsLines : let st : Store := [bad 2, bad 4, bad 6, bad 10, bad 66, bad 81]
    (∀ s ∈ [unread st, unread torn, unread [clean 2 (.gears gears)], unread [clean 5 .invalid]],
      s.pending = [] ∧ s.live = true ∧ s.sup.power = .starting ∧ s.sup.unread = true) ∧
    (∀ n ∈ [2, 4, 6 + 3 * (0 : Fin 20).val, 66 + Position.engine.code, 66 + Position.aux2.code], (storeGet st n).outcome = .uncorrectable) ∧
    storedState st 0 ≠ some .damaged ∧ (storeGet st (6 + 3 * (1 : Fin 20).val)).image = .blank ∧
    configIntact [clean 2 (.gears gears)] 2 = true ∧ configIntact st 2 = false ∧ orphanIntact st .engine = false ∧
    orphanIntact st .starter = true ∧ storedEntry torn .clutch = some 7 ∧ storedEntry torn .engine = none ∧
    storedEntry [clean 5 .invalid] .clutch = none ∧ storedState torn 2 = some .fitted := by decide +kernel
/-- Slots 7 and 12 of 6.9: one whose three lines give its record, one whose scalar line is uncorrectable. -/
theorem witness_StartUpReadsLines_slots : let l (n : Nat) := storeGet torn n
    scalarsStored (l 28) .clutch false [⟨.launches, some 3, false⟩, ⟨.slipUnits, some 500, false⟩] ∧ histsStored (l 29) .clutch false [] ∧
    (l 27).outcome ≠ .uncorrectable ∧ (∃ x, (l 27).image = .slotIdent x ∧ x.valid = true ∧ x.position = some .clutch) ∧
    (∀ xs, ¬scalarsStored (l 43) .hubLR false xs) ∧ ∃ x, (l 42).image = .slotIdent x ∧ x.valid = true ∧ x.position = some .hubLR :=
  ⟨by unfold scalarsStored; decide +kernel, by unfold histsStored; decide +kernel, by decide +kernel, ⟨_, rfl, by decide +kernel, rfl⟩,
    fun _ h => h.1 (by decide +kernel), _, rfl, by decide +kernel, rfl⟩
/-- A book of intact lines, its top record given. -/
def intactBook (o n : Nat) (h : Header) (mark : Bool) : Store :=
  let b := bookOf o n .idle none
  (List.range 96).foldl (fun st k =>
      let p := k / 4
      let image := if p = n % 24 ∧ k % 4 = 0 then .header h else (b.places[placeOf p]).image (k % 4)
      storePut st (82 + k) (clean 0 image).2)
    [clean 5 (.map { entries := List.replicate 16 none, mark := mark, bounds := some (o, n) })]
/-- The run of 10.5's torn book, of intact ones with the top OPEN, CLOSED and DAMAGED, and of blank lines; a mark found. -/
theorem witness_StartUpRebuildsBook :
    let top (st : PeriodState) := intactBook 55 57 (period 57 st .idle none) true
    (∀ s ∈ [unread [], unread tornBook, unread (top .opened)], s.pending = [] ∧ s.live = true ∧ s.sup.power = .starting ∧ s.sup.unread = true) ∧
    bookRun [] = [] ∧ bookRun tornBook = [57, 56, 55, 54, 53, 52, 51, 50] ∧
    [PeriodState.opened, .closed, .damaged].map (fun p => (bookRun (top p), match step (unread (top p)) with
      | .next t => some (t.book.newest, t.sup.report.opening)
      | _ => none)) =
      [([57, 56, 55], some (57, .absent)), ([57, 56, 55], some (58, .new)), ([57, 56, 55], some (57, .reset))] ∧
    markStored (top .opened) = true ∧ markStored tornBook = false := by decide +kernel
/-- The top record's lines are intact; a full book's CLOSED top is opened again. -/
theorem witness_StartUpRebuildsBook_record :
    recordStored (intactBook 55 57 (period 57 .opened .idle none) true) 57 (period 57 .opened .idle none) (fun _ => []) ∧
    (match step (unread (intactBook 34 57 (period 57 .closed .idle none) false)) with
      | .next t => some (t.book.newest, t.sup.report.opening)
      | _ => none) = some (57, .reopen) :=
  ⟨by unfold recordStored; decide +kernel, by decide +kernel⟩
/-- An increment of ENGINE. -/
def kept : List Entry := [{ position := .engine, pairs := [⟨.starts, 3, false⟩] }]
/-- Records 55 to 57, of which 56 keeps that increment in its first line; some lines are written over. -/
def scarred (xs : List (Nat × StoredLine)) : Store :=
  (clean 115 (.increments { seq := some 56, entries := kept }) :: xs).foldl (fun st x => storePut st x.1 x.2)
    (intactBook 55 57 (period 57 .opened .idle none) true)
/-- What the step on the empty queue makes of such a store. -/
def restart {α : Type} (xs : List (Nat × StoredLine)) (f : State → α) : Option α := match step (unread (scarred xs)) with
  | .next t => some (f t)
  | _ => none
/-- Its second increment line torn: it carries the number of the place's record before. -/
def tornLine : Nat × StoredLine := clean 116 (.increments { seq := some 32, entries := [] })
/-- What start-up makes of record 56: its state, its incomplete mark, whether its kind fields and its first line's entries are kept; and how
many records it counts as newly damaged. -/
structure Seen where
  state      : Option PeriodState
  incomplete : Bool
  info       : Bool
  entries    : Bool
  damaged    : Nat
deriving DecidableEq
def seen (xs : List (Nat × StoredLine)) : Option Seen :=
  restart xs fun t =>
    let x := t.book.places[8]
    { state := x.header.map (·.state), incomplete := (x.header.map (·.incomplete)).getD false,
      info := (x.header.bind (·.info)).isSome, entries := decide (x.lines[0].entries = kept), damaged := t.sup.report.recordsDamaged }
/-- Record 56 intact, with its header line lost, with its second increment line lost, torn, and against R132 (ENGINE in the second line:
log 6), and with its first increment line lost. -/
theorem witness_StartUpRebuildsBook_damage :
    [[], [bad 114], [bad 116], [tornLine], [clean 116 (.increments { seq := some 56, entries := kept })], [bad 115]].map seen =
      [some ⟨some .closed, false, true, true, 0⟩, some ⟨some .damaged, true, false, true, 1⟩, some ⟨some .damaged, true, true, true, 1⟩,
       some ⟨some .damaged, true, true, true, 1⟩, some ⟨some .damaged, true, true, true, 1⟩,
       some ⟨some .damaged, true, true, false, 1⟩] := by decide +kernel
theorem witness_StartUpRebuildsBook_kept : bookRun (scarred [bad 114]) = [57, 56, 55] ∧ headerKept (scarred [bad 114]) 56 = none ∧
    (headerKept (scarred []) 56).isSome = true ∧ incrementsKept (scarred [bad 114]) 56 0 = kept ∧
    incrementsIntact (scarred [tornLine]) 56 1 = false ∧ incrementsIntact (scarred [tornLine]) 56 0 = true := by decide +kernel
/-- The places outside the book: free; one whose header line holds a record of long ago has that line dirty, its blank lines not. -/
theorem witness_StartUpRebuildsBook_free :
    restart [clean 82 (.header (period 24 .closed .idle none))] (fun t =>
      (t.book.oldest, t.book.newest, t.book.places[0], t.ctl.dirty.contains 82, t.ctl.dirty.contains 83)) =
      some (55, 57, .free, true, false) := by decide +kernel
/-- The end of start-up with the lines read and not, without POWER_WARN and with it, and then with dirty lines and with none. -/
theorem witness_StartUpEnds : let s := State.reset.atRest.startUp
    let w (u : State) := u.setPins { supply := true, reset := false, powerWarn := true }
    let u : State := { s with ctl := { s.ctl with dirty := [] } }
    s.live = true ∧ s.sup.power = .starting ∧ s.pins.powerWarn = false ∧ s.level .clockUnset ≠ 0 ∧ s.sup.unread = false ∧
    State.reset.atRest.sup.unread = true ∧ State.reset.atRest.live = true ∧ State.reset.atRest.sup.power = .starting ∧ s.ctl.dirty ≠ [] ∧
    u.ctl.flight = none ∧ u.ctl.queue.lines = [] ∧
    after .endOfStartUp (w s) (fun t => (t.sup.power, t.sup.mark, t.ctl.flush)) = some (.holdup, false, .running) ∧
    after .endOfStartUp (w u) (fun t => (t.sup.power, t.sup.mark, t.ctl.flightLine)) = some (.holdup, true, some 5) := by decide +kernel
/-- POWER_WARN in ACTIVE with requests queued, and with nothing queued or dirty; and its clearing in HOLDUP. -/
theorem witness_PowerWarnMovesHoldup : let s := queued 6 .active
    let u : State := { State.reset with ctl := .rest }
    let h : State := State.reset.enterHoldup.setPins { supply := true, reset := false, powerWarn := true }
    s.live = true ∧ s.pins.powerWarn = false ∧ s.sup.power = .active ∧ s.link.intake.length ≤ s.freePlaces ∧
    u.ctl.flight = none ∧ u.ctl.queue.lines = [] ∧ u.ctl.dirty = [] ∧ h.live = true ∧ h.pins.powerWarn = true ∧ h.sup.power = .holdup ∧
    (queued 0 .starting).sup.power = .starting := by decide +kernel

end Sys2Proof.Tests
end

section
/-! Requests that change settings: what a refusal and a deferred answer of a ready request come to (11 R186, R187), and what a state
announcement leaves of the records, of the lines held and of the replies. -/

namespace Sys2Proof.Machine

/-! ## What a command keeps of the requests taken before it -/

/-- Between s and u the replies queued, the power state, the deferred records and their numbers stay, and no line held is given up; the
link may have got or lost notices. -/
structure State.KeepsRequests (s u : State) : Prop where
  link    : u.link = { s.link with notices := u.link.notices }
  sup     : u.sup = s.sup
  nextId  : u.nextId = s.nextId
  records : u.ctl.records = s.ctl.records
  held    : ∀ n, s.ctl.holds n → u.ctl.holds n

namespace State.KeepsRequests

theorem trans {s u v : State} (h : s.KeepsRequests u) (k : u.KeepsRequests v) : s.KeepsRequests v where
  link := by rw [k.link, h.link]
  sup := k.sup.trans h.sup
  nextId := k.nextId.trans h.nextId
  records := k.records.trans h.records
  held n x := k.held n (h.held n x)

/-- What leaves link, Supervisor, Store Controller and record numbers alone keeps the requests. -/
theorem of_frame {s u : State} {bs : List Block} (h : s.sameExcept u bs)
    (out : ∀ b ∈ [Block.link, .sup, .nextId, .ctl], b ∉ bs := by decide) : s.KeepsRequests u where
  link := by rw [h.link (out _ (by simp))]
  sup := h.sup (out _ (by simp))
  nextId := h.nextId (out _ (by simp))
  records := by rw [h.ctl (out _ (by simp))]
  held n x := by rw [h.ctl (out _ (by simp))]; exact x

theorem refl (s : State) : s.KeepsRequests s := of_frame (.refl s [])

theorem ite {s t u : State} {c : Prop} [Decidable c] (h : s.KeepsRequests t) (k : s.KeepsRequests u) :
    s.KeepsRequests (if c then t else u) := by
  split
  · exact h
  · exact k

end State.KeepsRequests

section
variable (s : State)

theorem raise_keepsRequests (k d) : s.KeepsRequests (s.raise k d) := by
  unfold State.raise
  split
  · exact .refl s
  · exact ⟨rfl, rfl, rfl, rfl, fun _ h => h⟩

theorem markDirty_keepsRequests (n) : s.KeepsRequests (s.markDirty n) := ⟨rfl, rfl, rfl, rfl, fun _ h => h⟩

theorem noteUse_keepsRequests (b) : s.KeepsRequests (s.noteUse b) := by
  unfold State.noteUse
  split
  · exact ⟨rfl, rfl, rfl, rfl, fun _ h => h⟩
  · exact .refl s

theorem setTow_keepsRequests (t) : s.KeepsRequests (s.setTow t) :=
  .trans (u := { s with driveline := { s.driveline with tow := t } }) ⟨rfl, rfl, rfl, rfl, fun _ h => h⟩
    (noteUse_keepsRequests ..)

theorem towOnRun_keepsRequests (n) : s.KeepsRequests (s.towOnRun n) :=
  .ite (.trans (u := { s with driveline := { s.driveline with quietTimer := none } }) ⟨rfl, rfl, rfl, rfl, fun _ h => h⟩
    (setTow_keepsRequests ..)) (.refl s)

theorem checkpoint_keepsRequests (active : s.sup.power = .active) : s.KeepsRequests s.checkpoint := by
  obtain ⟨holds, records, -, frame⟩ := queueLines_spec s (.inl active) .checkpoint
    (s.ctl.dirty.filter fun n => decide (5 ≤ n ∧ n ≤ 177) && !(decide (n = 5) && s.markLost))
  exact ⟨by rw [State.checkpoint, frame.link (by simp)], frame.sup (by simp), frame.nextId (by simp), records,
    fun n h => (holds n).2 (.inl h)⟩

/-! ## Run-state transitions and announcements -/

/-- A run-state transition up to the tow detector changes the Run Detector and the Driveline Observer only. -/
theorem enterRun_observers_frame (new : RunState) :
    s.sameExcept (({ s with run := { s.run with state := new, stopTimer := none } }.evalConfirm.clutchOnRun s.run.state new).ptoUpdate)
      [.run, .driveline] :=
  .trans (.trans (.trans (t := { s with run := { s.run with state := new, stopTimer := none } }) (by simp [State.sameExcept])
    ((evalConfirm_frame _).mono (by simp))) ((clutchOnRun_frame ..).mono (by simp))) ((ptoUpdate_frame _).mono (by simp))

theorem enterRun_keepsRequests (new) : s.KeepsRequests (s.enterRun new) :=
  .trans (.trans (.of_frame (enterRun_observers_frame s new)) (towOnRun_keepsRequests ..)) (noteUse_keepsRequests ..)

theorem enterRun_state (new) : (s.enterRun new).run.state = new := by
  unfold State.enterRun
  rw [(noteUse_frame ..).run (by simp), (towOnRun_frame ..).run (by simp), (ptoUpdate_frame _).run (by simp),
    (clutchOnRun_frame ..).run (by simp)]
  rfl

theorem enterBlind_keepsRequests (c) : s.KeepsRequests (s.enterBlind c) :=
  .ite (.refl s) (.trans (enterRun_keepsRequests ..) (raise_keepsRequests ..))

theorem enterBlind_state (c) : (s.enterBlind c).run.state = .blind := by
  unfold State.enterBlind
  split
  · assumption
  · rw [(raise_frame ..).run (by simp), enterRun_state]

theorem keyOffCheckpoint_keepsRequests (active : s.sup.power = .active) : s.KeepsRequests s.keyOffCheckpoint :=
  .ite (.refl s) (checkpoint_keepsRequests s active)

theorem engineAnnounce_keepsRequests (active : s.sup.power = .active) (st c) : s.KeepsRequests (s.engineAnnounce st c) := by
  have confirm : s.KeepsRequests s.evalConfirm := .of_frame (evalConfirm_frame s)
  have off := enterRun_keepsRequests s .off
  match st with
  | none => exact enterBlind_keepsRequests ..
  | some .noisy => exact enterBlind_keepsRequests ..
  | some .disabled => exact enterBlind_keepsRequests ..
  | some .stopped => exact .ite (off.trans (keyOffCheckpoint_keepsRequests _ (off.sup ▸ active))) (.ite off confirm)
  | some .turning => exact .ite (enterRun_keepsRequests ..) confirm

/-- An announcement that is not TURNING tests no launch, so it changes the Driveline Observer alone (R63, R64, R71). -/
theorem drivelineAnnounce_rest_frame (f) {st : Option ChannelState} (h : st ≠ some .turning) :
    s.sameExcept (s.drivelineAnnounce f st) [.driveline] := by
  have gear : s.sameExcept (if f = .gearIn ∨ f = .gearOut then s.evalGear else s) [.driveline] :=
    .ite (fun _ => evalGear_frame s) (fun _ => .refl ..)
  unfold State.drivelineAnnounce
  generalize (if f = .gearIn ∨ f = .gearOut then s.evalGear else s) = s1 at gear
  refine (gear.trans (u := if f = .gearOut then _ else s1) (.ite (fun _ => ?_) (fun _ => .refl ..))).trans
    (.ite (fun _ => noteQuiet_frame _) (fun _ => .refl ..))
  match st with
  | some .turning => exact absurd rfl h
  | some .stopped => exact .refl ..
  | some .noisy => exact launchOff_frame _
  | some .disabled => exact launchOff_frame _
  | none => exact launchOff_frame _

theorem announce_keepsRequests (active : s.sup.power = .active) (f) {st : Option ChannelState} (h : st ≠ some .turning) (c) :
    s.KeepsRequests (s.announce f st c) :=
  .ite (engineAnnounce_keepsRequests s active st c) (.of_frame (drivelineAnnounce_rest_frame s f h))

/-- The Run Detector takes the announcements of ENGINE_SPEED only (R34). -/
theorem announce_other_run (f) {st : Option ChannelState} (hf : f ≠ .engineSpeed) (h : st ≠ some .turning) (c) :
    (s.announce f st c).run = s.run := by
  rw [State.announce, if_neg hf, (drivelineAnnounce_rest_frame s f h).run (by simp)]

end

/-! ## Ready requests -/

/-- A ready request that its own chapter refuses is refused, and nothing else changes (R186). -/
theorem refuses_of_ready {s : State} {c : Instr} {r : Request} {m : Meaning} {reason : Reason} (h : s.ready r)
    (run : exec c s = .next (s.serve r m)) (judged : ∀ d, m r.payload (s.taking d) = .refused reason (s.taking d)) :
    s.refuses c r reason := by
  obtain ⟨d, served⟩ := serve_ready h m
  refine ⟨_, run, ?_⟩
  rw [served, judged]
  exact ⟨rfl, rfl, by simp [State.sameExcept, Answer.give, State.supervise, State.reply, State.taking]⟩

/-- A ready request that is answered DEFERRED, its execution having led to `u d`: the reply and the record are added to what was there, the
lines are held, and the rest is as in `u d` (R156, R186). -/
theorem serve_deferred {s : State} {r : Request} {m : Meaning} {body : List Byte} {ns : List Nat} {u : Timer → State} (h : s.ready r)
    (judged : ∀ d, m r.payload (s.taking d) = .deferred body ns (u d)) (keeps : ∀ d, (s.taking d).KeepsRequests (u d)) :
    ∃ d, s.replied (s.serve r m) (.deferred r.tag body) ∧ s.samePower (s.serve r m) ∧
      (s.serve r m).ctl.records =
        s.ctl.records ++ [{ id := s.nextId, tag := r.tag, kind := r.kind, awaits := ns, silent := false }] ∧
      (s.serve r m).nextId = s.nextId + 1 ∧ (∀ n, s.ctl.holds n ∨ n ∈ ns → (s.serve r m).ctl.holds n) ∧
      (u d).sameExcept (s.serve r m) [.nextId, .ctl, .sup, .link] := by
  obtain ⟨d, served⟩ := serve_ready h m
  obtain ⟨link, sup, nextId, records, held⟩ := keeps d
  let v := (u d).reply (.deferred r.tag body)
  have active : v.sup.power = .active := by
    have : v.sup = (s.taking d).sup := sup
    rw [this]; exact h.2.1
  obtain ⟨recorded, holds, -, frame⟩ := defer_spec v (.inl active) r.tag r.kind ns
  have e : s.serve r m = (v.defer r.tag r.kind ns).supervise := by rw [served, judged]; rfl
  have next : (v.defer r.tag r.kind ns).nextId = s.nextId + 1 := by
    rw [State.defer, (queueLines_frame ..).nextId (by simp)]
    exact congrArg (· + 1) nextId
  have supEq : (v.defer r.tag r.kind ns).sup = (s.taking d).sup := (frame.sup (by simp)).trans sup
  have linkEq : (v.defer r.tag r.kind ns).link = v.link := frame.link (by simp)
  rw [e]
  refine ⟨d, ?_, ?_, ?_, next, fun n x => ?_, ?_⟩
  · have replied : (v.defer r.tag r.kind ns).supervise.link =
        { (u d).link with replies := (u d).link.replies ++ [.deferred r.tag body] } := linkEq
    rw [State.replied, replied, link]; rfl
  · rw [State.samePower, supervise_sup, supEq]; rfl
  · show (v.defer r.tag r.kind ns).ctl.records = _
    rw [recorded]
    have n : v.nextId = s.nextId := nextId
    have c : v.ctl.records = s.ctl.records := records
    rw [n, c]
  · exact (holds n).2 (x.imp_left (held n))
  · exact .trans (.trans ((reply_frame (u d) _).mono (by simp)) (frame.mono (by simp))) ((supervise_frame _).mono (by simp))

end Sys2Proof.Machine
end

section
/-! SET_CHANNEL (02 R22, R23): the values its payload allows, its checks in order, and what the channel and the Run Detector are after it. -/

namespace Sys2Proof.Machine

/-! ## The settings a payload carries -/

/-- A code names a value exactly if it is below the number of values. -/
theorem exists_getElem?_iff {α : Type} (values : List α) (n : Nat) : (∃ x, values[n]? = some x) ↔ n < values.length := by
  rw [← Option.isSome_iff_exists, isSome_getElem?]

theorem exists_functionOfCode (n : Nat) : (∃ f, ChannelFunction.ofCode n = some f) ↔ n ≤ 10 :=
  (exists_getElem?_iff ..).trans Nat.lt_succ_iff

theorem exists_edgeModeOfCode (n : Nat) : (∃ m, EdgeMode.ofCode n = some m) ↔ n ≤ 2 :=
  (exists_getElem?_iff ..).trans Nat.lt_succ_iff

theorem exists_timeBaseOfCode (n : Nat) : (∃ b, TimeBase.ofCode n = some b) ↔ n ≤ 1 :=
  (exists_getElem?_iff ..).trans Nat.lt_succ_iff

theorem flagOfCode_eq_some (n : Nat) (b : Bool) : flagOfCode n = some b ↔ n ≤ 1 ∧ b = decide (n = 1) := by
  match n with
  | 0 => simp [flagOfCode, eq_comm]
  | 1 => simp [flagOfCode, eq_comm]
  | n + 2 => simp [flagOfCode]

theorem ChannelConfig.ok_iff (c : ChannelConfig) : c.ok = true ↔
    (1 ≤ c.teeth ∧ c.teeth ≤ 1023) ∧ (1 ≤ c.minPeriod ∧ c.minPeriod ≤ 65535) ∧
      (c.overspeed = 0 ∨ 100 ≤ c.overspeed ∧ c.overspeed ≤ 20000) := by
  simp [ChannelConfig.ok, within, and_assoc]

theorem readChannelConfig_eq_some (p : List Byte) (c : ChannelConfig) : readChannelConfig p = some c ↔
    ChannelFunction.ofCode (field p 1 1) = some c.function ∧ EdgeMode.ofCode (field p 4 1) = some c.edgeMode ∧
      TimeBase.ofCode (field p 5 1) = some c.timeBase ∧ flagOfCode (field p 10 1) = some c.enabled ∧
      c.teeth = field p 2 2 ∧ c.minPeriod = field p 6 2 ∧ c.overspeed = field p 8 2 ∧ c.ok = true := by
  unfold readChannelConfig
  constructor
  · intro h
    split at h
    · rename_i f m b e hf hm hb he
      obtain ⟨ok, ⟨⟩⟩ := Option.ite_none_right_eq_some.1 h
      exact ⟨hf, hm, hb, he, rfl, rfl, rfl, ok⟩
    · exact absurd h (by simp)
  · rintro ⟨hf, hm, hb, he, teeth, minPeriod, overspeed, ok⟩
    simp only [hf, hm, hb, he, ← teeth, ← minPeriod, ← overspeed]
    exact if_pos ok

/-- A payload carries settings exactly if each is within R21. -/
theorem exists_readChannelConfig (p : List Byte) : (∃ c, readChannelConfig p = some c) ↔
    field p 1 1 ≤ 10 ∧ 1 ≤ field p 2 2 ∧ field p 2 2 ≤ 1023 ∧ field p 4 1 ≤ 2 ∧ field p 5 1 ≤ 1 ∧ 1 ≤ field p 6 2 ∧
      (field p 8 2 = 0 ∨ 100 ≤ field p 8 2 ∧ field p 8 2 ≤ 20000) ∧ field p 10 1 ≤ 1 := by
  constructor
  · rintro ⟨c, h⟩
    obtain ⟨hf, hm, hb, he, teeth, minPeriod, overspeed, ok⟩ := (readChannelConfig_eq_some p c).1 h
    rw [ChannelConfig.ok_iff, teeth, minPeriod, overspeed] at ok
    obtain ⟨⟨teethLow, teethHigh⟩, ⟨periodLow, -⟩, speed⟩ := ok
    exact ⟨(exists_functionOfCode _).1 ⟨_, hf⟩, teethLow, teethHigh, (exists_edgeModeOfCode _).1 ⟨_, hm⟩,
      (exists_timeBaseOfCode _).1 ⟨_, hb⟩, periodLow, speed, ((flagOfCode_eq_some _ _).1 he).1⟩
  · rintro ⟨hf, teethLow, teethHigh, hm, hb, periodLow, speed, he⟩
    obtain ⟨f, hf⟩ := (exists_functionOfCode _).2 hf
    obtain ⟨m, hm⟩ := (exists_edgeModeOfCode _).2 hm
    obtain ⟨b, hb⟩ := (exists_timeBaseOfCode _).2 hb
    have periodHigh : field p 6 2 ≤ 65535 := Nat.le_of_lt_succ (field_lt p 6 2)
    exact ⟨⟨f, field p 2 2, m, b, field p 6 2, field p 8 2, decide (field p 10 1 = 1)⟩, (readChannelConfig_eq_some p _).2
      ⟨hf, hm, hb, (flagOfCode_eq_some _ _).2 ⟨he, rfl⟩, rfl, rfl, rfl,
        (ChannelConfig.ok_iff _).2 ⟨⟨teethLow, teethHigh⟩, ⟨periodLow, periodHigh⟩, speed⟩⟩⟩

/-! ## The checks -/

theorem functionTaken_iff (s : State) (i : Fin 10) (f : ChannelFunction) :
    s.functionTaken i f = true ↔ f ≠ .unassigned ∧ ∃ j : Fin 10, j ≠ i ∧ s.channels[j].cfg.function = f := by
  simp [State.functionTaken]

section
variable (s : State) (i : Fin 10) (cfg : ChannelConfig)

theorem setChannelMeaning_eq_checked {p : List Byte} {i : Fin 10} {cfg : ChannelConfig} (len : p.length = 11)
    (number : field p 0 1 = i.val) (settings : readChannelConfig p = some cfg) :
    setChannelMeaning p s = s.setChannelChecked i cfg := by
  have h : field p 0 1 < 10 := number ▸ i.isLt
  have e : (⟨field p 0 1, h⟩ : Fin 10) = i := Fin.ext number
  rw [setChannelMeaning, sized, if_pos len, dif_pos h, settings]
  simp only [e]

theorem setChannelMeaning_eq_outOfRange {p : List Byte} (len : p.length = 11)
    (bad : ¬ (field p 0 1 ≤ 9 ∧ ∃ cfg, readChannelConfig p = some cfg)) :
    setChannelMeaning p s = .refused .outOfRange s := by
  rw [setChannelMeaning, sized, if_pos len]
  split
  · rename_i h
    cases k : readChannelConfig p with
    | none => rfl
    | some cfg => exact absurd ⟨Nat.le_of_lt_succ h, cfg, k⟩ bad
  · rfl

theorem setChannelChecked_eq_taken (taken : s.functionTaken i cfg.function = true) :
    s.setChannelChecked i cfg = .refused .functionTaken s := if_pos taken

theorem setChannelChecked_eq_active (free : ¬ s.functionTaken i cfg.function = true)
    (active : s.channels[i].state = .turning ∨ s.channels[i].state = .noisy) :
    s.setChannelChecked i cfg = .refused .channelActive s := by
  rw [State.setChannelChecked, if_neg free, if_pos active]

theorem setChannelChecked_eq_configured (free : ¬ s.functionTaken i cfg.function = true)
    (rest : s.channels[i].state = .disabled ∨ s.channels[i].state = .stopped) :
    s.setChannelChecked i cfg = (s.setChannel i cfg).configured 1 := by
  have inactive : ¬ (s.channels[i].state = .turning ∨ s.channels[i].state = .noisy) := by
    rcases rest with h | h <;> simp only [h, reduceCtorEq, or_self, not_false_eq_true]
  rw [State.setChannelChecked, if_neg free, if_neg inactive]

/-! ## The channel and the Run Detector after it -/

theorem startState_ne_turning : some cfg.startState ≠ some .turning := by
  unfold ChannelConfig.startState
  split <;> simp

/-- SET_CHANNEL after the announcement of the function given up: what is announced then is the state the new settings give (R23). -/
theorem setChannel_eq_announceHeld :
    s.setChannel i cfg = (if cfg.function = .unassigned then id else fun u => u.announce cfg.function (some cfg.startState) i)
      ((s.setChannelRecord i (s.channels[i].restart cfg)).announceGivenUp s.channels[i].cfg.function cfg.function i) := by
  have record : ((s.setChannelRecord i (s.channels[i].restart cfg)).announceGivenUp s.channels[i].cfg.function
      cfg.function i).channels[i].state = cfg.startState := by
    simp only [(announceGivenUp_frame ..).channels (show Block.channels ∉ runBlocks by simp)]
    simp [Channel.restart]
  unfold State.setChannel State.announceHeld
  split
  · rfl
  · simp only [record]

theorem announceGivenUp_keepsRequests (active : s.sup.power = .active) (o n) : s.KeepsRequests (s.announceGivenUp o n i) :=
  .ite (.refl s) (announce_keepsRequests s active _ (by simp) _)

theorem setChannel_keepsRequests (active : s.sup.power = .active) : s.KeepsRequests (s.setChannel i cfg) := by
  have set : s.KeepsRequests (s.setChannelRecord i (s.channels[i].restart cfg)) := .of_frame (setChannelRecord_frame ..)
  have given := set.trans (announceGivenUp_keepsRequests _ i (set.sup ▸ active) s.channels[i].cfg.function cfg.function)
  rw [setChannel_eq_announceHeld]
  split
  · exact given
  · exact given.trans (announce_keepsRequests _ (given.sup ▸ active) _ (startState_ne_turning cfg) _)

theorem setChannel_channels : (s.setChannel i cfg).channels = s.channels.set i (s.channels[i].restart cfg) := by
  unfold State.setChannel
  rw [(announceHeld_frame ..).channels (by simp), (announceGivenUp_frame ..).channels (by simp)]
  rfl

/-- A channel that gives ENGINE_SPEED up leaves the Run Detector without one (R23, R51). -/
theorem setChannel_givenUp_blind (old : s.channels[i].cfg.function = .engineSpeed) (new : cfg.function ≠ .engineSpeed) :
    (s.setChannel i cfg).run.state = .blind := by
  have given : (s.setChannelRecord i (s.channels[i].restart cfg)).announceGivenUp s.channels[i].cfg.function cfg.function i =
      (s.setChannelRecord i (s.channels[i].restart cfg)).enterBlind none := by
    rw [old, State.announceGivenUp, if_neg (by simp [Ne.symm new]), State.announce, if_pos rfl]; rfl
  rw [setChannel_eq_announceHeld, given]
  split
  · exact enterBlind_state ..
  · exact (congrArg RunDetector.state (announce_other_run _ _ new (startState_ne_turning cfg) _)).trans (enterBlind_state ..)

/-- The Run Detector does not see another function given up. -/
theorem announceGivenUp_run {o n : ChannelFunction} (h : n = .engineSpeed) : (s.announceGivenUp o n i).run = s.run := by
  unfold State.announceGivenUp
  split
  · rfl
  · rename_i c
    exact announce_other_run s o (fun e => c (.inl (e.trans h.symm))) (by simp) i

theorem setChannel_engine_disabled (new : cfg.function = .engineSpeed) (off : cfg.enabled = false) :
    (s.setChannel i cfg).run.state = .blind := by
  rw [setChannel_eq_announceHeld]
  simp only [new, ChannelConfig.startState, off, State.announce, State.engineAnnounce, reduceCtorEq, if_false, if_true, false_and]
  exact enterBlind_state ..

theorem setChannel_engine_enabled (new : cfg.function = .engineSpeed) (on : cfg.enabled = true) (blind : s.run.state = .blind) :
    (s.setChannel i cfg).run.state = .off := by
  have before : ((s.setChannelRecord i (s.channels[i].restart cfg)).announceGivenUp s.channels[i].cfg.function cfg.function i).run.state =
      .blind := (congrArg RunDetector.state (announceGivenUp_run _ i new)).trans blind
  rw [setChannel_eq_announceHeld]
  generalize (s.setChannelRecord i (s.channels[i].restart cfg)).announceGivenUp _ _ i = u at before
  simp only [new, ChannelConfig.startState, on, State.announce, State.engineAnnounce, before, reduceCtorEq, if_false, if_true,
    ne_eq, not_false_eq_true, and_self]
  exact enterRun_state ..

end

/-! ## The obligation -/

theorem exec_setChannel (s : State) (tag : Byte) (payload : List Byte) :
    exec (.setChannel tag payload) s = .next (s.serve ⟨0x01, tag, payload⟩ setChannelMeaning) := rfl

/-- Settles O28: each refusal is the branch of `setChannelMeaning` that its check takes; a taken request is answered as
`serve_deferred` has it, from the channel that `setChannel_channels` gives and the announcements of R23. -/
theorem channelSetOrRefused : Obligations.ChannelSetOrRefused := by
  unfold Obligations.ChannelSetOrRefused
  intro s tag payload r f ok ready len
  have settings := exists_readChannelConfig payload
  have refuse : ∀ {reason}, (∀ d, setChannelMeaning payload (s.taking d) = .refused reason (s.taking d)) →
      s.refuses (.setChannel tag payload) r reason := refuses_of_ready ready (exec_setChannel ..)
  refine ⟨fun bad => refuse fun d => setChannelMeaning_eq_outOfRange _ len (by rwa [settings]), ?_⟩
  intro i g number function valid c taken
  obtain ⟨cfg, read⟩ := settings.2 valid.2
  obtain ⟨hf, hm, hb, he, teeth, minPeriod, overspeed, -⟩ := (readChannelConfig_eq_some payload cfg).1 read
  obtain rfl : cfg.function = g := Option.some.inj (hf.symm.trans function)
  have enabled : cfg.enabled = decide (f 10 1 = 1) := ((flagOfCode_eq_some _ _).1 he).2
  have checked : ∀ d, setChannelMeaning payload (s.taking d) = (s.taking d).setChannelChecked i cfg := fun d =>
    setChannelMeaning_eq_checked _ len number read
  have held_iff : s.functionTaken i cfg.function = true ↔ taken := functionTaken_iff ..
  rw [← held_iff]
  refine ⟨fun h => refuse fun d => (checked d).trans (setChannelChecked_eq_taken _ _ _ h),
    fun h active => refuse fun d => (checked d).trans (setChannelChecked_eq_active _ _ _ h active), fun h rest => ?_⟩
  obtain ⟨d, reply, power, record, next, held, frame⟩ := serve_deferred (m := setChannelMeaning) ready
    (fun d => (checked d).trans (setChannelChecked_eq_configured _ _ _ h rest))
    (fun d => (setChannel_keepsRequests (s.taking d) i cfg ready.2.1).trans (markDirty_keepsRequests ..))
  have channels : (s.serve r setChannelMeaning).channels = s.channels.set i (c.restart cfg) :=
    (frame.channels (by simp)).trans (setChannel_channels ..)
  have run : (s.serve r setChannelMeaning).run = ((s.taking d).setChannel i cfg).run := frame.run (by simp)
  have self : (s.serve r setChannelMeaning).channels[i] = c.restart cfg := by simp [channels]
  refine ⟨s.serve r setChannelMeaning, exec_setChannel .., reply, power, ?_⟩
  rw [run, self]
  refine ⟨rfl, teeth, hm, hb, minPeriod, overspeed, enabled, ?_, fun j other => ?_, setChannel_givenUp_blind (s.taking d) i cfg,
    fun new off => setChannel_engine_disabled _ _ _ new (by simp [enabled, off]),
    fun new on blind => setChannel_engine_enabled _ _ _ new (by simp [enabled, on]) blind,
    record, next, fun n x => held n (by simpa using x), ?_⟩
  · simp [Channel.restart, Channel.rest, ChannelConfig.startState, enabled]
  · simp only [channels, Fin.getElem_fin]
    exact Vector.getElem_set_ne _ _ fun e => other (Fin.ext e.symm)
  · refine .trans (t := s.taking d) (by simp [State.sameExcept, State.taking]) (.trans ?_ (frame.mono (by simp)))
    exact .trans ((setChannel_frame ..).mono (by simp)) ((markDirty_frame ..).mono (by simp))

end Sys2Proof.Machine
end

section
/-! DISCARD_SLOT (06 R108, R109): its checks in order, and what is left of a slot it discards. -/

namespace Sys2Proof.Machine

/-! ## Dirty marks -/

/-- Dirty marks are all that marking lines changes in the Store Controller (R151). -/
theorem markAll_ctl (s : State) (ns : List Nat) : (s.markAll ns).ctl = { s.ctl with dirty := (s.markAll ns).ctl.dirty } := by
  unfold State.markAll
  induction ns generalizing s with
  | nil => rfl
  | cons n ns ih => exact ih (s.markDirty n)

section
variable (s : State) (i : Fin 20)

/-! ## The slot made EMPTY -/

theorem emptySlot_table : (s.emptySlot i).table = { s.table with slots := s.table.slots.set i .empty } :=
  (markAll_frame (s.setSlot i .empty) (slotLines i)).table (by simp)

theorem emptySlot_ctl : (s.emptySlot i).ctl = { s.ctl with dirty := (s.emptySlot i).ctl.dirty } :=
  markAll_ctl (s.setSlot i .empty) (slotLines i)

theorem emptySlot_records : (s.emptySlot i).ctl.records = s.ctl.records := by rw [emptySlot_ctl]

theorem emptySlot_holds (n : Nat) : (s.emptySlot i).ctl.holds n ↔ s.ctl.holds n := by rw [emptySlot_ctl]; rfl

theorem emptySlot_sameSettings : s.ctl.sameSettings (s.emptySlot i).ctl := by
  rw [emptySlot_ctl]
  exact .refl s.ctl

/-! ## The checks -/

theorem discardMeaning_eq_outOfRange {b : Byte} (h : 20 ≤ b.toNat) : discardMeaning [b] s = .refused .outOfRange s := by
  have bad : ¬ field [b] 0 1 < 20 := by rw [field_one _ _ (by simp)]; exact Nat.not_lt.2 h
  rw [discardMeaning, sized, if_pos List.length_singleton, dif_neg bad]

variable {i} in
theorem discardMeaning_eq_checked {b : Byte} (h : b.toNat = i.val) : discardMeaning [b] s = s.discardChecked i := by
  have number : field [b] 0 1 = i.val := (field_one _ _ (by simp)).trans h
  rw [discardMeaning, sized, if_pos List.length_singleton, dif_pos (number ▸ i.isLt)]
  exact congrArg s.discardChecked (Fin.ext number)

theorem discardChecked_eq_slotEmpty (empty : s.table.slots[i].ident.state = .empty) :
    s.discardChecked i = .refused .slotEmpty s := if_pos empty

theorem discardChecked_eq_slotFitted (fitted : s.table.slots[i].ident.state = .fitted) :
    s.discardChecked i = .refused .slotFitted s := by
  rw [State.discardChecked, if_neg (fitted ▸ by decide), if_pos fitted]

theorem discardChecked_eq_emptied (out : s.table.slots[i].ident.state = .damaged ∨ s.table.slots[i].ident.state = .stray) :
    s.discardChecked i = .deferred [] (slotLines i) (s.emptySlot i) := by
  obtain ⟨notEmpty, notFitted⟩ : s.table.slots[i].ident.state ≠ .empty ∧ s.table.slots[i].ident.state ≠ .fitted := by
    rcases out with h | h <;> exact h ▸ by decide
  rw [State.discardChecked, if_neg notEmpty, if_neg notFitted]

end

/-! ## The obligation -/

theorem exec_discardSlot (s : State) (tag : Byte) (payload : List Byte) :
    exec (.discardSlot tag payload) s = .next (s.serve ⟨0x0F, tag, payload⟩ discardMeaning) := rfl

/-- Settles O37: each refusal is the branch of `discardMeaning` that its check takes; a DAMAGED or STRAY slot leads to
`emptySlot`, which touches the slot and its dirty marks only, and `ready_awaits` gives the record. -/
theorem slotDiscarded : Obligations.SlotDiscarded := by
  unfold Obligations.SlotDiscarded
  intro s tag b r ready
  have run : exec (.discardSlot tag [b]) s = .next (s.serve r discardMeaning) := exec_discardSlot ..
  refine ⟨fun high => ready_refused ready run fun d => discardMeaning_eq_outOfRange _ high, ?_⟩
  intro i number x
  have checked : ∀ d, discardMeaning r.payload (s.taking d) = (s.taking d).discardChecked i := fun d =>
    discardMeaning_eq_checked _ number
  refine ⟨fun empty => ready_refused ready run fun d => (checked d).trans (discardChecked_eq_slotEmpty _ i empty),
    fun fitted => ready_refused ready run fun d => (checked d).trans (discardChecked_eq_slotFitted _ i fitted), fun out => ?_⟩
  obtain ⟨d, t, next, link, power, awaits, settings, emptied, frame⟩ := ready_awaits ready run
    (fun d => (checked d).trans (discardChecked_eq_emptied _ i out)) (fun d => emptySlot_frame (s.taking d) i)
    (by simp) (by simp) (fun d => emptySlot_records (s.taking d) i) (fun d => emptySlot_holds (s.taking d) i)
    (fun d => emptySlot_sameSettings (s.taking d) i)
  have answered : s.answered t (.deferred tag []) := by
    rw [(emptySlot_frame (s.taking d) i).link (by simp)] at link
    exact link
  have table : t.table = { s.table with slots := s.table.slots.set i .empty } :=
    (emptied.table (by simp)).trans (emptySlot_table (s.taking d) i)
  exact ⟨t, next, answered, power, table, awaits, settings, frame.mono (by simp)⟩

end Sys2Proof.Machine
end

section
/-! Fitment requests (07 R113): what a refusal of a ready one comes to. -/

namespace Sys2Proof.Machine

/-- A ready fitment request that its own chapter refuses restarts the deadline of an open context, and changes nothing else. -/
theorem ready_turnedAway {s : State} {c : Instr} {r : Request} {m : Meaning} {reason : Reason} (h : s.ready r)
    (run : exec c s = .next (s.serve r m))
    (judged : ∀ d, m r.payload (s.taking d) = .refused reason (s.taking d).touchDeadline) : s.turnsAway c r reason := by
  obtain ⟨d, served⟩ := serve_ready h m
  refine ⟨_, run.trans (congrArg _ served), ?_⟩
  rw [judged]
  refine ⟨rfl, rfl, rfl, ?_⟩
  have judging : s.sameExcept (s.taking d).touchDeadline [.fitment, .link, .sup] :=
    .then (taking_frame s d) (touchDeadline_frame _) (by simp) (by simp)
  exact judging.trans (.then (reply_frame ..) (supervise_frame _) (by simp) (by simp))

/-- Without a context there is no deadline to restart. -/
theorem touchDeadline_of_none {s : State} (closed : s.fitment = none) : s.touchDeadline = s := by
  obtain ⟨⟩ := s
  cases closed
  rfl

end Sys2Proof.Machine
end

section
/-! BEGIN_FITMENT (07 R114, R115): its checks in order, and the context it creates. -/

namespace Sys2Proof.Machine

/-! ## The codes -/

theorem exists_positionOfCode (n : Nat) : (∃ p, Position.ofCode n = some p) ↔ n ≤ 15 :=
  (exists_getElem?_iff ..).trans Nat.lt_succ_iff

theorem exists_actionOfCode (n : Nat) : (∃ a, Action.ofCode n = some a) ↔ n ≤ 2 :=
  (exists_getElem?_iff ..).trans Nat.lt_succ_iff

theorem within_iff (lo hi n : Nat) : within lo hi n = true ↔ lo ≤ n ∧ n ≤ hi := by simp [within]

/-! ## The checks -/

section
variable (s : State) {payload : List Byte} {p : Position} {a : Action} {timeout : Nat}

theorem beginMeaning_eq_checked (len : payload.length = 4) (position : Position.ofCode (field payload 0 1) = some p)
    (action : Action.ofCode (field payload 1 1) = some a) (low : 30 ≤ field payload 2 2) (high : field payload 2 2 ≤ 600) :
    beginMeaning payload s = (s.beginChecked p a (field payload 2 2)).touched := by
  rw [beginMeaning, fitmentRequest, sized, if_pos len, position, action]
  simp only [(within_iff ..).2 ⟨low, high⟩, if_true]

theorem beginMeaning_eq_outOfRange (len : payload.length = 4)
    (bad : ¬ (field payload 0 1 ≤ 15 ∧ field payload 1 1 ≤ 2 ∧ 30 ≤ field payload 2 2 ∧ field payload 2 2 ≤ 600)) :
    beginMeaning payload s = .refused .outOfRange s.touchDeadline := by
  rw [beginMeaning, fitmentRequest, sized, if_pos len]
  split
  · rename_i p a position action
    have late : ¬ within 30 600 (field payload 2 2) = true := fun h =>
      bad ⟨(exists_positionOfCode _).1 ⟨p, position⟩, (exists_actionOfCode _).1 ⟨a, action⟩, (within_iff ..).1 h⟩
    rw [if_neg late]; rfl
  · rfl

theorem beginChecked_eq_fitmentOpen (opened : s.fitment ≠ none) : s.beginChecked p a timeout = .refused .fitmentOpen s :=
  if_pos (Option.isSome_iff_ne_none.2 opened)

/-- With no context open the map entry decides (R114). -/
theorem beginChecked_of_none (closed : s.fitment = none) : s.beginChecked p a timeout =
    if a = .install then
      if s.table.map[p.index] = none then s.begin p a timeout none else .refused .positionOccupied s
    else if s.table.map[p.index] = none then .refused .positionEmpty s
    else s.begin p a timeout s.table.map[p.index] := by
  unfold State.beginChecked
  rw [closed]
  cases a <;> cases s.table.map[p.index] <;> rfl

theorem beginChecked_eq_positionEmpty (closed : s.fitment = none) (action : a ≠ .install)
    (empty : s.table.map[p.index] = none) : s.beginChecked p a timeout = .refused .positionEmpty s := by
  rw [beginChecked_of_none s closed, if_neg action, if_pos empty]

theorem beginChecked_eq_positionOccupied (closed : s.fitment = none) (action : a = .install)
    (occupied : s.table.map[p.index] ≠ none) : s.beginChecked p a timeout = .refused .positionOccupied s := by
  rw [beginChecked_of_none s closed, if_pos action, if_neg occupied]

/-- INSTALL at an unmapped position and REMOVE or REPLACE at a mapped one are taken, the map's entry being the outgoing slot. -/
theorem beginChecked_eq_begin (closed : s.fitment = none) (fits : a = .install ↔ s.table.map[p.index] = none) :
    s.beginChecked p a timeout = s.begin p a timeout s.table.map[p.index] := by
  rw [beginChecked_of_none s closed]
  by_cases empty : s.table.map[p.index] = none
  · rw [if_pos (fits.2 empty), if_pos empty, empty]
  · rw [if_neg (mt fits.1 empty), if_neg empty]

/-- The body of the reply: the outgoing slot or none, and the item count of the frozen image (R115). -/
def State.beginReply (out : Option (Fin 20)) : List Byte :=
  match out with
  | some i => leBytes 1 i.val ++ leBytes 1 s.table.slots[i].tally.items.length
  | none => leBytes 1 0xFF ++ leBytes 1 0

/-- The deadline of the context just created is the restarted one already (R113, R115). -/
theorem begin_touched (out : Option (Fin 20)) : (s.begin p a timeout out).touched =
    .done (s.beginReply out) { s with fitment := some (s.newContext p a timeout out) } := by
  cases out <;> rfl

end

/-! ## The obligation -/

theorem exec_beginFitment (s : State) (tag : Byte) (payload : List Byte) :
    exec (.beginFitment tag payload) s = .next (s.serve ⟨0x10, tag, payload⟩ beginMeaning) := rfl

/-- A ready BEGIN_FITMENT that is taken: the reply, the context, and what stays (R115). -/
theorem ready_begun {s : State} {r : Request} {p : Position} {a : Action} {timeout : Nat} {out : Option (Fin 20)}
    (h : s.ready r) (judged : ∀ d, beginMeaning r.payload (s.taking d) = ((s.taking d).begin p a timeout out).touched) :
    ∃ t, s.serve r beginMeaning = t ∧ s.answered t (.done r.tag (s.beginReply out)) ∧ s.samePower t ∧
      t.fitment = some (s.newContext p a timeout out) ∧ s.sameExcept t [.fitment, .link, .sup] := by
  obtain ⟨d, t, served, link, power, frame⟩ := ready_done (m := beginMeaning) (body := s.beginReply out)
    (g := fun d => { s.taking d with fitment := some (s.newContext p a timeout out) }) h
    fun d => (judged d).trans (begin_touched ..)
  exact ⟨t, served, link, power, frame.fitment (by simp),
    .trans (.then (taking_frame s d) (setFitment_frame ..) (by simp) (by simp)) (frame.mono (by simp))⟩

/-- Settles O38: each refusal is the branch of `beginMeaning` that its check takes; where no context is open the restarted deadline
is none at all, and a taken request creates the context of `newContext`. -/
theorem fitmentBegun : Obligations.FitmentBegun := by
  unfold Obligations.FitmentBegun
  intro s tag payload r f c ok ready len
  have run : exec c s = .next (s.serve r beginMeaning) := exec_beginFitment ..
  have checked : ∀ {p a}, Position.ofCode (f 0 1) = some p → Action.ofCode (f 1 1) = some a → ok →
      ∀ d, beginMeaning r.payload (s.taking d) = ((s.taking d).beginChecked p a (f 2 2)).touched :=
    fun position action ⟨_, _, low, high⟩ d => beginMeaning_eq_checked _ len position action low high
  refine ⟨fun bad => ready_turnedAway ready run fun d => beginMeaning_eq_outOfRange _ len bad, fun valid opened => ?_, ?_⟩
  · obtain ⟨p, position⟩ := (exists_positionOfCode _).2 valid.1
    obtain ⟨a, action⟩ := (exists_actionOfCode _).2 valid.2.1
    refine ready_turnedAway ready run fun d => ?_
    rw [checked position action valid, beginChecked_eq_fitmentOpen (s.taking d) opened, Answer.touched]
  intro p a position action valid closed
  have judged := checked position action valid
  have refuse : ∀ {reason}, (∀ d, (s.taking d).beginChecked p a (f 2 2) = .refused reason (s.taking d)) →
      s.refuses c r reason := fun h => ready_refused ready run fun d => by
    rw [judged, h, Answer.touched, touchDeadline_of_none (s := s.taking d) closed]
  refine ⟨fun notInstall empty => refuse fun d => beginChecked_eq_positionEmpty (s.taking d) closed notInstall empty,
    fun install occupied => refuse fun d => beginChecked_eq_positionOccupied (s.taking d) closed install occupied, fun fits => ?_⟩
  obtain ⟨t, served, answered, power, context, frame⟩ := ready_begun (out := s.table.map[p.index]) ready fun d =>
    (judged d).trans (congrArg _ (beginChecked_eq_begin (s.taking d) closed fits))
  exact ⟨t, run.trans (congrArg _ served), answered, power, context, frame⟩

end Sys2Proof.Machine
end

section
/-! The Period Book (08 R133, R134, R141): what forming, closing and opening records comes to, and the ready requests that do so. -/

namespace Sys2Proof.Machine

/-! ## Operations that only mark lines dirty in the Store Controller -/

/-- From s to u the Store Controller changes in its dirty marks only. -/
def State.marksOnly (s u : State) : Prop := u.ctl = { s.ctl with dirty := u.ctl.dirty }

section
variable {s u v : State}

theorem State.marksOnly.trans (h : s.marksOnly u) (k : u.marksOnly v) : s.marksOnly v := by
  unfold State.marksOnly at *
  rw [k, h]

theorem State.marksOnly.of_ctl (h : u.ctl = s.ctl) : s.marksOnly u := by rw [State.marksOnly, h]

theorem State.marksOnly.records (h : s.marksOnly u) : u.ctl.records = s.ctl.records := by rw [h]

theorem State.marksOnly.holds (h : s.marksOnly u) (n : Nat) : u.ctl.holds n ↔ s.ctl.holds n := by rw [h]; rfl

theorem State.marksOnly.sameSettings (h : s.marksOnly u) : s.ctl.sameSettings u.ctl := by
  rw [h]
  exact .refl s.ctl

end

/-! ## Records formed, opened and closed (R133, R134) -/

section
variable (s : State)

theorem formRecord_book (h : Header) : (s.formRecord h).book =
    { s.book with places := s.book.places.set (placeOf h.seq) (openedPlace h) } :=
  (markAll_frame (s.setPlace (placeOf h.seq) (openedPlace h)) _).book (by simp)

theorem formRecord_marksOnly (h : Header) : s.marksOnly (s.formRecord h) :=
  markAll_ctl (s.setPlace (placeOf h.seq) (openedPlace h)) _

theorem openRecord_book (h : Header) : (s.openRecord h).book =
    { s.book with newest := h.seq, places := s.book.places.set (placeOf h.seq) (openedPlace h) } :=
  congrArg (fun b : Book => { b with newest := h.seq }) (formRecord_book s h)

theorem openRecord_marksOnly (h : Header) : s.marksOnly (s.openRecord h) := (formRecord_marksOnly s h).trans rfl

theorem closeOpen_eq {s : State} {h : Header} (opened : s.book.openHeader = some h) (reason : CloseReason) :
    s.closeOpen reason = (s.setPlace s.book.openPlace { s.book.places[s.book.openPlace] with
      header := some (h.close reason s.timeField) }).markDirty (headerLine s.book.openPlace) := by
  have header : s.book.places[s.book.openPlace].header = some h := opened
  rw [State.closeOpen, header]

theorem closeOpen_marksOnly (reason : CloseReason) : s.marksOnly (s.closeOpen reason) := by
  cases opened : s.book.openHeader with
  | some h => rw [closeOpen_eq opened]; rfl
  | none =>
    have header : s.book.places[s.book.openPlace].header = none := opened
    rw [State.closeOpen, header]; rfl

section
variable (close : CloseReason) (kind : PeriodKind) (contract : Option Text) (segment : Nat) (reason : OpenReason)

/-- The open record stands closed in its place, and the new one in the place after it. -/
theorem turnPage_book {s : State} {h : Header} (opened : s.book.openHeader = some h) :
    (s.turnPage close kind contract segment reason).book = { s.book with
      newest := s.book.newest + 1
      places := (s.book.places.set s.book.openPlace { s.book.places[s.book.openPlace] with
          header := some (h.close close s.timeField) }).set (placeOf (s.book.newest + 1))
        (openedPlace (openedHeader (s.book.newest + 1) kind contract segment reason s.timeField)) } := by
  rw [State.turnPage, openRecord_book, closeOpen_eq opened]
  rfl

theorem turnPage_marksOnly : s.marksOnly (s.turnPage close kind contract segment reason) :=
  (closeOpen_marksOnly s close).trans (openRecord_marksOnly _ _)

end

/-! ## BOOK_NEAR_FULL (R141) -/

theorem raise_notice_ne_none {k : NoticeKind} (d : Detail) (on : s.level k ≠ 0) : (s.raise k d).notice k ≠ none := by
  simp [State.raise, State.notice, on]

theorem noteNearFull_keepsRequests : s.KeepsRequests s.noteNearFull := .ite (raise_keepsRequests ..) (.refl s)

theorem noteNearFull_eq (other : s.book.count ≠ 20) : s.noteNearFull = s := if_neg other

theorem noteNearFull_notice (full : s.book.count = 20) (on : s.level .bookNearFull ≠ 0) :
    s.noteNearFull.notice .bookNearFull ≠ none := by
  rw [State.noteNearFull, if_pos full]
  exact raise_notice_ne_none s _ on

end

/-! ## Requests that form a record, or close one and open the next -/

section
variable {s : State} {c : Instr} {r : Request} {m : Meaning} {body : List Byte} {lines : List Nat}
  (ready : s.ready r) (run : exec c s = .next (s.serve r m))
include ready run

/-- A ready request that forms one record anew: the reply, the book and the lines awaited (R133). -/
theorem ready_formsRecord (h : Header)
    (judged : ∀ d, m r.payload (s.taking d) = .deferred body lines ((s.taking d).formRecord h)) :
    ∃ t, exec c s = .next t ∧ s.answered t (.deferred r.tag body) ∧ s.samePower t ∧
      t.book = { s.book with places := s.book.places.set (placeOf h.seq) (openedPlace h) } ∧
      s.awaiting t r lines ∧ s.ctl.sameSettings t.ctl ∧ s.sameExcept t [.nextId, .book, .ctl, .link, .sup] := by
  have frame (d) : (s.taking d).sameExcept ((s.taking d).formRecord h) [.book, .ctl] := formRecord_frame ..
  have marks (d) : s.marksOnly ((s.taking d).formRecord h) := formRecord_marksOnly (s.taking d) h
  obtain ⟨d, t, next, link, power, awaits, settings, after, kept⟩ := ready_awaits ready run judged frame (by simp) (by simp)
    (fun d => (marks d).records) (fun d => (marks d).holds) (fun d => (marks d).sameSettings)
  refine ⟨t, next, ?_, power, (after.book (by simp)).trans (formRecord_book (s.taking d) h), awaits, settings,
    kept.mono (by simp)⟩
  rw [(frame d).link (by simp)] at link
  exact link

/-- A ready request that closes the open record and opens the next: the reply, the book, the lines awaited, and the notice that
follows from the count (R133, R134, R141). -/
theorem ready_turnsPage {h : Header} {close : CloseReason} {kind : PeriodKind} {contract : Option Text} {segment : Nat}
    {reason : OpenReason} (opened : s.book.openHeader = some h)
    (judged : ∀ d, m r.payload (s.taking d) =
      .deferred body lines ((s.taking d).turnPage close kind contract segment reason).noteNearFull) :
    ∃ t, exec c s = .next t ∧ s.replied t (.deferred r.tag body) ∧ s.samePower t ∧
      t.book = (s.turnPage close kind contract segment reason).book ∧ s.awaiting t r lines ∧
      (t.book.count ≠ 20 → t.link.notices = s.link.notices) ∧
      (t.book.count = 20 → s.level .bookNearFull ≠ 0 → t.notice .bookNearFull ≠ none) ∧
      s.ctl.sameSettings t.ctl ∧ s.sameExcept t [.nextId, .book, .ctl, .link, .sup] := by
  let turned (d : Timer) : State := (s.taking d).turnPage close kind contract segment reason
  have pageFrame (d) : (s.taking d).sameExcept (turned d) [.book, .ctl] := turnPage_frame ..
  have noteFrame (d) : (turned d).sameExcept (turned d).noteNearFull [.link] := noteNearFull_frame _
  have marks (d) : s.marksOnly (turned d).noteNearFull :=
    (turnPage_marksOnly (s.taking d) ..).trans (.of_ctl ((noteFrame d).ctl (by simp)))
  obtain ⟨d, t, next, link, power, awaits, settings, frame, kept⟩ := ready_awaits (bs := [.book, .ctl, .link]) ready run judged
    (fun d => (pageFrame d).then (noteFrame d) (by simp) (by simp)) (by simp) (by simp) (fun d => (marks d).records)
    (fun d => (marks d).holds) (fun d => (marks d).sameSettings)
  have pageLink : (turned d).link = (s.taking d).link := (pageFrame d).link (by simp)
  have book : t.book = (turned d).book := (frame.book (by simp)).trans ((noteFrame d).book (by simp))
  have same : (turned d).book = (s.turnPage close kind contract segment reason).book :=
    (turnPage_book (s := s.taking d) close kind contract segment reason opened).trans (turnPage_book _ _ _ _ _ opened).symm
  have notices : t.link.notices = (turned d).noteNearFull.link.notices := by rw [link]
  refine ⟨t, next, ?_, power, book.trans same, awaits, fun other => ?_, fun full on => ?_, settings, kept.mono (by simp)⟩
  · rw [State.replied, link, (noteNearFull_keepsRequests _).link, pageLink]; rfl
  · rw [notices, noteNearFull_eq _ (book ▸ other), pageLink]; rfl
  · have level : (turned d).level .bookNearFull = s.level .bookNearFull := by rw [State.level, pageLink]; rfl
    rw [State.notice, notices]
    exact noteNearFull_notice _ (book ▸ full) (level ▸ on)

end

/-! ## Requests with a contract reference (R136, R139) -/

/-- A contract reference within R136 goes to the meaning of the request. -/
theorem withContract_eq {payload : List Byte} {contract : Text} (m : Text → State → Answer) (s : State)
    (len : payload.length = 17) (text : textField 16 payload 0 = some contract) :
    withContract m payload s = m contract s := by
  rw [withContract, sized, if_pos len, text]

theorem withContract_eq_outOfRange {payload : List Byte} (m : Text → State → Answer) (s : State)
    (len : payload.length = 17) (bad : textField 16 payload 0 = none) :
    withContract m payload s = .refused .outOfRange s := by
  rw [withContract, sized, if_pos len, bad]

theorem canOpen_iff (b : Book) : b.canOpen = true ↔ b.count < 24 ∧ b.newest < 4294967295 := by
  rw [Book.canOpen, Bool.and_eq_true, decide_eq_true_iff, decide_eq_true_iff]
  rfl

section
variable {s : State} {info : PeriodInfo}

theorem openInfo_eq {h : Header} (opened : s.book.openHeader = some h) (present : h.info = some info) :
    s.openInfo = some info := by
  rw [State.openInfo, opened, Option.bind_some, present]

theorem openKind_eq (opened : s.openInfo = some info) : s.openKind = some info.kind := by
  rw [State.openKind, opened, Option.map_some]

end

end Sys2Proof.Machine
end

section
/-! OPEN_RENTAL (08 R136 to R138): its checks in order, and the record it opens. -/

namespace Sys2Proof.Machine

/-! ## The checks -/

section
variable {s : State} {info : PeriodInfo}

theorem discardable_iff (opened : s.openInfo = some info) :
    s.discardable = true ↔ s.book.places[s.book.openPlace].increments = [] ∧ info.restarts = 0 := by
  rw [State.discardable, opened]
  simp

variable (contract : Text)

theorem openRental_eq_wrongState (other : s.openKind ≠ some .idle) : s.openRental contract = .refused .wrongState s :=
  if_pos other

section
variable (idle : s.openKind = some .idle)
include idle

theorem openRental_eq_fitmentOpen (fitting : s.fitment ≠ none) : s.openRental contract = .refused .fitmentOpen s := by
  rw [State.openRental, if_neg (not_not_intro idle), if_pos (Option.isSome_iff_ne_none.2 fitting)]

/-- With an IDLE record open and no fitment context, the record and then the room decide (R136 to R138). -/
theorem openRental_of_none (closed : s.fitment = none) : s.openRental contract =
    if s.discardable then s.openInPlace contract
    else if s.book.canOpen then s.openAfter contract
    else .refused .bookFull s := by
  rw [State.openRental, if_neg (not_not_intro idle), closed]
  rfl

theorem openRental_eq_openInPlace (closed : s.fitment = none) (discard : s.discardable = true) :
    s.openRental contract = s.openInPlace contract := by
  rw [openRental_of_none contract idle closed, if_pos discard]

theorem openRental_eq_openAfter (closed : s.fitment = none) (kept : ¬ s.discardable = true)
    (free : s.book.canOpen = true) : s.openRental contract = s.openAfter contract := by
  rw [openRental_of_none contract idle closed, if_neg kept, if_pos free]

theorem openRental_eq_bookFull (closed : s.fitment = none) (kept : ¬ s.discardable = true)
    (full : ¬ s.book.canOpen = true) : s.openRental contract = .refused .bookFull s := by
  rw [openRental_of_none contract idle closed, if_neg kept, if_neg full]

end

end

/-! ## The obligation -/

theorem exec_openRental (s : State) (tag : Byte) (payload : List Byte) :
    exec (.openRental tag payload) s = .next (s.serve ⟨0x16, tag, payload⟩ openRentalMeaning) := rfl

/-- Settles O43: each refusal is the branch of `openRental` that its check takes; a discardable record is formed anew in its place
(`ready_formsRecord`), another is closed and the rental opens after it (`ready_turnsPage`). -/
theorem rentalOpened : Obligations.RentalOpened := by
  unfold Obligations.RentalOpened
  intro s tag payload r c n pl time rental ready len
  have run : exec c s = .next (s.serve r openRentalMeaning) := exec_openRental ..
  refine ⟨fun bad => ready_refused ready run fun d => withContract_eq_outOfRange _ _ len bad, ?_⟩
  intro contract h info text opened present discardable room
  have answer : ∀ d, openRentalMeaning r.payload (s.taking d) = (s.taking d).openRental contract := fun d =>
    withContract_eq _ _ len text
  have current : s.openInfo = some info := openInfo_eq opened present
  have kind : s.openKind = some info.kind := openKind_eq current
  have discards : s.discardable = true ↔ discardable := discardable_iff current
  have opens : s.book.canOpen = true ↔ room := canOpen_iff s.book
  have idle_kind : info.kind = .idle → s.openKind = some .idle := fun idle => kind.trans (congrArg some idle)
  rw [← discards, ← opens]
  refine ⟨fun other => ready_refused ready run fun d => ?_, fun idle fitting => ready_refused ready run fun d => ?_,
    fun idle closed kept full => ready_refused ready run fun d => ?_, fun idle closed discard => ?_,
    fun idle closed kept free => ?_⟩
  · exact (answer d).trans (openRental_eq_wrongState (s := s.taking d) _ fun idle =>
      other (Option.some.inj (kind.symm.trans idle)))
  · exact (answer d).trans (openRental_eq_fitmentOpen (s := s.taking d) _ (idle_kind idle) fitting)
  · exact (answer d).trans (openRental_eq_bookFull (s := s.taking d) _ (idle_kind idle) closed kept full)
  · exact ready_formsRecord ready run (openedHeader n .rental (some contract) 0 .rentalStart time) fun d =>
      (answer d).trans (openRental_eq_openInPlace (s := s.taking d) _ (idle_kind idle) closed discard)
  · have after : ∀ d, openRentalMeaning r.payload (s.taking d) = (s.taking d).openAfter contract := fun d =>
      (answer d).trans (openRental_eq_openAfter (s := s.taking d) _ (idle_kind idle) closed kept free)
    obtain ⟨t, next, reply, power, book, rest⟩ := ready_turnsPage (body := leBytes 4 n ++ leBytes 4 (n + 1))
      (lines := turnLines n ++ [5]) ready run opened after
    exact ⟨t, next, reply, power, book.trans (turnPage_book _ _ _ _ _ opened), rest⟩

end Sys2Proof.Machine
end

section
/-! The machine: the front command, the state at reset (log 3, log 4). -/
namespace Sys2Proof.Machine

/-- Settles O1: both sides are the branches of `step` and of `State.tick`. -/
theorem stepTakesFrontCommand : Obligations.StepTakesFrontCommand := by
  unfold Obligations.StepTakesFrontCommand
  refine fun s => ⟨fun c rest => rfl, fun empty live starting unread => ?_, fun empty other => ?_⟩
  · simp [step, State.tick, empty, live, starting, unread]
  · have idle : (s.live && decide (s.sup.power = .starting) && s.sup.unread) = false := by
      simpa [and_assoc] using other
    simp [step, State.tick, empty, idle]

/-! ## The invariants at reset -/

theorem reset_storeOk : State.reset.storeOk := by
  refine ⟨by decide, by decide, by decide, fun n h => ?_⟩
  have lines : n ∈ [86, 87, 88, 89] ∨ n = 5 := by
    rcases h with (h | h) | h
    · exact .inl h
    · exact .inr (Option.some.inj h).symm
    · exact .inl h
  simp only [List.mem_cons, List.not_mem_nil, or_false] at lines
  rw [Config.lineCount]
  omega

theorem reset_slots (i : Fin 20) : State.reset.table.slots[i] = .empty := by revert i; decide +kernel

theorem reset_tableOk : State.reset.tableOk := by
  refine ⟨fun p => ?_, fun i h => ?_, fun c h => nomatch h⟩
  · cases p <;> decide +kernel
  · rw [reset_slots] at h
    exact nomatch h

theorem reset_bookOk : State.reset.bookOk := by
  refine ⟨fun h => absurd h (by decide), fun _ => ⟨by decide, by decide, by decide, by decide, fun q low high => ?_, fun p h => ?_⟩⟩
  · obtain rfl : q = 1 := Nat.le_antisymm high low
    exact ⟨_, rfl, rfl, by decide, by decide⟩
  · have other := h 1 (by decide) (by decide)
    revert p
    decide +kernel

/-- Settles O8: each bound is a finite fact about the values of `State.reset`. -/
theorem invariantsHoldAtReset : Obligations.InvariantsHoldAtReset := by
  unfold Obligations.InvariantsHoldAtReset
  refine ⟨reset_storeOk, ?_, ?_, reset_tableOk, reset_bookOk⟩
  · unfold State.linkBounds; decide +kernel
  · unfold State.countsOk; decide +kernel

/-! ## The first start-up of a fresh part (log 4) -/

/-- Nothing is in flight at rest, so a supply that comes up cuts no write short. -/
theorem cutWrite_of_idle {s : State} (idle : s.ctl.flight = none) (cut : WriteEnd) : s.cutWrite cut = s := by
  rw [State.cutWrite, idle]

/-- The part fresh from manufacture, before its supply comes up. -/
def manufactured : State := State.reset.atRest.setPins { supply := false, reset := false, powerWarn := false }

/-- The part at rest with its supply up. -/
def supplied : State := (manufactured.setPins { manufactured.pins with supply := true }).atRest

theorem powerUp_manufactured (cut : WriteEnd) : exec (.powerUp cut []) manufactured = .next supplied := by
  simp only [exec, execPowerUp]
  rw [cutWrite_of_idle (by rfl)]
  rfl

theorem finishStart_supplied : supplied.startUp.finishStart = State.reset := by decide +kernel

/-- Settles O9: the values are read off `State.reset`, and the first start-up is evaluated to it. -/
theorem resetValues : Obligations.ResetValues := by
  unfold Obligations.ResetValues
  refine ⟨rfl, rfl, rfl, by decide +kernel, fun l => by cases l <;> decide +kernel, rfl, rfl, rfl, rfl, rfl, rfl, rfl, rfl, rfl,
    rfl, rfl, fun i => by rw [reset_slots]; rfl, fun p => by cases p <;> decide +kernel, rfl, rfl, rfl, rfl, rfl, rfl, rfl, rfl,
    rfl, rfl, rfl, rfl, rfl, rfl, by decide +kernel, rfl, fun cut => ?_⟩
  have starting : (supplied.live && decide (supplied.sup.power = .starting)) = true := by decide +kernel
  have unread : (supplied.live && decide (supplied.sup.power = .starting) && supplied.sup.unread) = true := by decide +kernel
  have start : exec .endOfStartUp supplied = .next State.reset := by
    rw [exec, execEndOfStartUp, if_pos starting, State.tick, if_pos unread, finishStart_supplied]
  have run : execAll [.powerUp cut [], .endOfStartUp] manufactured = .next State.reset := by
    rw [execAll, powerUp_manufactured]
    show execAll [.endOfStartUp] supplied = _
    rw [execAll, start]
    rfl
  exact run
end Sys2Proof.Machine
end

section
/-! Every command answers a next state (00): it does so with a frame. -/
namespace Sys2Proof.Machine

theorem Changes.answers {o : Host.Outcome State Fault Refusal} {s : State} {bs : List Block} (h : Changes o s bs) :
    ∃ t, o = .next t ∧ t.pending = s.pending := by
  obtain ⟨t, next, frame⟩ := h
  exact ⟨t, next, frame.pending⟩

/-- A served request answers a next state. -/
theorem served_answers {s : State} {m : Meaning} {bs : List Block} (keeps : m.keeps bs) (r : Request) :
    ∃ t, Host.Outcome.next (s.serve r m) = (.next t : Host.Outcome State Fault Refusal) ∧ t.pending = s.pending :=
  (Changes.next (serve_frame s keeps r)).answers

/-- Settles O2: each command has a frame, and no frame touches the queue of commands. -/
theorem everyCommandAnswersNext : Obligations.EveryCommandAnswersNext := by
  unfold Obligations.EveryCommandAnswersNext
  intro c s
  cases c with
  | setChannel => exact served_answers setChannel_keeps _
  | setLines => exact served_answers setLines_keeps _
  | setTime => exact served_answers setTime_keeps _
  | setEngineThresholds => exact served_answers setEngine_keeps _
  | setGearTable => exact served_answers setGearTable_keeps _
  | setDriveline => exact served_answers setDriveline_keeps _
  | loadSample => exact served_answers loadSample_keeps _
  | readLive => exact served_answers readLive_keeps _
  | setWearWeights => exact served_answers setWeights_keeps _
  | readOrphans => exact served_answers readOrphans_keeps _
  | clearOrphans => exact served_answers clearOrphans_keeps _
  | rearmService => exact served_answers rearm_keeps _
  | readSlot => exact served_answers readSlot_keeps _
  | readPosition => exact served_answers readPosition_keeps _
  | discardSlot => exact served_answers discard_keeps _
  | beginFitment => exact served_answers begin_keeps _
  | stageComponent => exact served_answers stage_keeps _
  | exportOutgoing => exact served_answers export_keeps _
  | readFitment => exact served_answers readFitment_keeps _
  | commitFitment => exact served_answers commit_keeps _
  | abortFitment => exact served_answers abort_keeps _
  | openRental => exact served_answers openRental_keeps _
  | closeRental => exact served_answers closeRental_keeps _
  | listPeriods => exact served_answers listPeriods_keeps _
  | readPeriod => exact served_answers readPeriod_keeps _
  | releasePeriods => exact served_answers release_keeps _
  | setStoreTiming => exact served_answers setTiming_keeps _
  | readStoreStatus => exact served_answers storeStatus_keeps _
  | setDormancy => exact served_answers setDormancy_keeps _
  | factoryClear => exact served_answers factoryClear_keeps _
  | identify => exact served_answers identify_keeps _
  | readStatus => exact served_answers readStatus_keeps _
  | takeNotice => exact served_answers takeNotice_keeps _
  | setNoticeLevels => exact served_answers setNotices_keeps _
  | unknownKind => exact (execUnknownKind_frame ..).answers
  | frameArrival => exact (execFrameArrival_frame ..).answers
  | gapTimerExpiry => exact (execGapTimerExpiry_frame s).answers
  | breakReceived => exact (execBreakReceived_frame ..).answers
  | replySent => exact (execReplySent_frame s).answers
  | powerUp => exact (execPowerUp_frame ..).answers
  | resetAsserted => exact (execResetAsserted_frame ..).answers
  | resetReleased => exact (execResetReleased_frame ..).answers
  | supplyLoss => exact (execSupplyLoss_frame ..).answers
  | powerWarnAsserted => exact (execPowerWarnAsserted_frame s).answers
  | powerWarnCleared => exact (execPowerWarnCleared_frame s).answers
  | wallClockTick => exact (execWallClockTick_frame s).answers
  | activeEdge => exact (execActiveEdge_frame ..).answers
  | stallTimerExpiry => exact (execStallTimerExpiry_frame ..).answers
  | lineLevelChange => exact (execLineLevelChange_frame ..).answers
  | lineFilterExpiry => exact (execLineFilterExpiry_frame ..).answers
  | runConfirmExpiry => exact (execRunConfirmExpiry_frame s).answers
  | stopConfirmExpiry => exact (execStopConfirmExpiry_frame s).answers
  | settleTimerExpiry => exact (execSettleTimerExpiry_frame s).answers
  | launchWindowExpiry => exact (execLaunchWindowExpiry_frame s).answers
  | staleTimerExpiry => exact (execStaleTimerExpiry_frame s).answers
  | quietTimerExpiry => exact (execQuietTimerExpiry_frame s).answers
  | accrualTimerExpiry => exact (execAccrualTimerExpiry_frame s).answers
  | fitmentDeadlineExpiry => exact (execFitmentDeadlineExpiry_frame s).answers
  | checkpointTimerExpiry => exact (execCheckpointTimerExpiry_frame s).answers
  | scrubTimerExpiry => exact (execScrubTimerExpiry_frame ..).answers
  | writeComplete => exact (execWriteComplete_frame ..).answers
  | dormancyTimerExpiry => exact (execDormancyTimerExpiry_frame s).answers
  | characterReceived => exact (execCharacterReceived_frame ..).answers
  | endOfStartUp => exact (execEndOfStartUp_frame s).answers
end Sys2Proof.Machine
end

section
/-! The Write Queue (09 R152, R153): every operation of the Store Controller keeps `queueOk`. -/
namespace Sys2Proof.Machine

/-! ## Dirty marks -/

theorem insertLine_pairwise (n : Nat) {ms : List Nat} (h : ms.Pairwise (· < ·)) : (insertLine n ms).Pairwise (· < ·) := by
  induction ms with
  | nil => simp [insertLine]
  | cons m ms ih =>
    obtain ⟨above, rest⟩ := List.pairwise_cons.1 h
    unfold insertLine
    split
    · rename_i lt
      exact List.pairwise_cons.2 ⟨fun k hk => (List.mem_cons.1 hk).elim (fun e => e ▸ lt) fun e => lt.trans (above k e), h⟩
    · split
      · exact h
      · rename_i nlt ne
        refine List.pairwise_cons.2 ⟨fun k hk => ?_, ih rest⟩
        rcases (insertLine_mem n k ms).1 hk with rfl | hk
        · omega
        · exact above k hk

/-! ## Queued lines -/

theorem join_perm (q : WriteQueue) (c : WriteClass) (n : Nat) : (q.join c n).lines.Perm (n :: q.lines) := by
  have move (xs ys : List Nat) : (xs ++ [n] ++ ys).Perm (n :: (xs ++ ys)) := by
    simp
  cases c with
  | flush => simp [WriteQueue.join, WriteQueue.lines]
  | commit => simpa [WriteQueue.join, WriteQueue.lines] using move (q.flush ++ q.commit) (q.checkpoint ++ q.repair)
  | checkpoint => simpa [WriteQueue.join, WriteQueue.lines] using move (q.flush ++ q.commit ++ q.checkpoint) q.repair
  | scrubRepair => simpa [WriteQueue.join, WriteQueue.lines] using move (q.flush ++ q.commit ++ q.checkpoint ++ q.repair) []

theorem without_lines (q : WriteQueue) (n : Nat) : (q.without n).lines = q.lines.filter (· != n) := by
  simp [WriteQueue.without, WriteQueue.lines]

/-- The lines queued after a line was queued: as before, or the line and the others. -/
theorem put_perm (q : WriteQueue) (c : WriteClass) (n : Nat) :
    q.put c n = q ∨ (q.put c n).lines.Perm (n :: q.lines.filter (· != n)) := by
  unfold WriteQueue.put
  split
  · rename_i free
    have out : n ∉ q.lines := (classOf_none q n).1 free
    have all : q.lines.filter (· != n) = q.lines := List.filter_eq_self.2 fun m hm => bne_iff_ne.2 fun e => out (e ▸ hm)
    exact .inr (by rw [all]; exact join_perm q c n)
  · split
    · exact .inr (without_lines q n ▸ join_perm (q.without n) c n)
    · exact .inl rfl

/-! ## The controller -/

/-- What `queueOk` reads of the controller. -/
theorem queueOk_congr {x y : StoreController} (flight : y.flightLine = x.flightLine) (queue : y.queue = x.queue)
    (dirty : y.dirty = x.dirty) (h : x.queueOk) : y.queueOk := by
  unfold StoreController.queueOk StoreController.holds at *
  rwa [flight, queue, dirty]

theorem markDirty_queueOk {s : State} (h : s.ctl.queueOk) {n : Nat} (hn : n < 178) : (s.markDirty n).ctl.queueOk := by
  obtain ⟨nodup, rising, lines⟩ := h
  refine ⟨nodup, insertLine_pairwise n rising, fun m hm => ?_⟩
  rcases hm with hm | hm
  · exact lines m (.inl hm)
  · rcases (insertLine_mem n m _).1 hm with rfl | hm
    · exact hn
    · exact lines m (.inr hm)

theorem enqueue_queueOk {x : StoreController} (h : x.queueOk) (c : WriteClass) {n : Nat} (hn : n < 178) :
    (x.enqueue c n).queueOk := by
  obtain ⟨nodup, rising, lines⟩ := h
  refine ⟨?_, by rwa [enqueue_dirty], fun m hm => ?_⟩
  · -- a line in flight gets a pending class only; another joins the queue, where it stands once
    have other : x.flightLine ≠ some n → (x.flightLine.toList ++ (x.queue.put (x.effective c) n).lines).Nodup := by
      intro ne
      rcases put_perm x.queue (x.effective c) n with e | perm
      · rwa [e]
      · refine ((perm.append_left _).nodup_iff).2 (List.nodup_middle.2 (List.nodup_cons.2 ⟨?_, ?_⟩))
        · simpa [List.mem_filter] using fun e : x.flightLine = some n => ne e
        · exact nodup.sublist (List.filter_sublist.append_left _)
    unfold StoreController.enqueue
    split
    · rename_i f hf
      have line : x.flightLine = some f.line := by rw [StoreController.flightLine, hf]; rfl
      split
      · have same : (some { f with pending := some (raisePending (x.effective c) f.pending) } : Option Flight).map (·.line) =
            x.flightLine := line.symm
        unfold StoreController.flightLine at *
        rwa [same]
      · rename_i ne
        exact other fun e => ne (Option.some.inj (line.symm.trans e))
    · rename_i hf
      exact other (by rw [StoreController.flightLine, hf]; simp)
  · rw [enqueue_holds, enqueue_dirty] at hm
    rcases hm with (hm | rfl) | hm
    · exact lines m (.inl hm)
    · exact hn
    · exact lines m (.inr hm)

theorem enqueueAll_queueOk {s : State} (h : s.ctl.queueOk) (c : WriteClass) {ns : List Nat} (hn : ∀ n ∈ ns, n < 178) :
    (s.enqueueAll c ns).ctl.queueOk := by
  suffices ∀ x : StoreController, x.queueOk → (ns.foldl (fun x n => x.enqueue c n) x).queueOk from this _ h
  induction ns with
  | nil => exact fun x hx => hx
  | cons n ns ih =>
    exact fun x hx => ih (fun m hm => hn m (by simp [hm])) _ (enqueue_queueOk hx c (hn n (by simp)))

/-- A write that starts takes its line out of the queue, and its dirty mark goes. -/
theorem startWrite_queueOk {s : State} (h : s.ctl.queueOk) {n : Nat} {rest : WriteQueue} (retry pending)
    (nodup : (n :: rest.lines).Nodup) (held : ∀ m ∈ n :: rest.lines, s.ctl.holds m ∨ m ∈ s.ctl.dirty) :
    (s.startWrite n rest retry pending).ctl.queueOk := by
  obtain ⟨-, rising, lines⟩ := h
  refine ⟨nodup, rising.sublist List.filter_sublist, fun m hm => lines m ?_⟩
  rcases hm with (hm | hm) | hm
  · exact held m (by simp [show m ∈ rest.lines from hm])
  · exact held m (by simp [show n = m from Option.some.inj hm])
  · exact .inr (List.mem_filter.1 hm).1

theorem startWrite_pop_queueOk {s : State} (h : s.ctl.queueOk) {n : Nat} {rest : WriteQueue}
    (pop : s.ctl.queue.pop = some (n, rest)) : (s.startWrite n rest false none).ctl.queueOk := by
  obtain ⟨nodup, rising, lines⟩ := h
  have queued := pop_lines pop
  exact startWrite_queueOk ⟨nodup, rising, lines⟩ _ _ (queued ▸ nodup.of_append_right) fun m hm => .inl (.inl (queued ▸ hm))

theorem writeMark_queueOk {s : State} (h : s.ctl.queueOk) : s.writeMark.ctl.queueOk := by
  have marked : ({ s with sup := { s.sup with mark := true }, ctl := { s.ctl with flush := .marking } }.markDirty 5).ctl.queueOk :=
    markDirty_queueOk (s := { s with sup := { s.sup with mark := true }, ctl := { s.ctl with flush := .marking } })
      (queueOk_congr (x := s.ctl) rfl rfl rfl h) (by decide)
  refine startWrite_queueOk marked _ _ (by simp [WriteQueue.lines, WriteQueue.empty]) fun m hm => .inr ?_
  obtain rfl : m = 5 := by simpa [WriteQueue.lines, WriteQueue.empty] using hm
  exact (insertLine_mem 5 5 _).2 (.inl rfl)

/-- A line whose write has ended joins the queue again at its pending class (R154). -/
theorem rejoin_queueOk {x : StoreController} {f : Flight} (h : x.queueOk) (idle : x.flight = none) (out : f.line ∉ x.queue.lines)
    (hn : f.line < 178) : (x.rejoin f).queueOk := by
  obtain ⟨nodup, rising, lines⟩ := h
  unfold StoreController.rejoin
  split
  · rename_i c _
    have perm := join_perm x.queue c f.line
    have none : x.flightLine = none := by rw [StoreController.flightLine, idle]; rfl
    refine ⟨?_, rising, fun m hm => ?_⟩
    · have nodup' : x.queue.lines.Nodup := nodup.of_append_right
      have free : ({ x with queue := x.queue.join c f.line } : StoreController).flightLine = Option.none := none
      rw [free]
      exact perm.nodup_iff.2 (List.nodup_cons.2 ⟨out, nodup'⟩)
    · rcases hm with (hm | hm) | hm
      · rcases (mem_join x.queue c f.line m).1 hm with hm | rfl
        · exact lines m (.inl (.inl hm))
        · exact hn
      · exact lines m (.inl (.inr hm))
      · exact lines m (.inr hm)
  · exact ⟨nodup, rising, lines⟩

/-- Every queued line goes to FLUSH, and the loose dirty lines behind them (R163). -/
theorem beginFlush_queueOk {x : StoreController} (h : x.queueOk) : x.beginFlush.queueOk := by
  obtain ⟨nodup, rising, lines⟩ := h
  have flightLine : x.beginFlush.flightLine = x.flightLine := by
    simp only [StoreController.beginFlush, StoreController.promoteFlight, StoreController.flightLine, Option.map_map]
    congr 1
    funext f
    simp only [Function.comp_apply]
    split <;> rfl
  have queued : x.beginFlush.queue.lines = x.queue.lines ++ x.looseDirty := by
    simp [StoreController.beginFlush, WriteQueue.promoted, WriteQueue.lines]
  have loose : ∀ n ∈ x.looseDirty, n ∈ x.dirty ∧ n ∉ x.queue.lines ∧ x.flightLine ≠ some n := by
    intro n hn
    obtain ⟨dirty, out⟩ := List.mem_filter.1 hn
    simp only [Bool.and_eq_true, decide_eq_true_eq, classOf_none] at out
    exact ⟨dirty, out.1, out.2⟩
  refine ⟨?_, rising, fun m hm => ?_⟩
  · rw [flightLine, queued, ← List.append_assoc]
    refine List.nodup_append'.2 ⟨nodup, (rising.imp Nat.ne_of_lt).sublist List.filter_sublist, fun m hm hl => ?_⟩
    obtain ⟨-, out, notFlying⟩ := loose m hl
    rcases List.mem_append.1 hm with hm | hm
    · exact notFlying (Option.mem_toList.1 hm)
    · exact out hm
  · unfold StoreController.holds at hm
    rw [flightLine, queued, List.mem_append] at hm
    rcases hm with ((hm | hm) | hm) | hm
    · exact lines m (.inl (.inl hm))
    · exact lines m (.inr (loose m hm).1)
    · exact lines m (.inl (.inr hm))
    · exact lines m (.inr hm)

end Sys2Proof.Machine
end

section
/-! The invariants of the machine taken together: what every shared operation below the commands keeps of them, said once per operation. -/
namespace Sys2Proof.Machine

/-- From s to t the invariants of store, counts, slots and book are kept, and no request, reply or deferred record comes or goes. -/
structure State.Steady (s t : State) : Prop where
  store  : s.storeOk → t.storeOk
  link   : t.link.intake = s.link.intake ∧ t.link.replies = s.link.replies ∧ t.ctl.records = s.ctl.records
  counts : s.countsOk → t.countsOk
  table  : s.tableOk → t.tableOk
  book   : s.bookOk → t.bookOk

namespace State.Steady

theorem refl (s : State) : s.Steady s := ⟨id, ⟨rfl, rfl, rfl⟩, id, id, id⟩

theorem trans {s t u : State} (h : s.Steady t) (k : t.Steady u) : s.Steady u :=
  ⟨fun i => k.store (h.store i), ⟨k.link.1.trans h.link.1, k.link.2.1.trans h.link.2.1, k.link.2.2.trans h.link.2.2⟩, fun i => k.counts (h.counts i), fun i => k.table (h.table i),
    fun i => k.book (h.book i)⟩

theorem ite {s t u : State} {c : Prop} [Decidable c] (h : c → s.Steady t) (k : ¬c → s.Steady u) :
    s.Steady (if c then t else u) := by
  split
  · exact h ‹_›
  · exact k ‹_›

theorem foldl {α : Type} {f : State → α → State} (h : ∀ (s : State) (a : α), s.Steady (f s a)) (xs : List α) (s : State) :
    s.Steady (xs.foldl f s) := by
  induction xs generalizing s with
  | nil => exact refl s
  | cons x xs ih => exact (h s x).trans (ih (f s x))

/-- A change of the parts that no invariant reads. -/
theorem of_frame {s t : State} {bs : List Block} (h : s.sameExcept t bs)
    (out : ∀ b ∈ [Block.clock, .channels, .run, .driveline, .table, .fitment, .book, .store, .ctl, .sup, .link], b ∉ bs := by decide) :
    s.Steady t := by
  have clock := h.clock (out _ (by simp)); have channels := h.channels (out _ (by simp)); have run := h.run (out _ (by simp))
  have driveline := h.driveline (out _ (by simp)); have table := h.table (out _ (by simp))
  have fitment := h.fitment (out _ (by simp)); have book := h.book (out _ (by simp)); have store := h.store (out _ (by simp))
  have ctl := h.ctl (out _ (by simp)); have sup := h.sup (out _ (by simp)); have link := h.link (out _ (by simp))
  refine ⟨fun i => ?_, by rw [link, ctl]; exact ⟨rfl, rfl, rfl⟩, fun i => ?_, fun i => ?_, fun i => ?_⟩
  · unfold State.storeOk at *; rwa [store, ctl]
  · unfold State.countsOk at *; rwa [link, ctl, run, clock, channels, driveline]
  · unfold State.tableOk at *; rwa [table, fitment]
  · unfold State.bookOk at *; rwa [sup, book]

end State.Steady

section
variable (s : State)

/-! ## Time, lines, channels -/

theorem reach_steady (d) : s.Steady (s.reach d) := .of_frame (reach_frame s d)
theorem pass_steady (d) : s.Steady (s.pass d) := .of_frame (pass_frame s d)
theorem setLineRecord_steady (l x) : s.Steady (s.setLineRecord l x) := .of_frame (setLineRecord_frame s l x)
theorem setOrphan_steady (p t) : s.Steady (s.setOrphan p t) := .of_frame (setOrphan_frame s p t)
theorem setPins_steady (p) : s.Steady (s.setPins p) := .of_frame (setPins_frame s p)

theorem bump_le (max n : Nat) : bump max n ≤ max := Nat.min_le_left ..

/-- A channel record whose noise count keeps its maximum. -/
theorem setChannelRecord_steady (i : Fin 10) (c : Channel) (noise : s.channels[i].noise ≤ Config.max16 → c.noise ≤ Config.max16) :
    s.Steady (s.setChannelRecord i c) := by
  refine ⟨id, ⟨rfl, rfl, rfl⟩, fun ⟨a, n, v, ch, rest⟩ => ⟨a, n, v, fun j => ?_, rest⟩, id, id⟩
  by_cases e : j = i
  · subst e; simpa using noise (ch j)
  · have ne : i.val ≠ j.val := fun h => e (Fin.ext h.symm)
    simpa [ne] using ch j

/-- A Run Detector whose attempt total keeps its maximum. -/
theorem setRun_steady (x : RunDetector) (attempt : s.run.attempt ≤ Config.max32 → x.attempt ≤ Config.max32) : s.Steady { s with run := x } :=
  ⟨id, ⟨rfl, rfl, rfl⟩, fun ⟨a, rest⟩ => ⟨attempt a, rest⟩, id, id⟩

/-- A Driveline Observer whose tow counts stay. -/
theorem setDriveline_steady (x : Driveline) (counts : x.towCounts = s.driveline.towCounts := by rfl) : s.Steady { s with driveline := x } :=
  ⟨id, ⟨rfl, rfl, rfl⟩, fun ⟨a, n, v, ch, tow, rest⟩ => ⟨a, n, v, ch, counts ▸ tow, rest⟩, id, id⟩

/-! ## The Store Controller -/

/-- The Store Controller changes in none of the parts that an invariant reads. -/
theorem setCtl_steady (x : StoreController) (flight : x.flight = s.ctl.flight := by rfl)
    (queue : x.queue = s.ctl.queue := by rfl) (dirty : x.dirty = s.ctl.dirty := by rfl)
    (records : x.records = s.ctl.records := by rfl)
    (counts : x.failures = s.ctl.failures ∧ x.correctedCount = s.ctl.correctedCount ∧ x.repairedCount = s.ctl.repairedCount :=
      by exact ⟨rfl, rfl, rfl⟩) :
    s.Steady { s with ctl := x } := by
  obtain ⟨failures, corrected, repaired⟩ := counts
  refine ⟨fun ⟨st, q⟩ => ⟨st, queueOk_congr (x := s.ctl) ?_ queue dirty q⟩, ⟨rfl, rfl, records⟩,
    fun ⟨a, n, v, ch, tow, f, c, r, rest⟩ => ⟨a, n, v, ch, tow, ?_, ?_, ?_, rest⟩, id, id⟩
  · exact congrArg (Option.map Flight.line) flight
  · show x.failures ≤ _; rwa [failures]
  · show x.correctedCount ≤ _; rwa [corrected]
  · show x.repairedCount ≤ _; rwa [repaired]

theorem markDirty_steady {n : Nat} (hn : n < 178) : s.Steady (s.markDirty n) :=
  ⟨fun ⟨st, q⟩ => ⟨st, markDirty_queueOk q hn⟩, ⟨rfl, rfl, rfl⟩, id, id, id⟩

theorem markAll_steady {ns : List Nat} (hn : ∀ n ∈ ns, n < 178) : s.Steady (s.markAll ns) := by
  unfold State.markAll
  induction ns generalizing s with
  | nil => exact .refl s
  | cons n ns ih => exact (markDirty_steady s (hn n (by simp))).trans (ih (s.markDirty n) fun m hm => hn m (by simp [hm]))

theorem markIf_steady (b : Bool) {n : Nat} (hn : n < 178) : s.Steady (s.markIf b n) :=
  .ite (fun _ => markDirty_steady s hn) (fun _ => .refl s)

/-- What queuing and the arbiter leave of the counts and of the records. -/
theorem enqueueAll_steady (c : WriteClass) {ns : List Nat} (hn : ∀ n ∈ ns, n < 178) : s.Steady (s.enqueueAll c ns) := by
  obtain ⟨-, records, -, settings⟩ := enqueueAll_spec s c ns
  obtain ⟨-, failures, corrected, repaired, -⟩ := settings
  exact ⟨fun ⟨st, q⟩ => ⟨st, enqueueAll_queueOk q c hn⟩, ⟨rfl, rfl, records⟩,
    fun ⟨a, n, v, ch, tow, f, co, re, rest⟩ => ⟨a, n, v, ch, tow, by rwa [failures], by rwa [corrected], by rwa [repaired], rest⟩, id, id⟩

/-- A step of the arbiter changes queue, dirty marks and flight alone. -/
theorem startWrite_steady {n : Nat} {rest : WriteQueue} {retry : Bool} {pending : Option WriteClass}
    (h : s.ctl.queueOk → (s.startWrite n rest retry pending).ctl.queueOk) : s.Steady (s.startWrite n rest retry pending) :=
  ⟨fun ⟨st, q⟩ => ⟨st, h q⟩, ⟨rfl, rfl, rfl⟩, id, id, id⟩

/-- The Supervisor keeps what the book's invariant asks of it: before step 1 the recorder is in STARTING with no dormancy timer. -/
theorem setSup_steady (x : Supervisor) (unread : x.unread = s.sup.unread)
    (before : s.sup.unread = true → s.sup.power = .starting ∧ s.sup.dormancy = none → x.power = .starting ∧ x.dormancy = none) :
    s.Steady { s with sup := x } := by
  refine ⟨id, ⟨rfl, rfl, rfl⟩, id, id, fun ⟨rest, read⟩ => ⟨fun u => ?_, fun u => read (unread ▸ u)⟩⟩
  have u' : s.sup.unread = true := unread ▸ u
  exact before u' (rest u')

theorem enterDormant_steady (power : s.sup.power ≠ .starting) : s.Steady s.enterDormant :=
  .trans (.trans (setCtl_steady s { s.ctl with checkpointTimer := none, scrubTimer := none })
    (setSup_steady _ { s.sup with power := .dormant } rfl fun _ h => absurd h.1 power))
    (.of_frame (bs := [.tally]) (by simp [State.sameExcept, State.enterDormant]))

theorem writeMark_steady : s.Steady s.writeMark :=
  ⟨fun ⟨st, q⟩ => ⟨st, writeMark_queueOk q⟩, ⟨rfl, rfl, rfl⟩, id, id, id⟩

theorem arbitrate_steady : s.Steady s.arbitrate := by
  unfold State.arbitrate
  split
  · exact .refl s
  · split
    · exact .refl s
    · exact .refl s
    · split
      · exact startWrite_steady s fun q => startWrite_pop_queueOk q ‹_›
      · exact .refl s
    · split
      · exact startWrite_steady s fun q => startWrite_pop_queueOk q ‹_›
      · exact enterDormant_steady s (by simp [*])
    · refine .ite (fun _ => .refl s) fun _ => ?_
      split
      · exact startWrite_steady s fun q => startWrite_pop_queueOk q ‹_›
      · exact .ite (fun _ => writeMark_steady s) (fun _ => .refl s)

theorem queueLines_steady (c : WriteClass) {ns : List Nat} (hn : ∀ n ∈ ns, n < 178) : s.Steady (s.queueLines c ns) :=
  (enqueueAll_steady s c hn).trans (arbitrate_steady _)

theorem checkpoint_steady : s.Steady s.checkpoint := by
  refine queueLines_steady s _ fun n hn => ?_
  simp only [List.mem_filter, Bool.and_eq_true, decide_eq_true_eq] at hn
  omega

/-! ## Notices -/

theorem setNotice_steady (k : NoticeKind) (x : Option Notice)
    (repeats : (∀ i : Fin 14, (s.link.notices[i].map (·.repeats)).getD 0 ≤ Config.max8) → (x.map (·.repeats)).getD 0 ≤ Config.max8) :
    s.Steady { s with link := { s.link with notices := s.link.notices.set k.index x } } := by
  refine ⟨id, ⟨rfl, rfl, rfl⟩, fun ⟨a, n, rest⟩ => ⟨a, fun i => ?_, rest⟩, id, id⟩
  by_cases e : i = k.index
  · subst e; simpa using repeats n
  · have ne : k.index.val ≠ i.val := fun h => e (Fin.ext h.symm)
    simpa [ne] using n i

theorem raise_steady (k d) : s.Steady (s.raise k d) := by
  refine .ite (fun _ => .refl s) fun _ => setNotice_steady s k _ fun _ => ?_
  unfold Notice.raised
  split
  · exact bump_le ..
  · simp

theorem dropNotice_steady (k) : s.Steady (s.dropNotice k) := setNotice_steady s k none fun _ => by simp

/-! ## The Supervisor -/

theorem supervise_steady : s.Steady s.supervise := by
  refine setSup_steady s _ rfl fun _ h => ⟨h.1, ?_⟩
  simp [h.1]

theorem startActivity_steady : s.Steady s.startActivity :=
  .trans (setCtl_steady s { s.ctl with scrubTimer := s.startIn (s.ctl.timing.step * Config.second) })
    (.of_frame (bs := [.tally]) (by simp [State.sameExcept, State.startActivity, State.startIn]))

theorem setPower_steady (p : PowerState) (power : s.sup.power ≠ .starting) : s.Steady (s.setPower p) :=
  setSup_steady s _ rfl fun _ h => absurd h.1 power

theorem wake_steady : s.Steady s.wake := by
  unfold State.wake
  split
  · exact (setPower_steady s _ (by simp [*])).trans (supervise_steady _)
  · exact (startActivity_steady s).trans (.trans (setPower_steady _ _ (by simp [State.startActivity, *])) (supervise_steady _))
  · exact .refl s
  · exact .refl s
  · exact .refl s

end

end Sys2Proof.Machine
end

section
/-! What the Tally Engine, the observers and the channels keep of the invariants. -/
namespace Sys2Proof.Machine

variable (s : State)

/-! ## Slots, fitment, record places -/

/-- A slot whose state, kind and position stay. -/
theorem setSlot_steady (i : Fin 20) (x : Slot) (state : x.ident.state = s.table.slots[i].ident.state := by rfl)
    (kind : x.ident.kind = s.table.slots[i].ident.kind := by rfl)
    (position : x.ident.position = s.table.slots[i].ident.position := by rfl) :
    s.Steady (s.setSlot i x) := by
  have key : ∀ j : Fin 20, (s.setSlot i x).table.slots[j].ident.state = s.table.slots[j].ident.state ∧
      (s.setSlot i x).table.slots[j].ident.kind = s.table.slots[j].ident.kind ∧
      (s.setSlot i x).table.slots[j].ident.position = s.table.slots[j].ident.position := by
    intro j
    by_cases e : j = i
    · subst e; simpa using ⟨state, kind, position⟩
    · have ne : i.val ≠ j.val := fun h => e (Fin.ext h.symm)
      simp [ne]
  refine ⟨id, ⟨rfl, rfl, rfl⟩, id, fun ⟨map, fits, open_⟩ => ⟨fun p j => ?_, fun j => ?_, open_⟩, id⟩
  · obtain ⟨a, -, c⟩ := key j
    rw [a, c]; exact map p j
  · obtain ⟨a, b, c⟩ := key j
    rw [a, b, c]; exact fits j

/-- A context that names what the one before named, its staged component fitting the position. -/
theorem setContext_steady {c : Context} (opened : s.fitment = some c) (x : Context) (position : x.position = c.position)
    (outgoing : x.outgoing.map Prod.fst = c.outgoing.map Prod.fst) (action : x.action = c.action)
    (staged : ∀ y, x.staged = some y → c.position ∈ y.kind.fits ∨ ∃ z, c.staged = some z ∧ z.kind = y.kind) :
    s.Steady { s with fitment := some x } := by
  refine ⟨id, ⟨rfl, rfl, rfl⟩, id, fun ⟨map, fits, agrees⟩ => ⟨map, fits, fun d e => ?_⟩, id⟩
  obtain rfl : x = d := Option.some.inj e
  obtain ⟨entry, install, kinds⟩ := agrees c opened
  refine ⟨?_, ?_, fun y hy => ?_⟩
  · simp only [position, outgoing]; exact entry
  · have none : x.outgoing = none ↔ c.outgoing = none := by
      rw [← Option.map_eq_none_iff (f := Prod.fst), outgoing, Option.map_eq_none_iff]
    rw [action, none]; exact install
  · rw [position]
    rcases staged y hy with fit | ⟨z, hz, kind⟩
    · exact fit
    · exact kind ▸ kinds z hz

theorem closeFitment_steady : s.Steady { s with fitment := none } :=
  ⟨id, ⟨rfl, rfl, rfl⟩, id, fun ⟨map, fits, _⟩ => ⟨map, fits, fun _ h => nomatch h⟩, id⟩

/-- What the book's invariant reads of a header. -/
def Header.standing (h : Header) : Nat × PeriodState × Bool := (h.seq, h.state, h.info.isSome)

/-- A place whose record keeps its number, its state and whether it has its fields. -/
theorem setPlace_steady (p : Fin 24) (x : Place)
    (same : x.header.map Header.standing = s.book.places[p].header.map Header.standing := by rfl) : s.Steady (s.setPlace p x) := by
  have key : ∀ q : Fin 24, (s.setPlace p x).book.places[q].header.map Header.standing =
      s.book.places[q].header.map Header.standing := by
    intro q
    by_cases e : q = p
    · subst e; simpa using same
    · have ne : p.val ≠ q.val := fun h => e (Fin.ext h.symm)
      simp [ne]
  refine ⟨id, ⟨rfl, rfl, rfl⟩, id, id, fun ⟨before, read⟩ => ⟨before, fun u => ?_⟩⟩
  obtain ⟨one, order, top, room, records, free⟩ := read u
  refine ⟨one, order, top, room, fun q low high => ?_, fun q out => ?_⟩
  · obtain ⟨h, at_, seq, opened, info⟩ := records q low high
    have k := key (placeOf q)
    rw [at_] at k
    obtain ⟨h', at', k⟩ := Option.map_eq_some_iff.1 k
    simp only [Header.standing, Prod.mk.injEq] at k
    obtain ⟨k1, k2, k3⟩ := k
    refine ⟨h', at', k1.trans seq, k2 ▸ opened, fun d => ?_⟩
    have := info (k2 ▸ d)
    rw [← Option.isSome_iff_ne_none] at this ⊢
    rw [k3]; exact this
  · have k := key q
    rw [free q out] at k
    exact Option.map_eq_none_iff.1 k

/-! ## The Tally Engine -/

theorem setTally_steady (p h t) : s.Steady (s.setTally p h t) := by
  cases h with
  | slot i =>
    have line : scalarLine i < 178 ∧ histLine i < 178 := by unfold scalarLine histLine; omega
    exact (setSlot_steady s i _).trans ((markIf_steady _ _ line.1).trans (markIf_steady _ _ line.2))
  | interim =>
    have e : s.setTally p .interim t = { s with fitment := s.fitment.map fun c => { c with interim := t } } := rfl
    rw [e]
    cases opened : s.fitment with
    | none => exact closeFitment_steady s
    | some c => exact setContext_steady s opened _ rfl rfl rfl fun y hy => .inr ⟨y, hy, rfl⟩
  | orphan =>
    have line : orphanLine p < 178 := by unfold orphanLine; omega
    exact (setOrphan_steady ..).trans (markIf_steady _ _ line)

theorem raiseSaturated_steady (h p b a q e) : s.Steady (s.raiseSaturated h p b a q e) :=
  .ite (fun _ => raise_steady ..) (fun _ => .refl s)

theorem addPeriod_steady (p q n) : s.Steady (s.addPeriod p q n) := by
  have line : incrementLineNo s.book.openPlace p < 178 := by unfold incrementLineNo; omega
  exact (setPlace_steady s _ _).trans (markIf_steady _ _ line)

theorem identLine_lt (i : Fin 20) : identLine i < 178 := by unfold identLine; omega

theorem testService_steady (i) : s.Steady (s.testService i) := by
  simp only [State.testService]
  (repeat' split) <;> first
    | exact .refl s
    | exact .trans (.trans (setSlot_steady s i _) (markDirty_steady _ (identLine_lt i))) (raise_steady ..)

theorem testLife_steady (i) : s.Steady (s.testLife i) := by
  simp only [State.testLife]
  (repeat' split) <;> first
    | exact .refl s
    | exact .trans (.trans (setSlot_steady s i _) (markDirty_steady _ (identLine_lt i))) (raise_steady ..)

theorem testThresholds_steady (h q) : s.Steady (s.testThresholds h q) := by
  cases h with
  | slot i =>
    exact .trans (.ite (fun _ => testService_steady ..) (fun _ => .refl s)) (.ite (fun _ => testLife_steady ..) (fun _ => .refl _))
  | interim => exact .refl s
  | orphan => exact .refl s

theorem deliver_steady (x) : s.Steady (s.deliver x) := by
  have added (u : State) : u.Steady (if x.quantity.isHist then u else u.addPeriod x.position x.quantity x.amount) :=
    .ite (fun _ => .refl u) (fun _ => addPeriod_steady ..)
  have noticed := (setTally_steady s x.position (s.holder x.position)
    ((s.tallyOf x.position (s.holder x.position)).add x.quantity x.entry x.amount)).trans (added _)
  exact .ite (fun _ => .trans noticed (.trans (raiseSaturated_steady ..) (raiseSaturated_steady ..)))
    (fun _ => .trans noticed (.trans (raiseSaturated_steady ..) (.trans (raiseSaturated_steady ..) (testThresholds_steady ..))))

theorem routeAll_steady (xs) : s.Steady (s.routeAll xs) :=
  .foldl (fun s _ => .ite (fun _ => .refl s) (fun _ => deliver_steady ..)) xs s

theorem take_steady (u) : s.Steady (s.take u) := routeAll_steady ..

/-! ## The Driveline Observer -/

theorem noteUse_steady (b) : s.Steady (s.noteUse b) :=
  .ite (fun _ => setCtl_steady s _) (fun _ => .refl s)

theorem setTow_steady (t) : s.Steady (s.setTow t) := (setDriveline_steady s _).trans (noteUse_steady ..)

theorem headerLine_lt (p : Fin 24) : headerLine p < 178 := by unfold headerLine; omega

theorem towEpisode_steady : s.Steady s.towEpisode := by
  simp only [State.towEpisode]
  split
  · exact .refl s
  · rename_i h at_
    refine (setPlace_steady s _ _ ?_).trans (markDirty_steady _ (headerLine_lt _))
    rw [at_]
    simp [Header.standing]

theorem testTow_steady (f) : s.Steady (s.testTow f) := by
  unfold State.testTow
  (repeat' split) <;> first
    | exact .refl s
    | exact (setTow_steady ..).trans ((raise_steady ..).trans (towEpisode_steady _))

/-- Tow counts within their maximum. -/
theorem setTowCounts_steady (x : Driveline)
    (counts : (∀ k : Fin 6, s.driveline.towCounts[k] ≤ Config.max16) → ∀ k : Fin 6, x.towCounts[k] ≤ Config.max16) :
    s.Steady { s with driveline := x } :=
  ⟨id, ⟨rfl, rfl, rfl⟩, fun ⟨a, n, v, ch, tow, rest⟩ => ⟨a, n, v, ch, counts tow, rest⟩, id, id⟩

theorem countTow_steady (k) : s.Steady (s.countTow k) := by
  have fresh : s.Steady (if s.driveline.tow = .notTowing then
      ({ s with driveline := { s.driveline with towCounts := Vector.replicate 6 0 } }.setTow .towSuspect) else s) :=
    .ite (fun _ => (setTowCounts_steady s _ fun _ k => by simp).trans (setTow_steady ..)) (fun _ => .refl s)
  unfold State.countTow
  refine fresh.trans (setTowCounts_steady _ _ fun tow j => ?_)
  by_cases e : j = k
  · subst e; simpa using bump_le ..
  · have ne : k.val ≠ j.val := fun h => e (Fin.ext h.symm)
    simpa [ne] using tow j

theorem towReport_steady (f) : s.Steady (s.towReport f) := by
  unfold State.towReport
  split
  · exact .refl s
  · exact .trans (.trans (countTow_steady ..) (.ite (fun _ => setDriveline_steady _ _) (fun _ => .refl _))) (testTow_steady ..)

theorem noteQuiet_steady : s.Steady s.noteQuiet :=
  .ite (fun _ => .refl s) fun _ => .ite (fun _ => .ite (fun _ => setDriveline_steady s _) (fun _ => .refl s))
    (fun _ => setDriveline_steady s _)

theorem revolution_steady (f) : s.Steady (s.revolution f) :=
  .ite (fun _ => take_steady ..) (fun _ => (take_steady ..).trans (towReport_steady ..))

theorem evalGear_steady : s.Steady s.evalGear := by
  unfold State.evalGear
  refine .ite (fun _ => ?_) (fun _ => setDriveline_steady s _)
  split
  · exact setDriveline_steady s _
  · exact .ite (fun _ => .refl s) (fun _ => setDriveline_steady s _)

theorem clutchEngaged_steady : s.Steady s.clutchEngaged := setDriveline_steady s _
theorem launchPending_steady : s.Steady s.launchPending := setDriveline_steady s _

theorem clutchTransition_steady (a) : s.Steady (s.clutchTransition a) :=
  .ite (fun _ => .ite (fun _ => launchPending_steady s) (fun _ => clutchEngaged_steady s)) (fun _ => setDriveline_steady s _)

theorem launchTest_steady : s.Steady s.launchTest :=
  .ite (fun _ => (clutchEngaged_steady s).trans (take_steady ..)) (fun _ => .refl s)

theorem launchOff_steady : s.Steady s.launchOff := .ite (fun _ => clutchEngaged_steady s) (fun _ => .refl s)

theorem clutchOnRun_steady (o n) : s.Steady (s.clutchOnRun o n) :=
  .ite (fun _ => launchOff_steady s) fun _ => .ite (fun _ => launchPending_steady s) (fun _ => .refl s)

theorem ptoUpdate_steady : s.Steady s.ptoUpdate := setDriveline_steady s _

theorem ptoTransition_steady (a) : s.Steady (s.ptoTransition a) :=
  .ite (fun _ => (ptoUpdate_steady s).trans (take_steady ..)) (fun _ => ptoUpdate_steady s)

theorem towOnRun_steady (n) : s.Steady (s.towOnRun n) :=
  .ite (fun _ => (setDriveline_steady s _).trans (setTow_steady ..)) (fun _ => .refl s)

theorem drivelineAnnounce_steady (f st) : s.Steady (s.drivelineAnnounce f st) := by
  have gear : s.Steady (if f = .gearIn ∨ f = .gearOut then s.evalGear else s) :=
    .ite (fun _ => evalGear_steady s) (fun _ => .refl s)
  unfold State.drivelineAnnounce
  refine (gear.trans (u := if f = .gearOut then _ else _) (.ite (fun _ => ?_) (fun _ => .refl _))).trans
    (.ite (fun _ => noteQuiet_steady _) (fun _ => .refl _))
  (repeat' split) <;> first
    | exact launchTest_steady _
    | exact .refl _
    | exact launchOff_steady _

theorem drivelineUpdate_steady (f) : s.Steady (s.drivelineUpdate f) :=
  .trans (.ite (fun _ => evalGear_steady s) (fun _ => .refl s)) (.ite (fun _ => launchTest_steady _) (fun _ => .refl _))

/-! ## The Run Detector -/

theorem evalConfirm_steady : s.Steady s.evalConfirm := setRun_steady s _ id

theorem enterRun_steady (n) : s.Steady (s.enterRun n) :=
  .trans (.trans (.trans (.trans (.trans (setRun_steady s { s.run with state := n, stopTimer := none } id)
    (evalConfirm_steady _)) (clutchOnRun_steady ..)) (ptoUpdate_steady _)) (towOnRun_steady ..)) (noteUse_steady ..)

theorem keyOffCheckpoint_steady : s.Steady s.keyOffCheckpoint := .ite (fun _ => .refl s) (fun _ => checkpoint_steady s)

theorem enterBlind_steady (c) : s.Steady (s.enterBlind c) :=
  .ite (fun _ => .refl s) (fun _ => (enterRun_steady ..).trans (raise_steady ..))

theorem engineAnnounce_steady (st c) : s.Steady (s.engineAnnounce st c) := by
  unfold State.engineAnnounce
  (repeat' split) <;> first
    | exact enterBlind_steady ..
    | exact (enterRun_steady ..).trans (keyOffCheckpoint_steady _)
    | exact enterRun_steady ..
    | exact evalConfirm_steady _

theorem deliverCrank_steady : s.Steady s.deliverCrank := by
  simp only [State.deliverCrank]
  split
  · exact .refl s
  · exact (setRun_steady s _ fun _ => Nat.min_le_left ..).trans (take_steady ..)

theorem beginCrank_steady : s.Steady s.beginCrank :=
  .trans (.trans (setRun_steady s { s.run with measure := some s.now, attempt := 0 } fun _ => Nat.zero_le _)
    (enterRun_steady ..)) (take_steady ..)

theorem crankTransition_steady (a) : s.Steady (s.crankTransition a) := by
  unfold State.crankTransition
  (repeat' split)
  · exact beginCrank_steady s
  · exact .trans (setRun_steady s { s.run with measure := some (s.run.measure.getD s.now) } id) (evalConfirm_steady _)
  · exact evalConfirm_steady s
  · exact (evalConfirm_steady s).trans (deliverCrank_steady _)

theorem runConfirmed_steady : s.Steady s.runConfirmed := by
  unfold State.runConfirmed
  split
  · exact (enterRun_steady ..).trans ((take_steady ..).trans (raise_steady ..))
  · exact (enterRun_steady ..).trans (take_steady ..)
  · exact .refl s
  · exact .refl s

theorem stopConfirmed_steady : s.Steady s.stopConfirmed := by
  unfold State.stopConfirmed
  split
  · exact (enterRun_steady ..).trans ((take_steady ..).trans (raise_steady ..))
  · exact (enterRun_steady ..).trans (keyOffCheckpoint_steady _)
  · exact .refl s
  · exact .refl s

theorem announce_steady (f st c) : s.Steady (s.announce f st c) :=
  .ite (fun _ => engineAnnounce_steady ..) (fun _ => drivelineAnnounce_steady ..)

theorem speedUpdate_steady (f) : s.Steady (s.speedUpdate f) :=
  .ite (fun _ => evalConfirm_steady s) (fun _ => drivelineUpdate_steady ..)

/-! ## Channels and lines -/

theorem overspeedTest_steady (i) : s.Steady (s.overspeedTest i) := by
  simp only [State.overspeedTest]
  (repeat' split) <;> first
    | exact .refl s
    | exact .trans (.trans (setChannelRecord_steady s i _ (by exact id)) (take_steady ..)) (raise_steady ..)
    | exact setChannelRecord_steady s i _ (by exact id)

theorem handOn_steady (i r b) : s.Steady (s.handOn i r b) := by
  have h1 (u : State) : u.Steady (if r.revolution then u.revolution s.channels[i].cfg.function else u) :=
    .ite (fun _ => revolution_steady ..) (fun _ => .refl u)
  have h2 (u : State) : u.Steady (if r.announced then u.announce s.channels[i].cfg.function (some s.channels[i].state) i else u) :=
    .ite (fun _ => announce_steady ..) (fun _ => .refl u)
  have h3 (u : State) : u.Steady (if r.noisy then u.raise .sensorFault (.channel (some i)) else u) :=
    .ite (fun _ => raise_steady ..) (fun _ => .refl u)
  exact .ite (fun _ => .trans (.trans (.trans (.trans (h1 s) (h2 _)) (h3 _)) (speedUpdate_steady ..)) (overspeedTest_steady ..))
    (fun _ => .trans (.trans (h1 s) (h2 _)) (h3 _))

/-- An edge counts noise up to the maximum (R31). -/
theorem edge_noise (c : Channel) (now : Nat) (h : c.noise ≤ Config.max16) : (c.edge now).1.noise ≤ Config.max16 := by
  have accepted (c : Channel) : c.accept.1.noise = c.noise := by unfold Channel.accept; split <;> rfl
  have good (c : Channel) (p) : (c.goodEdge p).1.noise = c.noise := accepted c
  have short (c : Channel) : c.shortEdge.1.noise ≤ Config.max16 := by
    unfold Channel.shortEdge
    dsimp only
    split <;> exact bump_le ..
  unfold Channel.edge Channel.noisyEdge
  dsimp only
  (repeat' split)
  · exact (accepted _).trans_le h
  · exact (good ..).trans_le h
  · exact bump_le ..
  · exact bump_le ..
  · exact (good ..).trans_le h
  · exact short _

theorem takeEdge_steady (i) : s.Steady (s.takeEdge i) := by
  have record : s.wake.Steady (s.wake.setChannelRecord i (s.wake.channels[i].edge s.wake.now).1) :=
    setChannelRecord_steady _ i _ (edge_noise _ _)
  exact .trans (.trans (.trans (wake_steady s) record) (handOn_steady ..)) (supervise_steady _)

theorem takeStall_steady (i) : s.Steady (s.takeStall i) := by
  have noise : s.channels[i].stall.noise = s.channels[i].noise := by unfold Channel.stall; dsimp only; split <;> rfl
  have record : s.Steady (s.setChannelRecord i s.channels[i].stall) :=
    setChannelRecord_steady s i _ fun h => noise.trans_le h
  exact .trans (.ite (fun _ => record.trans (announce_steady ..)) (fun _ => record)) (supervise_steady _)

theorem publishLine_steady (l a) : s.Steady (s.publishLine l a) := by
  cases l with
  | key => exact .refl s
  | crank => exact crankTransition_steady ..
  | clutch => exact (evalGear_steady s).trans (clutchTransition_steady ..)
  | reverse => exact evalGear_steady s
  | ptoOn => exact ptoTransition_steady ..

theorem lineTransition_steady (l a) : s.Steady (s.lineTransition l a) := by
  have record := setLineRecord_steady s l { s.lines[l.index] with filtered := a, timer := none }
  exact .trans (.trans (.ite (fun _ => record.trans (wake_steady _)) (fun _ => record)) (publishLine_steady ..)) (supervise_steady _)

theorem filterLevel_steady (l) : s.Steady (s.filterLevel l) :=
  .ite (fun _ => setLineRecord_steady ..) fun _ => .ite (fun _ => lineTransition_steady ..) (fun _ => setLineRecord_steady ..)

end Sys2Proof.Machine
end

section
/-! What the requests keep of the invariants (11 R186): each meaning is steady, and awaits lines of the store only. -/
namespace Sys2Proof.Machine

/-! ## The invariants of store, link and counts alone -/

/-- From s to t the invariants of store and counts are kept, and no request, reply or deferred record comes or goes; slots and book are left
open. -/
structure State.Core (s t : State) : Prop where
  store  : s.storeOk → t.storeOk
  link   : t.link.intake = s.link.intake ∧ t.link.replies = s.link.replies ∧ t.ctl.records = s.ctl.records
  counts : s.countsOk → t.countsOk

theorem State.Steady.core {s t : State} (h : s.Steady t) : s.Core t := ⟨h.store, h.link, h.counts⟩

namespace State.Core

theorem refl (s : State) : s.Core s := (Steady.refl s).core

theorem trans {s t u : State} (h : s.Core t) (k : t.Core u) : s.Core u :=
  ⟨fun i => k.store (h.store i), ⟨k.link.1.trans h.link.1, k.link.2.1.trans h.link.2.1, k.link.2.2.trans h.link.2.2⟩,
    fun i => k.counts (h.counts i)⟩

theorem ite {s t u : State} {c : Prop} [Decidable c] (h : c → s.Core t) (k : ¬c → s.Core u) : s.Core (if c then t else u) := by
  split
  · exact h ‹_›
  · exact k ‹_›

theorem foldl {α : Type} {f : State → α → State} (h : ∀ (s : State) (a : α), s.Core (f s a)) (xs : List α) (s : State) :
    s.Core (xs.foldl f s) := by
  induction xs generalizing s with
  | nil => exact refl s
  | cons x xs ih => exact (h s x).trans (ih (f s x))

/-- A change of the parts that neither store, link nor counts read. -/
theorem of_frame {s t : State} {bs : List Block} (h : s.sameExcept t bs)
    (out : ∀ b ∈ [Block.clock, .channels, .run, .driveline, .store, .ctl, .link], b ∉ bs := by decide) : s.Core t := by
  have clock := h.clock (out _ (by simp)); have channels := h.channels (out _ (by simp)); have run := h.run (out _ (by simp))
  have driveline := h.driveline (out _ (by simp)); have store := h.store (out _ (by simp))
  have ctl := h.ctl (out _ (by simp)); have link := h.link (out _ (by simp))
  refine ⟨fun i => ?_, by rw [link, ctl]; exact ⟨rfl, rfl, rfl⟩, fun i => ?_⟩
  · unfold State.storeOk at *; rwa [store, ctl]
  · unfold State.countsOk at *; rwa [link, ctl, run, clock, channels, driveline]

/-- A change that leaves slots, map, fitment and book alone is steady, the Supervisor staying too. -/
theorem steady {s t : State} {bs : List Block} (h : s.Core t) (frame : s.sameExcept t bs)
    (out : ∀ b ∈ [Block.table, .fitment, .book, .sup], b ∉ bs := by decide) : s.Steady t := by
  have table := frame.table (out _ (by simp)); have fitment := frame.fitment (out _ (by simp))
  have book := frame.book (out _ (by simp)); have sup := frame.sup (out _ (by simp))
  refine ⟨h.store, h.link, h.counts, fun i => ?_, fun i => ?_⟩
  · unfold State.tableOk at *; rwa [table, fitment]
  · unfold State.bookOk at *; rwa [sup, book]

end State.Core

/-! ## The book -/

section
variable {s : State}

/-- The records of a book as R130 has them. -/
theorem State.bookOk.records (h : s.bookOk) (read : s.sup.unread = false) :
    1 ≤ s.book.oldest ∧ s.book.oldest ≤ s.book.newest ∧ s.book.newest ≤ Config.max32 ∧
    s.book.newest < s.book.oldest + Config.bookCapacity ∧
    (∀ q, s.book.oldest ≤ q → q ≤ s.book.newest → ∃ h, s.book.places[placeOf q].header = some h ∧ h.seq = q ∧
      (h.state = .opened ↔ q = s.book.newest) ∧ (h.state ≠ .damaged → h.info ≠ none)) ∧
    ∀ p : Fin 24, (∀ q, s.book.oldest ≤ q → q ≤ s.book.newest → placeOf q ≠ p) → s.book.places[p].header = none := h.2 read

theorem placeOf_eq_iff (a b : Nat) : placeOf a = placeOf b ↔ a % 24 = b % 24 := by simp [placeOf, Fin.ext_iff]

theorem placeOf_ne {a b : Nat} (h : a % 24 ≠ b % 24) : (placeOf a).val ≠ (placeOf b).val := h

theorem formRecord_core (h : Header) : s.Core (s.formRecord h) := by
  refine .trans (.of_frame (setPlace_frame s _ _)) (markAll_steady _ fun n hn => ?_).core
  simp only [placeLines, List.mem_cons, List.not_mem_nil, or_false] at hn
  omega

theorem openRecord_core (h : Header) : s.Core (s.openRecord h) :=
  .trans (.trans (formRecord_core h) (.of_frame (t := { s.formRecord h with book := { (s.formRecord h).book with newest := h.seq } })
    (bs := [.book]) (by simp [State.sameExcept]))) (markDirty_steady _ (by decide)).core

theorem closeOpen_core (r : CloseReason) : s.Core (s.closeOpen r) := by
  simp only [State.closeOpen]
  split
  · exact .trans (.of_frame (setPlace_frame ..)) (markDirty_steady _ (headerLine_lt _)).core
  · exact .refl s

theorem turnPage_core (c k t g r) : s.Core (s.turnPage c k t g r) := .trans (closeOpen_core ..) (openRecord_core ..)

/-- The open record closes and the next one opens: R130 is kept (R133, R134). -/
theorem turnPage_bookOk (c k t g r) (room : s.book.canOpen = true) (ok : s.bookOk) : (s.turnPage c k t g r).bookOk := by
  have sup : (s.turnPage c k t g r).sup = s.sup := (turnPage_frame ..).sup (by simp)
  refine ⟨fun u => by rw [sup] at u ⊢; exact ok.1 u, fun u => ?_⟩
  rw [sup] at u
  obtain ⟨one, order, top, width, records, free⟩ := ok.records u
  obtain ⟨count, below⟩ := (canOpen_iff s.book).1 room
  obtain ⟨h, at_, seq, opened, info⟩ := records _ order (Nat.le_refl _)
  have book := turnPage_book c k t g r (s := s) (h := h) at_
  have state : h.state = .opened := opened.2 rfl
  unfold Book.count at count
  rw [book]
  refine ⟨one, by simp only; omega, below, by simp only [Config.bookCapacity]; omega, fun q low high => ?_, fun p out => ?_⟩
  · simp only [Fin.getElem_fin] at high low ⊢
    by_cases new : q = s.book.newest + 1
    · subst new
      exact ⟨_, by rw [Vector.getElem_set_self]; rfl, rfl, by simp [openedHeader], by simp [openedHeader]⟩
    · have apart : (placeOf (s.book.newest + 1)).val ≠ (placeOf q).val := placeOf_ne (by omega)
      rw [Vector.getElem_set_ne _ _ apart]
      by_cases old : q = s.book.newest
      · subst old
        refine ⟨h.close c s.timeField, congrArg Place.header (Vector.getElem_set_self _), seq, by simp [Header.close], fun _ => ?_⟩
        exact info (by rw [state]; decide)
      · have apart : s.book.openPlace.val ≠ (placeOf q).val := placeOf_ne (by omega)
        rw [Vector.getElem_set_ne _ _ apart]
        obtain ⟨h', a, b, c, d⟩ := records q low (by omega)
        refine ⟨h', a, b, ?_, d⟩
        rw [c]; omega
  · simp only [Fin.getElem_fin] at out ⊢
    have e1 : (placeOf (s.book.newest + 1)).val ≠ p.val := fun e => out _ (by omega) (Nat.le_refl _) (Fin.ext e)
    have e2 : s.book.openPlace.val ≠ p.val := fun e => out s.book.newest order (by omega) (Fin.ext e)
    rw [Vector.getElem_set_ne _ _ e1, Vector.getElem_set_ne _ _ e2]
    exact free p fun q low high => out q low (by omega)

theorem noteNearFull_steady : s.Steady s.noteNearFull := .ite (fun _ => raise_steady ..) (fun _ => .refl s)

/-- Operations on the book alone leave slots and fitment as they were. -/
theorem steady_of_book {t : State} (h : s.Core t) (frame : s.sameExcept t [.book, .ctl]) (book : s.bookOk → t.bookOk) : s.Steady t :=
  ⟨h.store, h.link, h.counts, fun ok => by
    unfold State.tableOk at *
    rwa [frame.table (by simp), frame.fitment (by simp)], book⟩

theorem turnPage_steady (c k t g r) (room : s.book.canOpen = true) : s.Steady (s.turnPage c k t g r) :=
  steady_of_book (turnPage_core ..) (turnPage_frame ..) (turnPage_bookOk c k t g r room)

/-- A record formed anew in the place of the open one, with its number (R138). -/
theorem formOpen_bookOk {x : Header} (seq : x.seq = s.book.newest) (state : x.state = .opened) (info : x.info ≠ none)
    (ok : s.bookOk) : (s.formRecord x).bookOk := by
  have sup : (s.formRecord x).sup = s.sup := (formRecord_frame ..).sup (by simp)
  refine ⟨fun u => by rw [sup] at u ⊢; exact ok.1 u, fun u => ?_⟩
  rw [sup] at u
  obtain ⟨one, order, top, width, records, free⟩ := ok.records u
  simp only [formRecord_book, seq]
  refine ⟨one, order, top, width, fun q low high => ?_, fun p out => ?_⟩
  · simp only [Fin.getElem_fin] at high low ⊢
    by_cases new : q = s.book.newest
    · subst new
      exact ⟨x, by rw [Vector.getElem_set_self]; rfl, seq, by simp [state], fun _ => info⟩
    · have apart : (placeOf s.book.newest).val ≠ (placeOf q).val := placeOf_ne (by unfold Config.bookCapacity at width; omega)
      rw [Vector.getElem_set_ne _ _ apart]
      exact records q low high
  · simp only [Fin.getElem_fin] at out ⊢
    have e : (placeOf s.book.newest).val ≠ p.val := fun e => out _ order (Nat.le_refl _) (Fin.ext e)
    rw [Vector.getElem_set_ne _ _ e]
    exact free p out

theorem freePlace_core (p) : s.Core (s.freePlace p) :=
  .trans (.of_frame (setPlace_frame ..)) (markDirty_steady _ (headerLine_lt _)).core

/-- What freeing places leaves of the book. -/
theorem freePlaces_book (qs : List Nat) (p : Fin 24) :
    (qs.foldl (fun s q => s.freePlace (placeOf q)) s).book.places[p].header =
      (if ∃ q ∈ qs, placeOf q = p then none else s.book.places[p].header) ∧
    (qs.foldl (fun s q => s.freePlace (placeOf q)) s).book.oldest = s.book.oldest ∧
    (qs.foldl (fun s q => s.freePlace (placeOf q)) s).book.newest = s.book.newest := by
  induction qs generalizing s with
  | nil => simp
  | cons q qs ih =>
    obtain ⟨h1, h2, h3⟩ := ih (s := s.freePlace (placeOf q))
    refine ⟨?_, h2.trans rfl, h3.trans rfl⟩
    rw [List.foldl_cons, h1]
    by_cases later : ∃ r ∈ qs, placeOf r = p
    · have : ∃ r ∈ q :: qs, placeOf r = p := later.imp fun r h => ⟨by simp [h.1], h.2⟩
      rw [if_pos later, if_pos this]
    · rw [if_neg later]
      by_cases now : placeOf q = p
      · subst now
        simp [State.freePlace]
      · have ne : (placeOf q).val ≠ p.val := fun e => now (Fin.ext e)
        have none : ¬∃ r ∈ q :: qs, placeOf r = p := by
          rintro ⟨r, hr, e⟩
          rcases List.mem_cons.1 hr with rfl | hr
          · exact now e
          · exact later ⟨r, hr, e⟩
        rw [if_neg none]
        simp [State.freePlace, ne]

end
end Sys2Proof.Machine
end

section
/-! What arrivals, replies and the executor keep of the invariants (11 R181 to R189). -/
namespace Sys2Proof.Machine

/-- From s to t every invariant of the machine is kept. -/
structure State.Preserves (s t : State) : Prop where
  store  : s.storeOk → t.storeOk
  link   : s.linkBounds → t.linkBounds
  counts : s.countsOk → t.countsOk
  table  : s.tableOk → t.tableOk
  book   : s.bookOk → t.bookOk

theorem State.Steady.preserves {s t : State} (h : s.Steady t) : s.Preserves t := by
  obtain ⟨intake, replies, records⟩ := h.link
  refine ⟨h.store, fun i => ?_, h.counts, h.table, h.book⟩
  unfold State.linkBounds State.reserved at *
  rwa [intake, replies, records]

namespace State.Preserves

theorem refl (s : State) : s.Preserves s := ⟨id, id, id, id, id⟩

theorem trans {s t u : State} (h : s.Preserves t) (k : t.Preserves u) : s.Preserves u :=
  ⟨k.store ∘ h.store, k.link ∘ h.link, k.counts ∘ h.counts, k.table ∘ h.table, k.book ∘ h.book⟩

theorem ite {s t u : State} {c : Prop} [Decidable c] (h : c → s.Preserves t) (k : ¬c → s.Preserves u) :
    s.Preserves (if c then t else u) := by
  split
  · exact h ‹_›
  · exact k ‹_›

end State.Preserves

section
variable (s : State)

/-! ## The Link Port -/

/-- Only the Link Port changes: its queues keep their bounds, its counts their maxima. -/
theorem setLink_preserves (x : LinkPort) (bounds : s.linkBounds → ({ s with link := x } : State).linkBounds)
    (notices : x.notices = s.link.notices := by rfl)
    (frameErrors : s.link.frameErrors ≤ Config.max16 → x.frameErrors ≤ Config.max16 := by exact id)
    (breaks : s.link.breaks ≤ Config.max16 → x.breaks ≤ Config.max16 := by exact id)
    (dropped : s.link.dropped ≤ Config.max16 → x.dropped ≤ Config.max16 := by exact id) : s.Preserves { s with link := x } :=
  ⟨id, bounds, fun ⟨a, n, v, ch, tow, f, c, r, fe, b, d⟩ =>
    ⟨a, notices ▸ n, v, ch, tow, f, c, r, frameErrors fe, breaks b, dropped d⟩, id, id⟩

/-- A reply joins the reply queue where a place is free (R188). -/
theorem reply_preserves (r : Reply) (free : 1 ≤ s.freePlaces) : s.Preserves (s.reply r) := by
  refine setLink_preserves s _ fun ⟨intake, records, replies⟩ => ⟨intake, records, ?_⟩
  show (s.link.replies ++ [r]).length + s.reserved ≤ _
  unfold State.freePlaces at free
  rw [List.length_append, List.length_singleton]
  omega

theorem replyIfFree_preserves (r : Reply) : s.Preserves (s.replyIfFree r) :=
  .ite (fun free => reply_preserves s r free) (fun _ => setLink_preserves s _ id rfl id id fun _ => bump_le ..)

theorem frameError_preserves : s.Preserves s.frameError := setLink_preserves s _ id rfl fun _ => bump_le ..

theorem hunt_preserves : s.Preserves s.hunt := setLink_preserves s _ id

theorem framing_preserves (f) : s.Preserves (s.framing f) := setLink_preserves s _ id

theorem discardFrame_preserves : s.Preserves s.discardFrame := (hunt_preserves s).trans (frameError_preserves _)

theorem join_preserves (r : Request) (room : s.link.intake.length < Config.intakePlaces) : s.Preserves (s.join r) := by
  refine setLink_preserves s _ fun ⟨_, records, replies⟩ => ⟨?_, records, replies⟩
  simpa using room

theorem dropHead_preserves : s.Preserves s.dropHead := by
  refine setLink_preserves s _ fun ⟨intake, records, replies⟩ => ⟨?_, records, replies⟩
  show s.link.intake.tail.length ≤ _
  rw [List.length_tail]
  omega

/-- A request arrives (R185). -/
theorem arrive_preserves (r : Request) : s.Preserves (s.arrive r) :=
  (wake_steady s).preserves.trans <| .ite (fun _ => replyIfFree_preserves ..) fun _ =>
    .ite (fun room => (join_preserves _ r room).trans (supervise_steady _).preserves) (fun _ => replyIfFree_preserves ..)

theorem accept_preserves (r : Request) : s.Preserves (s.accept r) := .ite (fun _ => .refl s) (fun _ => arrive_preserves ..)

theorem judgeFrame_preserves (body crc) : s.Preserves (s.judgeFrame body crc) := by
  refine (hunt_preserves s).trans (.ite (fun _ => ?_) (fun _ => frameError_preserves _))
  split
  · exact arrive_preserves ..
  · exact frameError_preserves _

theorem takeByte_preserves (b) : s.Preserves (s.takeByte b) := by
  unfold State.takeByte
  split
  · exact .ite (fun _ => framing_preserves ..) (fun _ => .refl s)
  · exact .ite (fun _ => framing_preserves ..) (fun _ => discardFrame_preserves s)
  · exact .ite (fun _ => framing_preserves ..) (fun _ => framing_preserves ..)
  · exact framing_preserves ..
  · exact judgeFrame_preserves ..

theorem badCharacter_preserves : s.Preserves s.badCharacter := .ite (fun _ => .refl s) (fun _ => discardFrame_preserves s)

/-- A BREAK empties the queues and silences the records (R184). -/
theorem takeBreak_preserves (sending) : s.Preserves (s.takeBreak sending) := by
  have cleared : s.Preserves { s with link := s.link.afterBreak sending
                                      ctl := { s.ctl with records := s.ctl.records.map DeferredRecord.silenced } } := by
    refine ⟨id, fun ⟨_, records, replies⟩ => ⟨Nat.zero_le _, ?_, ?_⟩,
      fun ⟨a, n, v, ch, tow, f, c, r, fe, b, d⟩ => ⟨a, n, v, ch, tow, f, c, r, fe, bump_le .., d⟩, id, id⟩
    · simpa using records
    · have silent : (s.ctl.records.map DeferredRecord.silenced).filter (fun r => !r.silent) = [] := by
        simp [List.filter_eq_nil_iff, DeferredRecord.silenced]
      show (s.link.afterBreak sending).replies.length + ((s.ctl.records.map DeferredRecord.silenced).filter _).length ≤ _
      rw [silent]
      unfold LinkPort.afterBreak
      cases sending <;> simp [Config.replyPlaces]
  exact cleared.trans (supervise_steady _).preserves

/-! ## The executor -/

/-- A deferred record is created where one more is allowed and a place is free for its FINISHED (R187, R188). -/
theorem createRecord_preserves (tag kind lines) (records : s.ctl.records.length < Config.recordPlaces) (free : 1 ≤ s.freePlaces) :
    s.Preserves (s.createRecord tag kind lines) := by
  refine ⟨fun ⟨st, q⟩ => ⟨st, queueOk_congr (x := s.ctl) rfl rfl rfl q⟩, fun ⟨intake, _, replies⟩ => ⟨intake, ?_, ?_⟩, id, id, id⟩
  · simpa [State.createRecord] using records
  · show s.link.replies.length + ((s.ctl.records ++ [_]).filter fun (r : DeferredRecord) => !r.silent).length ≤ _
    unfold State.freePlaces at free
    unfold State.reserved at free replies
    rw [List.filter_append, List.length_append]
    simp only [Bool.not_false, List.filter_cons_of_pos, List.filter_nil, List.length_singleton]
    omega

/-- What a request's answer keeps: the state it leaves is steady, and a DEFERRED, of a deferred kind, awaits lines of the store. -/
def Answer.Sound (s : State) (kind : Byte) : Answer → Prop
  | .refused _ t => s.Steady t
  | .done _ t => s.Steady t
  | .deferred _ lines t => s.Steady t ∧ (∀ n ∈ lines, n < 178) ∧ kind ∈ deferredKinds

theorem Steady.freePlaces {t : State} (h : s.Steady t) : t.freePlaces = s.freePlaces := by
  obtain ⟨-, replies, records⟩ := h.link
  unfold State.freePlaces State.reserved
  rw [replies, records]

theorem reply_freePlaces (r : Reply) : (s.reply r).freePlaces = s.freePlaces - 1 := by
  show Config.replyPlaces - (s.link.replies ++ [r]).length - s.reserved = _
  unfold State.freePlaces
  rw [List.length_append, List.length_singleton]
  omega

/-- A sound answer, given where two places are free and a deferred kind has room for its record (R186). -/
theorem give_preserves {a : Answer} (r : Request) (sound : a.Sound s r.kind) (free : 2 ≤ s.freePlaces)
    (room : r.kind ∈ deferredKinds → s.ctl.records.length < Config.recordPlaces) : s.Preserves (a.give r) := by
  have places {t : State} (h : s.Steady t) : 2 ≤ t.freePlaces := (Steady.freePlaces s h).symm ▸ free
  cases a with
  | refused reason t => exact sound.preserves.trans (reply_preserves _ _ (by have := places sound; omega))
  | done body t => exact sound.preserves.trans (reply_preserves _ _ (by have := places sound; omega))
  | deferred body lines t =>
    obtain ⟨steady, lines_lt, kind⟩ := sound
    have two := places steady
    have records : t.ctl.records.length < Config.recordPlaces := steady.link.2.2 ▸ room kind
    have one : 1 ≤ (t.reply (.deferred r.tag body)).freePlaces := by rw [reply_freePlaces]; omega
    exact .trans (.trans (.trans steady.preserves (reply_preserves _ _ (by omega))) (createRecord_preserves _ _ _ _ records one))
      (queueLines_steady _ .commit lines_lt).preserves

/-- What every meaning of a request keeps. -/
def Meaning.Sound (m : Meaning) (kind : Byte) : Prop := ∀ (s : State) (p : List Byte), (m p s).Sound s kind

theorem canTake_iff (r : Request) : s.canTake r = true ↔
    s.link.intake.head? = some r ∧ 2 ≤ s.freePlaces ∧ (r.kind ∈ deferredKinds → s.ctl.records.length < Config.recordPlaces) := by
  simp only [State.canTake, Bool.and_eq_true, decide_eq_true_eq, Bool.or_eq_true, Bool.not_eq_true', and_assoc,
    List.contains_eq_mem, decide_eq_false_iff_not]
  tauto

/-- A request is served (R186). -/
theorem serve_preserves {m : Meaning} (r : Request) (sound : m.Sound r.kind) : s.Preserves (s.serve r m) := by
  refine .ite (fun _ => (accept_preserves s r).trans (.ite (fun take => ?_) (fun _ => .refl _))) (fun _ => .refl s)
  obtain ⟨-, free, room⟩ := (canTake_iff _ r).1 take
  have judged : ((s.accept r).dropHead.judge r m).Sound (s.accept r).dropHead r.kind := by
    unfold State.judge
    split
    · exact .refl _
    · exact sound _ _
  exact .trans (dropHead_preserves _) (.trans (give_preserves _ r judged free room) (supervise_steady _).preserves)

theorem serveUnknown_preserves (r : Request) : s.Preserves (s.serveUnknown r) := by
  refine .ite (fun _ => (accept_preserves s r).trans (.ite (fun take => ?_) (fun _ => .refl _))) (fun _ => .refl s)
  obtain ⟨-, free, room⟩ := (canTake_iff _ r).1 take
  exact .trans (dropHead_preserves _) (.trans (give_preserves _ r (a := .refused .unknownKind _) (.refl _) free room)
    (supervise_steady _).preserves)

end
end Sys2Proof.Machine
end

section
/-! What the meaning of each request outside the book and the fitments keeps of the invariants: every one is sound. -/
namespace Sys2Proof.Machine

/-! ## The shapes of a meaning -/

theorem sized_sound {len : Nat} {m : Meaning} {kind : Byte} (h : m.Sound kind) : Meaning.Sound (sized len m) kind := fun s p => by
  unfold sized
  split
  · exact h s p
  · exact .refl s

theorem atPosition_sound {m : Position → State → Answer} {kind : Byte} (h : ∀ p s, (m p s).Sound s kind) :
    Meaning.Sound (atPosition m) kind := sized_sound fun s p => by
  split
  · exact h _ s
  · exact .refl s

/-- A change of a configuration line is answered DEFERRED (R149). -/
theorem configured_sound {s t : State} {kind : Byte} {n : Nat} (h : s.Steady t) (hn : n < 178) (k : kind ∈ deferredKinds) :
    (t.configured n).Sound s kind :=
  ⟨h.trans (markDirty_steady _ hn), by simpa using hn, k⟩

section
variable (s : State)

/-! ## Channels, lines, clock, engine -/

theorem setChannel_steady (i cfg) : s.Steady (s.setChannel i cfg) :=
  .trans (.trans (setChannelRecord_steady s i _ (by exact id)) (.ite (fun _ => .refl _) (fun _ => announce_steady ..)))
    (.ite (fun _ => .refl _) (fun _ => announce_steady ..))

theorem setChannel_sound : Meaning.Sound setChannelMeaning 0x01 := sized_sound fun s p => by
  split
  · split
    · unfold State.setChannelChecked
      split
      · exact .refl s
      · split
        · exact .refl s
        · exact configured_sound (setChannel_steady ..) (by decide) (by decide)
    · exact .refl s
  · exact .refl s

theorem setLines_steady (v) : s.Steady (s.setLines v) := .of_frame (bs := [.lines]) (by simp [State.sameExcept, State.setLines])

theorem setLines_sound : Meaning.Sound setLinesMeaning 0x02 := sized_sound fun s p => by
  split
  · exact configured_sound (setLines_steady ..) (by decide) (by decide)
  · exact .refl s

/-- A clock whose value keeps its maximum. -/
theorem setClock_steady (x : WallClock) (value : x.value ≤ Config.max32) : s.Steady { s with clock := x } :=
  ⟨id, ⟨rfl, rfl, rfl⟩, fun ⟨a, n, _, rest⟩ => ⟨a, n, value, rest⟩, id, id⟩

theorem setTime_sound : Meaning.Sound setTimeMeaning 0x03 := sized_sound fun s p =>
  .trans (setClock_steady s _ (Nat.le_of_lt_succ (field_lt p 0 4))) (dropNotice_steady ..)

theorem setEngine_steady (e) : s.Steady (s.setEngine e) := 
  (setRun_steady s { s.run with settings := e, runTimer := none, stopTimer := none } id).trans (evalConfirm_steady _)

theorem setEngine_sound : Meaning.Sound setEngineMeaning 0x04 := sized_sound fun s p => by
  split
  · exact configured_sound (setEngine_steady ..) (by decide) (by decide)
  · exact .refl s

/-! ## The Gear Table and the Driveline -/

theorem histLine_lt (i : Fin 20) : histLine i < 178 := by unfold histLine; omega
theorem scalarLine_lt (i : Fin 20) : scalarLine i < 178 := by unfold scalarLine; omega
theorem orphanLine_lt (p : Position) : orphanLine p < 178 := by unfold orphanLine; omega

/-- A context resized names what it named (R128). -/
theorem resizeFitment_steady (n) : s.Steady { s with fitment := s.fitment.map fun c => c.resize n } := by
  cases opened : s.fitment with
  | none => exact closeFitment_steady s
  | some c =>
    refine setContext_steady s opened (c.resize n) ?_ ?_ ?_ fun y hy => .inr ?_
    · unfold Context.resize; split <;> rfl
    · unfold Context.resize; split
      · cases c.outgoing <;> rfl
      · rfl
    · unfold Context.resize; split <;> rfl
    · unfold Context.resize at hy; split at hy
      · obtain ⟨z, hz, rfl⟩ := Option.map_eq_some_iff.1 hy
        exact ⟨z, hz, rfl⟩
      · exact ⟨y, hy, rfl⟩

theorem resizeSlot_steady (n) : s.Steady (s.resizeSlot n) := by
  unfold State.resizeSlot
  split
  · exact .trans (setSlot_steady s _ _) (markDirty_steady _ (histLine_lt _))
  · exact .refl s

theorem resizeGears_steady (n) : s.Steady (s.resizeGears n) :=
  .trans (.trans (.trans (resizeSlot_steady s n) (setOrphan_steady ..)) (markDirty_steady _ (orphanLine_lt _)))
    (resizeFitment_steady _ n)

theorem newTable_steady (t) : s.Steady ((s.newTable t).markDirty 2) := .trans (setDriveline_steady s _) (markDirty_steady _ (by decide))

theorem gearLines_lt : ∀ n ∈ s.gearLines, n < 178 := by
  have orphan := orphanLine_lt .gearbox
  intro n hn
  unfold State.gearLines at hn
  split at hn
  · have := histLine_lt ‹_›
    simp only [List.cons_append, List.nil_append, List.mem_cons, List.not_mem_nil, or_false] at hn
    omega
  · simp only [List.nil_append, List.mem_cons, List.not_mem_nil, or_false] at hn
    omega

theorem setGearTable_sound : Meaning.Sound setGearTableMeaning 0x05 := fun s p => by
  unfold setGearTableMeaning gearTableChecked
  split
  · split
    · split
      · exact .refl s
      · unfold State.setGearTable
        dsimp only
        split
        · exact ⟨newTable_steady .., by simp, by decide⟩
        · refine ⟨(newTable_steady ..).trans (resizeGears_steady ..), fun n hn => ?_, by decide⟩
          rcases List.mem_cons.1 hn with rfl | hn
          · decide
          · exact gearLines_lt s n hn
    · exact .refl s
  · exact .refl s

theorem setDriveline_sound : Meaning.Sound setDrivelineMeaning 0x06 := sized_sound fun s p => by
  split
  · exact configured_sound (setDriveline_steady s _) (by decide) (by decide)
  · exact .refl s

theorem loadSample_sound : Meaning.Sound loadSampleMeaning 0x07 := sized_sound fun s p => by
  split
  · exact setDriveline_steady s _
  · exact .refl s

theorem readLive_sound : Meaning.Sound readLiveMeaning 0x08 := sized_sound fun s _ =>
  .of_frame (bs := [.free]) (by simp [State.sameExcept])

/-! ## The Tally Engine's requests -/

theorem setWeights_sound : Meaning.Sound setWeightsMeaning 0x09 := sized_sound fun s p => by
  split
  · exact configured_sound (.of_frame (bs := [.tally]) (by simp [State.sameExcept, State.setWeights])) (by decide) (by decide)
  · exact .refl s

theorem readOrphans_sound : Meaning.Sound readOrphansMeaning 0x0A := atPosition_sound fun _ s => .refl s

theorem clearOrphan_steady (p) : s.Steady (s.clearOrphan p) := .trans (setOrphan_steady ..) (markDirty_steady _ (orphanLine_lt p))

theorem clearOrphans_sound : Meaning.Sound clearOrphansMeaning 0x0B := atPosition_sound fun p s =>
  ⟨clearOrphan_steady s p, by simpa using orphanLine_lt p, by decide⟩

theorem rearm_steady (i q due) : s.Steady (((s.setSlot i (s.table.slots[i].rearm q due)).markDirty (identLine i)).testService i) :=
  .trans (.trans (setSlot_steady s i _) (markDirty_steady _ (identLine_lt i))) (testService_steady ..)

theorem rearm_sound : Meaning.Sound rearmMeaning 0x0C := sized_sound fun s p => by
  split
  · split
    · simp only [State.rearmChecked]
      (repeat' split) <;> first
        | exact .refl s
        | exact ⟨rearm_steady .., by simpa using identLine_lt _, by decide⟩
    · exact .refl s
  · exact .refl s

/-! ## Slots and positions -/

theorem readSlot_sound : Meaning.Sound readSlotMeaning 0x0D := sized_sound fun s p => by
  split
  · unfold State.readSlot
    split <;> exact .refl s
  · exact .refl s

theorem readPosition_sound : Meaning.Sound readPositionMeaning 0x0E := atPosition_sound fun _ s => .refl s

/-- A slot that is FITTED neither before nor after. -/
theorem setSlot_unfitted_steady (i : Fin 20) (x : Slot) (old : s.table.slots[i].ident.state ≠ .fitted) (new : x.ident.state ≠ .fitted) :
    s.Steady (s.setSlot i x) := by
  refine ⟨id, ⟨rfl, rfl, rfl⟩, id, fun ⟨map, fits, agrees⟩ => ⟨fun p j => ?_, fun j => ?_, agrees⟩, id⟩
  all_goals by_cases e : j = i
  · subst e
    have out : s.table.map[p.index] ≠ some j := fun m => old ((map p j).1 m).1
    simpa [new] using out
  · have ne : i.val ≠ j.val := fun h => e (Fin.ext h.symm)
    simpa [ne] using map p j
  · subst e
    simp [new]
  · have ne : i.val ≠ j.val := fun h => e (Fin.ext h.symm)
    simpa [ne] using fits j

theorem slotLines_lt (i : Fin 20) : ∀ n ∈ slotLines i, n < 178 := by
  have h1 := identLine_lt i; have h2 := scalarLine_lt i; have h3 := histLine_lt i
  intro n hn
  simp only [slotLines, List.mem_cons, List.not_mem_nil, or_false] at hn
  omega

theorem discard_sound : Meaning.Sound discardMeaning 0x0F := sized_sound fun s p => by
  split
  · unfold State.discardChecked
    split
    · exact .refl s
    · split
      · exact .refl s
      · exact ⟨.trans (setSlot_unfitted_steady s _ _ ‹_› (by simp [Slot.empty, SlotIdent.bare])) (markAll_steady _ (slotLines_lt _)),
          slotLines_lt _, by decide⟩
  · exact .refl s

/-! ## Store timing, dormancy delay, notices -/

theorem setTiming_sound : Meaning.Sound setTimingMeaning 0x1B := sized_sound fun s p => by
  split
  · exact configured_sound (setCtl_steady s _) (by decide) (by decide)
  · exact .refl s

theorem storeStatus_sound : Meaning.Sound storeStatusMeaning 0x1C := sized_sound fun s _ => .refl s

theorem setDormancy_sound : Meaning.Sound setDormancyMeaning 0x1D := sized_sound fun s p => by
  split
  · exact configured_sound (setSup_steady s _ rfl fun _ h => h) (by decide) (by decide)
  · exact .refl s

theorem identify_sound : Meaning.Sound identifyMeaning 0x1F := sized_sound fun s _ => .refl s
theorem readStatus_sound : Meaning.Sound readStatusMeaning 0x20 := sized_sound fun s _ => .refl s

theorem takeNotice_sound : Meaning.Sound takeNoticeMeaning 0x21 := sized_sound fun s _ => by
  unfold State.takeNotice
  split
  · exact .refl s
  · split
    · exact dropNotice_steady ..
    · exact .refl s

theorem setNotices_steady (x) : s.Steady (s.setNotices x) := by
  refine ⟨id, ⟨rfl, rfl, rfl⟩, fun ⟨a, n, rest⟩ => ⟨a, fun i => ?_, rest⟩, id, id⟩
  unfold State.setNotices
  rw [Fin.getElem_fin, tabulate_getElem]
  split
  · simp
  · exact n i

theorem setNotices_sound : Meaning.Sound setNoticesMeaning 0x22 := sized_sound fun s p => by
  split
  · exact configured_sound (setNotices_steady ..) (by decide) (by decide)
  · exact .refl s

end
end Sys2Proof.Machine
end

section
/-! What the requests of the Period Book and of the Fitment Manager keep of the invariants: every meaning is sound. -/
namespace Sys2Proof.Machine

section
variable (s : State)

/-! ## Opening and closing a rental (R136 to R139) -/

theorem placeLines_lt (p : Fin 24) : ∀ n ∈ placeLines p, n < 178 := by
  intro n hn
  simp only [placeLines, List.mem_cons, List.not_mem_nil, or_false] at hn
  omega

theorem turnLines_lt (old : Nat) : ∀ n ∈ turnLines old, n < 178 := by
  intro n hn
  rcases List.mem_append.1 hn with h | h <;> exact placeLines_lt _ n h

/-- Lines of the store with line 5 behind them. -/
theorem with_map_lt {ns : List Nat} (h : ∀ n ∈ ns, n < 178) : ∀ n ∈ ns ++ [5], n < 178 := by
  intro n hn
  rcases List.mem_append.1 hn with hn | hn
  · exact h n hn
  · obtain rfl := List.mem_singleton.1 hn
    decide

theorem withContract_sound {m : Text → State → Answer} {kind : Byte} (h : ∀ t s, (m t s).Sound s kind) :
    Meaning.Sound (withContract m) kind := sized_sound fun s p => by
  split
  · exact h _ s
  · exact .refl s

theorem openInPlace_sound (t) : (s.openInPlace t).Sound s 0x16 :=
  ⟨steady_of_book (formRecord_core _) (formRecord_frame ..) (formOpen_bookOk rfl rfl (by simp [openedHeader])),
    with_map_lt (placeLines_lt _), by decide⟩

theorem turned_steady (c k t g r) (room : s.book.canOpen = true) : s.Steady (s.turnPage c k t g r).noteNearFull :=
  (turnPage_steady c k t g r room).trans noteNearFull_steady

theorem openRental_sound : Meaning.Sound openRentalMeaning 0x16 := withContract_sound fun t s => by
  unfold State.openRental
  split
  · exact .refl s
  · split
    · exact .refl s
    · split
      · exact openInPlace_sound s t
      · split
        · exact ⟨turned_steady s _ _ _ _ _ ‹_›, with_map_lt (turnLines_lt _), by decide⟩
        · exact .refl s

theorem closeRental_sound : Meaning.Sound closeRentalMeaning 0x17 := withContract_sound fun t s => by
  unfold State.closeRental
  split
  · exact .refl s
  · split
    · exact .refl s
    · split
      · exact .refl s
      · split
        · exact ⟨turned_steady s _ _ _ _ _ ‹_›, with_map_lt (turnLines_lt _), by decide⟩
        · exact .refl s

/-! ## Lists and pages of the book -/

theorem listPeriods_sound : Meaning.Sound listPeriodsMeaning 0x18 := sized_sound fun s _ => .refl s

theorem readPeriod_sound : Meaning.Sound readPeriodMeaning 0x19 := sized_sound fun s p => by
  split
  · unfold State.readPeriod
    split
    · split <;> exact .refl s
    · exact .refl s
  · exact .refl s

/-! ## RELEASE_PERIODS (R145) -/

theorem mem_seqs (b : Book) (q : Nat) : q ∈ b.seqs ↔ b.oldest ≤ q ∧ q ≤ b.newest := by
  simp only [Book.seqs, Book.count, List.mem_map, List.mem_range]
  constructor
  · rintro ⟨k, hk, rfl⟩
    omega
  · intro h
    exact ⟨q - b.oldest, by omega, by omega⟩

theorem range_filter_lt (n m : Nat) : (List.range n).filter (fun k => decide (k < m)) = List.range (min n m) := by
  induction n with
  | zero => simp
  | succ n ih =>
    rw [List.range_succ, List.filter_append, ih]
    by_cases h : n < m
    · have e : min (n + 1) m = min n m + 1 := by omega
      have e' : min n m = n := by omega
      rw [e, List.range_succ, e']
      simp [h]
    · have e : min (n + 1) m = min n m := by omega
      rw [e]
      simp [h]

/-- The records that a release removes are the oldest ones (R145). -/
theorem released_eq (b : Book) (upTo : Nat) :
    b.released upTo = (List.range (min b.count (min (upTo + 1) b.newest - b.oldest))).map (b.oldest + ·) := by
  unfold Book.released Book.seqs
  rw [List.filter_map, ← range_filter_lt]
  congr 1
  refine List.filter_congr fun k _ => ?_
  simp only [Function.comp, decide_eq_decide]
  omega

theorem mem_released (b : Book) (upTo q : Nat) : q ∈ b.released upTo ↔ b.oldest ≤ q ∧ q ≤ upTo ∧ q < b.newest := by
  simp only [Book.released, List.mem_filter, mem_seqs, decide_eq_true_eq]
  omega

theorem removeRecords_core (qs) : s.Core (s.removeRecords qs) :=
  .trans (.trans (.foldl (fun _ q => freePlace_core (placeOf q)) qs s) (.of_frame (bs := [.book]) (by simp [State.sameExcept])))
    (markDirty_steady _ (by decide)).core

/-- What a removal leaves of the book. -/
theorem removeRecords_book (qs : List Nat) (p : Fin 24) :
    (s.removeRecords qs).book.places[p].header = (if ∃ q ∈ qs, placeOf q = p then none else s.book.places[p].header) ∧
    (s.removeRecords qs).book.oldest = s.book.oldest + qs.length ∧ (s.removeRecords qs).book.newest = s.book.newest := by
  obtain ⟨places, oldest, newest⟩ := freePlaces_book (s := s) qs p
  exact ⟨places, congrArg (· + qs.length) oldest, newest⟩

theorem release_bookOk (upTo) (ok : s.bookOk) : (s.removeRecords (s.book.released upTo)).bookOk := by
  have sup : (s.removeRecords (s.book.released upTo)).sup = s.sup := (removeRecords_frame ..).sup (by simp)
  refine ⟨fun u => by rw [sup] at u ⊢; exact ok.1 u, fun u => ?_⟩
  rw [sup] at u
  obtain ⟨one, order, top, width, records, free⟩ := ok.records u
  have gone := released_eq s.book upTo
  have length : (s.book.released upTo).length = min s.book.count (min (upTo + 1) s.book.newest - s.book.oldest) := by
    rw [gone]; simp
  obtain ⟨-, oldest, newest⟩ := removeRecords_book s (s.book.released upTo) 0
  unfold Config.bookCapacity at width
  unfold Book.count at length
  have place {q : Nat} (low : s.book.oldest + (s.book.released upTo).length ≤ q) (high : q ≤ s.book.newest) :
      ¬∃ r ∈ s.book.released upTo, placeOf r = placeOf q := by
    rintro ⟨r, hr, e⟩
    rw [mem_released] at hr
    rw [placeOf_eq_iff] at e
    omega
  simp only [oldest, newest]
  refine ⟨by omega, by omega, top, by unfold Config.bookCapacity; omega, fun q low high => ?_, fun p out => ?_⟩
  · rw [(removeRecords_book s _ _).1, if_neg (place low high)]
    exact records q (by omega) high
  · rw [(removeRecords_book s _ _).1]
    split
    · rfl
    · rename_i kept
      refine free p fun q low high e => ?_
      by_cases rel : q ∈ s.book.released upTo
      · exact kept ⟨q, rel, e⟩
      · rw [mem_released] at rel
        exact out q (by omega) high e

theorem headerLines_lt (qs : List Nat) : ∀ n ∈ headerLines qs, n < 178 := by
  intro n hn
  obtain ⟨q, -, rfl⟩ := List.mem_map.1 hn
  exact headerLine_lt _

theorem release_sound : Meaning.Sound releaseMeaning 0x1A := sized_sound fun s p =>
  ⟨steady_of_book (removeRecords_core ..) (removeRecords_frame ..) (release_bookOk s _), with_map_lt (headerLines_lt _), by decide⟩

/-! ## FACTORY_CLEAR (R180) -/

theorem openRecord_bookAt (h : Header) (p : Fin 24) : (s.openRecord h).book.places[p] =
    if p = placeOf h.seq then openedPlace h else s.book.places[p] := by
  rw [openRecord_book]
  by_cases e : p = placeOf h.seq
  · subst e
    simp
  · have ne : (placeOf h.seq).val ≠ p.val := fun k => e (Fin.ext k.symm)
    simp [e, ne]

/-- The book after a factory clear, before its oldest number is set. -/
def State.reopened (s : State) : State :=
  (s.book.seqs.reverse.foldl (fun s q => s.freePlace (placeOf q)) s).openRecord (openedHeader 1 .idle none 0 .cleared s.timeField)

theorem resetBook_eq : s.resetBook = { s.reopened with book := { s.reopened.book with oldest := 1 } } := rfl

theorem setBook_core (b : Book) : s.Core { s with book := b } := .of_frame (bs := [.book]) (by simp [State.sameExcept])

theorem resetBook_core : s.Core s.resetBook :=
  .trans (.trans (.foldl (fun _ q => freePlace_core (placeOf q)) _ s) (openRecord_core _)) (setBook_core s.reopened _)

theorem resetBook_oldest : s.resetBook.book.oldest = 1 := by rw [resetBook_eq]

theorem resetBook_newest : s.resetBook.book.newest = 1 := by
  rw [resetBook_eq, State.reopened, openRecord_book]
  rfl

/-- Place 1 takes the new record, and the records of the book leave theirs. -/
theorem resetBook_place (p : Fin 24) : s.resetBook.book.places[p].header =
    if p = placeOf 1 then some (openedHeader 1 .idle none 0 .cleared s.timeField)
    else if ∃ q ∈ s.book.seqs.reverse, placeOf q = p then none else s.book.places[p].header := by
  have place : s.resetBook.book.places[p] = s.reopened.book.places[p] := by rw [resetBook_eq]
  rw [place, State.reopened, openRecord_bookAt, ← (freePlaces_book (s := s) s.book.seqs.reverse p).1]
  exact apply_ite Place.header ..

/-- After a factory clear the book holds record 1 alone. -/
theorem resetBook_bookOk (ok : s.bookOk) : s.resetBook.bookOk := by
  have sup : s.resetBook.sup = s.sup := (resetBook_frame ..).sup (by simp)
  refine ⟨fun u => by rw [sup] at u ⊢; exact ok.1 u, fun u => ?_⟩
  rw [sup] at u
  obtain ⟨-, -, -, -, -, free⟩ := ok.records u
  simp only [resetBook_oldest, resetBook_newest]
  refine ⟨Nat.le_refl _, Nat.le_refl _, by decide, by decide, fun q low high => ?_, fun p out => ?_⟩
  · obtain rfl : q = 1 := Nat.le_antisymm high low
    rw [resetBook_place, if_pos rfl]
    exact ⟨_, rfl, rfl, iff_of_true rfl rfl, fun _ h => nomatch h⟩
  · have other : p ≠ placeOf 1 := fun e => out 1 (Nat.le_refl _) (Nat.le_refl _) e.symm
    rw [resetBook_place, if_neg other]
    split
    · rfl
    · rename_i kept
      exact free p fun q low high e => kept ⟨q, List.mem_reverse.2 ((mem_seqs ..).2 ⟨low, high⟩), e⟩

theorem clearAllOrphans_steady : s.Steady s.clearAllOrphans := .foldl clearOrphan_steady _ s

theorem clearLines_lt : ∀ n ∈ s.clearLines, n < 178 := by
  refine with_map_lt fun n hn => ?_
  rcases List.mem_append.1 hn with hn | hn
  · rcases List.mem_append.1 hn with hn | hn
    · exact headerLines_lt _ n hn
    · exact placeLines_lt _ n hn
  · obtain ⟨p, -, rfl⟩ := List.mem_map.1 hn
    exact orphanLine_lt p

theorem factoryClear_sound : Meaning.Sound factoryClearMeaning 0x1E := sized_sound fun s _ => by
  split
  · exact .refl s
  · split
    · exact .refl s
    · exact ⟨(clearAllOrphans_steady s).trans (steady_of_book (resetBook_core _) (resetBook_frame _) (resetBook_bookOk _)),
        clearLines_lt s, by decide⟩

end
end Sys2Proof.Machine
end

section
/-! What the fitment requests keep of the invariants (07): the map's entry and the context follow each other. -/
namespace Sys2Proof.Machine

section
variable (s : State)

/-! ## The deadline -/

theorem touchDeadline_steady : s.Steady s.touchDeadline := by
  unfold State.touchDeadline
  cases opened : s.fitment with
  | none => exact closeFitment_steady s
  | some c => exact setContext_steady s opened _ rfl rfl rfl fun y hy => .inr ⟨y, hy, rfl⟩

theorem touched_sound {s : State} {a : Answer} {kind : Byte} (h : a.Sound s kind) : a.touched.Sound s kind := by
  cases a with
  | refused reason t => exact h.trans (touchDeadline_steady t)
  | done body t => exact h.trans (touchDeadline_steady t)
  | deferred body lines t => exact ⟨h.1.trans (touchDeadline_steady t), h.2⟩

theorem fitmentRequest_sound {m : Meaning} {kind : Byte} (h : m.Sound kind) : Meaning.Sound (fitmentRequest m) kind :=
  fun s p => touched_sound (h s p)

theorem withContext_sound {m : Context → Answer} {kind : Byte} (h : ∀ c, s.fitment = some c → (m c).Sound s kind) :
    (s.withContext m).Sound s kind := by
  unfold State.withContext
  split
  · exact h _ ‹_›
  · exact .refl s

theorem sound_ite {s : State} {kind : Byte} {c : Prop} [Decidable c] {a b : Answer} (h : c → a.Sound s kind) (k : ¬c → b.Sound s kind) :
    (if c then a else b).Sound s kind := by
  split
  · exact h ‹_›
  · exact k ‹_›

/-! ## Begin, stage, frozen image, read -/

/-- A context opens on what the map says (R114, R115). -/
theorem begin_steady (p a timeout) (out : Option (Fin 20)) (entry : s.table.map[p.index] = out) (install : a = .install ↔ out = none) :
    s.Steady { s with fitment := some (s.newContext p a timeout out) } := by
  refine ⟨id, ⟨rfl, rfl, rfl⟩, id, fun ⟨map, fits, _⟩ => ⟨map, fits, fun c opened => ?_⟩, id⟩
  obtain rfl := Option.some.inj opened
  refine ⟨entry.trans ?_, install.trans ?_, fun x hx => nomatch hx⟩
  · cases out <;> rfl
  · cases out <;> simp [State.newContext]

theorem begin_sound : Meaning.Sound beginMeaning 0x10 := fitmentRequest_sound <| sized_sound fun s p => by
  split
  · split
    · unfold State.beginChecked
      split
      · exact .refl s
      · split
        case h_1 => exact begin_steady s _ _ _ none ‹_› (by simp)
        case h_5 => exact begin_steady s _ _ _ (some _) ‹_› (by simp)
        case h_6 => exact begin_steady s _ _ _ (some _) ‹_› (by simp)
        all_goals exact .refl s
    · exact .refl s
  · exact .refl s

theorem stage_steady {c : Context} (opened : s.fitment = some c) (x : Staged) (fit : c.position ∈ x.kind.fits) (cs) :
    s.Steady { s with fitment := some { c with staged := some { x with carried := cs } } } :=
  setContext_steady s opened _ rfl rfl rfl fun y hy => .inl (by obtain rfl := Option.some.inj hy; exact fit)

theorem stage_sound : Meaning.Sound stageMeaning 0x11 := fitmentRequest_sound fun s p => by
  split
  · refine withContext_sound s fun c opened => ?_
    split
    · exact .refl s
    · split
      · unfold State.stageChecked
        split
        · exact .refl s
        · rename_i x _ fit
          have fit : c.position ∈ x.kind.fits := by simpa using fit
          split
          · exact .refl s
          · split
            · exact stage_steady s opened x fit _
            · exact .refl s
      · exact .refl s
  · exact .refl s

theorem export_sound : Meaning.Sound exportMeaning 0x12 := fitmentRequest_sound <| sized_sound fun s p => by
  split
  · refine withContext_sound s fun c opened => ?_
    unfold State.exportRecord
    split
    · exact .refl s
    · split
      · exact setContext_steady s opened _ rfl rfl rfl fun y hy => .inr ⟨y, hy, rfl⟩
      · exact .refl s
  · refine withContext_sound s fun c opened => ?_
    unfold State.exportInterim
    split <;> exact .refl s
  · exact .refl s

theorem readFitment_sound : Meaning.Sound readFitmentMeaning 0x13 := fitmentRequest_sound <| sized_sound fun s _ => .refl s

/-! ## Abort, and the timeout -/

theorem mergeInto_steady (p h src) : s.Steady (s.mergeInto p h src) :=
  .trans (setTally_steady ..) (.foldl (fun s q => raiseSaturated_steady s _ _ _ _ q _) _ _)

theorem mergeOrphan_steady (c) : s.Steady (s.mergeOrphan c) := .trans (mergeInto_steady ..) (markDirty_steady _ (orphanLine_lt _))

theorem endContext_steady (c) : s.Steady (s.endContext c) := by
  unfold State.endContext
  split
  · exact .trans (.trans (.trans (mergeInto_steady ..) (closeFitment_steady _)) (testService_steady ..)) (testLife_steady ..)
  · exact .trans (mergeOrphan_steady ..) (closeFitment_steady _)

theorem abort_sound : Meaning.Sound abortMeaning 0x15 := fitmentRequest_sound <| sized_sound fun s _ =>
  withContext_sound s fun c _ => endContext_steady s c

/-! ## Commit -/

/-- The slots and the map without an open fitment (R101). -/
def ComponentTable.agrees (x : ComponentTable) : Prop :=
  (∀ (p : Position) (i : Fin 20), x.map[p.index] = some i ↔
    x.slots[i].ident.state = .fitted ∧ x.slots[i].ident.position = some p) ∧
  ∀ i : Fin 20, x.slots[i].ident.state = .fitted →
    ∃ p k, x.slots[i].ident.position = some p ∧ x.slots[i].ident.kind = some k ∧ p ∈ k.fits

theorem State.tableOk.agrees {s : State} (h : s.tableOk) : s.table.agrees := ⟨h.1, h.2.1⟩

theorem tableOk_of_closed {s : State} (h : s.table.agrees) (closed : s.fitment = none) : s.tableOk :=
  ⟨h.1, h.2, fun c opened => by rw [closed] at opened; exact nomatch opened⟩

theorem index_val_ne {p q : Position} (h : p ≠ q) : q.index.val ≠ p.index.val := fun e => index_ne h e.symm

/-- The slot that an entry names leaves, and the entry with it. -/
theorem agrees_remove {x : ComponentTable} (h : x.agrees) {p : Position} {i : Fin 20} (entry : x.map[p.index] = some i) :
    ComponentTable.agrees { slots := x.slots.set i .empty, map := x.map.set p.index none } := by
  have empty : Slot.empty.ident.state ≠ .fitted := by simp [Slot.empty, SlotIdent.bare]
  refine ⟨fun q j => ?_, fun j fitted => ?_⟩
  · by_cases hj : j = i
    · subst hj
      refine iff_of_false (fun named => ?_) (fun fitted => ?_)
      · by_cases hq : q = p
        · subst hq; simp at named
        · have ne := index_val_ne hq
          simp only [Fin.getElem_fin, Vector.getElem_set_ne _ _ ne] at named
          have a := ((h.1 q j).1 named).2
          have b := ((h.1 p j).1 entry).2
          exact hq (Option.some.inj (a.symm.trans b))
      · simp only [Fin.getElem_fin, Vector.getElem_set_self] at fitted
        exact empty fitted.1
    · have ne : i.val ≠ j.val := fun e => hj (Fin.ext e.symm)
      simp only [Fin.getElem_fin, Vector.getElem_set_ne _ _ ne]
      by_cases hq : q = p
      · subst hq
        rw [Vector.getElem_set_self]
        refine iff_of_false (fun named => nomatch named) (fun fitted => ?_)
        have named := (h.1 q j).2 fitted
        exact hj (Option.some.inj (named.symm.trans entry))
      · rw [Vector.getElem_set_ne _ _ (index_val_ne hq)]
        exact h.1 q j
  · by_cases hj : j = i
    · subst hj
      simp only [Fin.getElem_fin, Vector.getElem_set_self] at fitted
      exact absurd fitted empty
    · have ne : i.val ≠ j.val := fun e => hj (Fin.ext e.symm)
      simp only [Fin.getElem_fin, Vector.getElem_set_ne _ _ ne] at fitted ⊢
      exact h.2 j fitted

/-- A component is FITTED in a slot that was not, at a position whose entry is none. -/
theorem agrees_fit {x : ComponentTable} (h : x.agrees) {p : Position} {i : Fin 20} (free : x.map[p.index] = none)
    (unfitted : x.slots[i].ident.state ≠ .fitted) {y : Slot} {k : Kind} (fitted : y.ident.state = .fitted)
    (position : y.ident.position = some p) (kind : y.ident.kind = some k) (fits : p ∈ k.fits) :
    ComponentTable.agrees { slots := x.slots.set i y, map := x.map.set p.index (some i) } := by
  refine ⟨fun q j => ?_, fun j named => ?_⟩
  · by_cases hj : j = i
    · subst hj
      simp only [Fin.getElem_fin, Vector.getElem_set_self, fitted, position, true_and, Option.some.injEq]
      by_cases hq : q = p
      · subst hq; simp
      · rw [Vector.getElem_set_ne _ _ (index_val_ne hq)]
        exact iff_of_false (fun named => unfitted ((h.1 q j).1 named).1) (fun e => hq e.symm)
    · have ne : i.val ≠ j.val := fun e => hj (Fin.ext e.symm)
      simp only [Fin.getElem_fin, Vector.getElem_set_ne _ _ ne]
      by_cases hq : q = p
      · subst hq
        rw [Vector.getElem_set_self]
        refine iff_of_false (fun e => hj (Option.some.inj e).symm) (fun there => ?_)
        have named := (h.1 q j).2 there
        exact nomatch free.symm.trans named
      · rw [Vector.getElem_set_ne _ _ (index_val_ne hq)]
        exact h.1 q j
  · by_cases hj : j = i
    · subst hj
      simp only [Fin.getElem_fin, Vector.getElem_set_self]
      exact ⟨p, k, position, kind, fits⟩
    · have ne : i.val ≠ j.val := fun e => hj (Fin.ext e.symm)
      simp only [Fin.getElem_fin, Vector.getElem_set_ne _ _ ne] at named ⊢
      exact h.2 j named

theorem removeOutgoing_table {c : Context} {i : Fin 20} {y : Slot} (out : c.outgoing = some (i, y)) :
    (s.removeOutgoing c).table = { slots := s.table.slots.set i .empty, map := s.table.map.set c.position.index none } := by
  unfold State.removeOutgoing
  rw [out]
  simp only [markDirty_table, setEntry_table, emptySlot_table]

theorem removeOutgoing_none {c : Context} (out : c.outgoing = none) : s.removeOutgoing c = s := by
  unfold State.removeOutgoing
  rw [out]

theorem fitIncoming_table (p x i) : (s.fitIncoming p x i).table =
    { slots := s.table.slots.set i (x.fitted p s.timeField s.gearCount), map := s.table.map.set p.index (some i) } := by
  have marked (u : State) (ns : List Nat) : (u.markAll ns).table = u.table := (markAll_frame u ns).table (by simp)
  unfold State.fitIncoming
  rw [markDirty_table, setEntry_table, marked]
  rfl

/-- The incoming slot is EMPTY, or it is the outgoing slot (R122). -/
theorem incoming_empty {out : Option (Fin 20)} {i : Fin 20} (h : s.incoming out = some i) :
    out = some i ∨ s.table.slots[i].ident.state = .empty := by
  unfold State.incoming at h
  split at h
  · rename_i j found
    obtain rfl := Option.some.inj h
    have := List.find?_some found
    simp only [Bool.and_eq_true, decide_eq_true_eq] at this
    exact .inr this.2
  · exact .inl h

theorem mergeOrphan_frame_tally (c) : s.sameExcept (s.mergeOrphan c) [.tally, .ctl, .link] := by
  have set : s.sameExcept (s.setTally c.position .orphan (c.interim.merge (s.tallyOf c.position .orphan))) [.tally, .ctl, .link] :=
    .trans ((setOrphan_frame ..).mono (by simp)) ((markIf_frame ..).mono (by simp))
  exact .trans (.trans set (.foldl (fun s q => (raiseSaturated_frame s _ _ _ _ q _).mono (by simp)) _ _))
    ((markDirty_frame ..).mono (by simp))

/-- After steps 1 and 2 of a commit the position's entry is none, and the slots agree with the map (R122). -/
theorem removeOutgoing_agrees {c : Context} (ok : s.tableOk) (opened : s.fitment = some c) :
    (s.removeOutgoing c).table.agrees ∧ (s.removeOutgoing c).table.map[c.position.index] = none := by
  obtain ⟨entry, -, -⟩ := ok.2.2 c opened
  cases out : c.outgoing with
  | none => rw [out] at entry; rw [removeOutgoing_none s out]; exact ⟨ok.agrees, entry⟩
  | some o => rw [out] at entry; rw [removeOutgoing_table s out]; exact ⟨agrees_remove ok.agrees entry, by simp⟩

/-- The slot that a commit chooses is not FITTED once the outgoing slot has left. -/
theorem incoming_unfitted {c : Context} {i : Fin 20} (h : s.incoming (c.outgoing.map Prod.fst) = some i) :
    (s.removeOutgoing c).table.slots[i].ident.state ≠ .fitted := by
  have empty : Slot.empty.ident.state ≠ .fitted := by simp [Slot.empty, SlotIdent.bare]
  rcases incoming_empty s h with same | free
  · obtain ⟨⟨o, y⟩, out, rfl⟩ := Option.map_eq_some_iff.1 same
    rw [removeOutgoing_table s out]
    simpa using empty
  · cases out : c.outgoing with
    | none => rw [removeOutgoing_none s out, free]; decide
    | some o =>
      rw [removeOutgoing_table s out]
      by_cases e : i = o.1
      · subst e; simpa using empty
      · have ne : o.1.val ≠ i.val := fun k => e (Fin.ext k.symm)
        simp only [Fin.getElem_fin, Vector.getElem_set_ne _ _ ne]
        rw [← Fin.getElem_fin, free]
        decide

/-- The states between the steps of a commit. -/
def State.merged (s : State) (c : Context) : State := (s.removeOutgoing c).mergeOrphan c

/-- The incoming slot that COMMIT_FITMENT chooses (R121, R122). -/
def State.chosen (s : State) (c : Context) : Option (Fin 20) :=
  if c.action = .remove then none else s.incoming (c.outgoing.map Prod.fst)

theorem fitStaged_agrees {c : Context} (ok : s.tableOk) (opened : s.fitment = some c) :
    ((s.merged c).fitStaged c (s.chosen c)).table.agrees := by
  have table : (s.merged c).table = (s.removeOutgoing c).table := (mergeOrphan_frame_tally ..).table (by simp)
  obtain ⟨agrees, free⟩ := removeOutgoing_agrees s ok opened
  unfold State.fitStaged
  split
  · rename_i x i staged inc
    have inc : s.incoming (c.outgoing.map Prod.fst) = some i := by
      unfold State.chosen at inc
      split at inc
      · exact nomatch inc
      · exact inc
    rw [fitIncoming_table, table]
    exact agrees_fit agrees free (incoming_unfitted s inc) rfl rfl rfl ((ok.2.2 c opened).2.2 x staged)
  · rwa [table]

theorem markAll_core (ns) (h : ∀ n ∈ ns, n < 178) : s.Core (s.markAll ns) := (markAll_steady s h).core
theorem markDirty_core {n : Nat} (h : n < 178) : s.Core (s.markDirty n) := (markDirty_steady s h).core
theorem setTable_core (x : ComponentTable) : s.Core { s with table := x } := .of_frame (bs := [.table]) (by simp [State.sameExcept])

theorem removeOutgoing_core (c) : s.Core (s.removeOutgoing c) := by
  unfold State.removeOutgoing
  split
  · exact .trans (.trans (.trans (setTable_core s _) (markAll_core _ _ (slotLines_lt _))) (setTable_core _ _))
      (markDirty_core _ (by decide))
  · exact .refl s

theorem fitStaged_core (c inc) : s.Core (s.fitStaged c inc) := by
  unfold State.fitStaged
  split
  · exact .trans (.trans (.trans (setTable_core s _) (markAll_core _ _ (slotLines_lt _))) (setTable_core _ _))
      (markDirty_core _ (by decide))
  · exact .refl s

/-- The state before the period split. -/
def State.refitted (s : State) (c : Context) : State := (s.merged c).fitStaged c (s.chosen c)

/-- The commit up to its fitment's end. -/
def State.parted (s : State) (c : Context) : State := { (s.refitted c).split with fitment := none }

theorem bookOk_congr {s t : State} (sup : t.sup = s.sup) (book : t.book = s.book) (h : s.bookOk) : t.bookOk := by
  unfold State.bookOk at *
  rwa [sup, book]

theorem refitted_frame (c) : s.sameExcept (s.refitted c) [.tally, .table, .ctl, .link] :=
  .trans (.trans ((removeOutgoing_frame ..).mono (by simp)) ((mergeOrphan_frame_tally ..).mono (by simp)))
    ((fitStaged_frame ..).mono (by simp))

theorem refitted_core (c) : s.Core (s.refitted c) :=
  .trans (.trans (removeOutgoing_core s c) (mergeOrphan_steady _ c).core) (fitStaged_core ..)

theorem split_core : s.Core s.split := turnPage_core ..

theorem split_table : s.split.table = s.table := (turnPage_frame ..).table (by simp)

theorem parted_steady {c : Context} (opened : s.fitment = some c) (room : s.book.canOpen = true) : s.Steady (s.parted c) := by
  have frame := refitted_frame s c
  have book := frame.book (by simp)
  have core : s.Core (s.parted c) := (refitted_core s c).trans ((split_core _).trans (closeFitment_steady _).core)
  refine ⟨core.store, core.link, core.counts, fun ok => tableOk_of_closed ?_ rfl, fun ok => ?_⟩
  · show (s.refitted c).split.table.agrees
    rw [split_table]
    exact fitStaged_agrees s ok opened
  · have closed := (closeFitment_steady (s.refitted c).split).book
    exact closed (turnPage_bookOk _ _ _ _ _ (by rw [book]; exact room) (bookOk_congr (frame.sup (by simp)) book ok))

theorem testIncoming_steady (inc) : s.Steady (s.testIncoming inc) := by
  unfold State.testIncoming
  split
  · exact (testService_steady ..).trans (testLife_steady ..)
  · exact .refl s

theorem commit_steady {c : Context} (opened : s.fitment = some c) (room : s.book.canOpen = true) :
    s.Steady (s.commit c (s.chosen c)) :=
  .trans (.trans (parted_steady s opened room) noteNearFull_steady) (testIncoming_steady ..)

theorem dirtyFlight_steady {lines : List Nat} (h : ∀ n ∈ lines, n < 178) : s.Steady (s.dirtyFlight lines) := by
  unfold State.dirtyFlight
  split
  · exact .ite (fun listed => markDirty_steady s (h _ (by simpa using listed))) (fun _ => .refl s)
  · exact .refl s

theorem commitSlotLines_lt (out inc) : ∀ n ∈ commitSlotLines out inc, n < 178 := by
  intro n hn
  rcases List.mem_append.1 hn with hn | hn
  · cases inc with
    | none => exact nomatch hn
    | some i => exact slotLines_lt i n (by simp only [slotLines, List.mem_cons, List.not_mem_nil, or_false] at hn ⊢; tauto)
  · split at hn
    · split at hn
      · exact nomatch hn
      · exact slotLines_lt _ n hn
    · exact nomatch hn

theorem commitLines_lt (c inc) : ∀ n ∈ s.commitLines c inc, n < 178 := by
  intro n hn
  rcases List.mem_append.1 hn with hn | hn
  · rcases List.mem_append.1 hn with hn | hn
    · exact turnLines_lt _ n hn
    · exact commitSlotLines_lt _ _ n hn
  · have := orphanLine_lt c.position
    simp only [List.mem_cons, List.not_mem_nil, or_false] at hn
    omega

theorem commit_sound : Meaning.Sound commitMeaning 0x14 := fitmentRequest_sound <| sized_sound fun s _ =>
  withContext_sound s fun c opened => by
    have lines := commitLines_lt s c (s.chosen c)
    have taken (room : s.book.canOpen = true) : (s.commitTaken c (s.chosen c)).Sound s 0x14 :=
      ⟨(commit_steady s opened room).trans (dirtyFlight_steady _ lines), lines, by decide⟩
    exact sound_ite (fun _ => .refl s) fun _ => sound_ite (fun _ => .refl s) fun _ => sound_ite (fun _ => .refl s) fun _ =>
      sound_ite (fun _ => .refl s) fun room => taken (by simpa using room)

end
end Sys2Proof.Machine
end

section
/-! What the events keep of the invariants: sensing, timers, the Store Controller's events, supply and POWER_WARN. -/
namespace Sys2Proof.Machine

section
variable (s : State)

/-! ## Timers of the sensing side -/

theorem wallClock_steady (d : Nat) : s.Steady { s.reach d with clock := { (s.reach d).clock with
    value := bump Config.max32 (s.reach d).clock.value, tick := (s.reach d).startIn Config.second } } :=
  .trans (reach_steady s d) (setClock_steady _ _ (bump_le ..))

theorem runTimer_steady (d : Nat) (x : RunDetector) (attempt : x.attempt = s.run.attempt) : s.Steady { s.reach d with run := x } :=
  .trans (reach_steady s d) (setRun_steady _ _ fun h => attempt.trans_le h)

theorem engageGear_steady (g) : s.Steady (s.engageGear g) := by
  unfold State.engageGear
  dsimp only
  split
  · exact .ite (fun _ => setDriveline_steady s _) (fun _ => (setDriveline_steady s _).trans (take_steady ..))
  · exact setDriveline_steady s _

theorem accrual_steady (d : Nat) (x : TallyEngine) : s.Steady { s.reach d with tally := x } :=
  .trans (reach_steady s d) (.of_frame (bs := [.tally]) (by simp [State.sameExcept]))

/-! ## The end of a write (R154, R155, R157) -/

/-- The store's copy of a line of the store is replaced. -/
theorem storeLine_preserves {n : Nat} (l : StoredLine) (h : s.ctl.queueOk → n < 178) : s.Preserves (s.storeLine n l) :=
  ⟨fun ⟨st, q⟩ => ⟨storePut_wf st (h q) l, q⟩, id, id, id, id⟩

/-- The FINISHED of an ended record takes the place that was reserved for it (R187, R188). -/
theorem endRecords_places (res e) :
    (s.endRecords res e).link.replies.length + (s.endRecords res e).reserved = s.link.replies.length + s.reserved := by
  unfold State.reserved
  rw [endRecords_link, endRecords_ctl]
  have split : ∀ rs : List DeferredRecord, ((rs.filter e).filter fun r => !r.silent).length +
      ((rs.filter fun r => !e r).filter fun r => !r.silent).length = (rs.filter fun r => !r.silent).length := by
    intro rs
    rw [List.filter_comm (fun r => !r.silent) e, List.filter_comm (fun r => !r.silent) (fun r => !e r)]
    exact (List.length_eq_length_filter_add e).symm
  have := split s.ctl.records
  simp only [List.length_append, List.length_map]
  omega

theorem endRecords_preserves (res e) : s.Preserves (s.endRecords res e) := by
  have frame := endRecords_frame s res e
  have ctl := endRecords_ctl s res e
  have link := endRecords_link s res e
  refine ⟨fun ⟨st, q⟩ => ⟨frame.store (by simp) ▸ st, ctl ▸ queueOk_congr (x := s.ctl) rfl rfl rfl q⟩,
    fun ⟨intake, records, replies⟩ => ⟨by rw [link]; exact intake, ?_, by rw [endRecords_places]; exact replies⟩, fun ok => ?_, fun ok => ?_,
    bookOk_congr (frame.sup (by simp)) (frame.book (by simp))⟩
  · rw [ctl]
    exact (List.length_filter_le ..).trans records
  · unfold State.countsOk at *
    rw [link, ctl, frame.run (by simp), frame.clock (by simp), frame.channels (by simp), frame.driveline (by simp)]
    exact ok
  · unfold State.tableOk at *
    rwa [frame.table (by simp), frame.fitment (by simp)]

/-- The invariants of link, counts, slots and book are kept. -/
structure State.PreservesRest (s t : State) : Prop where
  link   : s.linkBounds → t.linkBounds
  counts : s.countsOk → t.countsOk
  table  : s.tableOk → t.tableOk
  book   : s.bookOk → t.bookOk

theorem State.Preserves.rest {s t : State} (h : s.Preserves t) : s.PreservesRest t := ⟨h.link, h.counts, h.table, h.book⟩

theorem State.PreservesRest.trans {s t u : State} (h : s.PreservesRest t) (k : t.PreservesRest u) : s.PreservesRest u :=
  ⟨k.link ∘ h.link, k.counts ∘ h.counts, k.table ∘ h.table, k.book ∘ h.book⟩

/-- A change of the Store Controller that leaves which records are silent, and keeps the maxima of its counts. -/
theorem setCtl_preservesRest (x : StoreController)
    (records : x.records.map DeferredRecord.silent = s.ctl.records.map DeferredRecord.silent := by rfl)
    (failures : s.ctl.failures ≤ Config.max16 → x.failures ≤ Config.max16 := by exact id)
    (corrected : s.ctl.correctedCount ≤ Config.max16 → x.correctedCount ≤ Config.max16 := by exact id)
    (repaired : s.ctl.repairedCount ≤ Config.max16 → x.repairedCount ≤ Config.max16 := by exact id) :
    s.PreservesRest { s with ctl := x } := by
  have length : x.records.length = s.ctl.records.length := by simpa using congrArg List.length records
  have reserved : ({ s with ctl := x } : State).reserved = s.reserved := by
    have count (rs : List DeferredRecord) : (rs.filter fun r => !r.silent).length = (rs.map DeferredRecord.silent).count false := by
      rw [List.count, List.countP_map, List.countP_eq_length_filter]
      congr 2
      funext r
      simp
    unfold State.reserved
    rw [count, count, records]
  refine ⟨fun ⟨intake, recs, replies⟩ => ⟨intake, length.trans_le recs, ?_⟩,
    fun ⟨a, n, v, ch, tow, f, c, r, rest⟩ => ⟨a, n, v, ch, tow, failures f, corrected c, repaired r, rest⟩, id, id⟩
  rw [reserved]
  exact replies

/-- The line in flight is a line of the store, and it is not queued. -/
theorem flight_line {x : StoreController} {f : Flight} (h : x.queueOk) (flight : x.flight = some f) :
    f.line < 178 ∧ f.line ∉ x.queue.lines := by
  obtain ⟨nodup, -, lines⟩ := h
  have inFlight : x.flightLine = some f.line := by rw [StoreController.flightLine, flight]; rfl
  refine ⟨lines _ (.inl (.inr inFlight)), ?_⟩
  rw [inFlight] at nodup
  simpa using (List.nodup_cons.1 nodup).1

/-- With nothing in flight the Write Queue is as before. -/
theorem landed_queueOk {x y : StoreController} (h : x.queueOk) (flight : y.flight = none) (queue : y.queue = x.queue)
    (dirty : y.dirty = x.dirty) : y.queueOk := by
  obtain ⟨nodup, rising, lines⟩ := h
  refine ⟨?_, dirty ▸ rising, fun n hn => lines n ?_⟩
  · rw [StoreController.flightLine, flight, queue]
    exact nodup.of_append_right
  · unfold StoreController.holds StoreController.flightLine at hn ⊢
    rw [flight, queue, dirty] at hn
    rcases hn with (hn | hn) | hn
    · exact .inl (.inl hn)
    · exact nomatch hn
    · exact .inr hn

theorem release_silent (f : Flight) (rs : List DeferredRecord) :
    (rs.map (DeferredRecord.release f)).map DeferredRecord.silent = rs.map DeferredRecord.silent := by
  rw [List.map_map]
  congr 1
  funext r
  simp only [Function.comp, DeferredRecord.release]
  split <;> rfl

/-- The line joins the queue again. -/
theorem rejoin_preservesRest (x : StoreController) (f : Flight) (records : x.records = s.ctl.records := by rfl)
    (failures : s.ctl.failures ≤ Config.max16 → x.failures ≤ Config.max16 := by exact id)
    (corrected : x.correctedCount = s.ctl.correctedCount := by rfl) (repaired : x.repairedCount = s.ctl.repairedCount := by rfl) :
    s.PreservesRest { s with ctl := x.rejoin f } := by
  have same : (x.rejoin f).correctedCount = x.correctedCount ∧ (x.rejoin f).repairedCount = x.repairedCount := by
    unfold StoreController.rejoin
    split <;> exact ⟨rfl, rfl⟩
  refine setCtl_preservesRest s _ (by rw [rejoin_records, records]) (fun h => by rw [rejoin_failures]; exact failures h)
    (fun h => ?_) (fun h => ?_)
  · rw [same.1, corrected]; exact h
  · rw [same.2, repaired]; exact h

theorem writePassed_preserves {f : Flight} (flight : s.ctl.flight = some f) : s.Preserves (s.writePassed f) := by
  have rest : s.PreservesRest (s.writePassed f) :=
    .trans (.trans (.trans (setCtl_preservesRest s _) (setCtl_preservesRest s.landed _ (release_silent ..)))
      (endRecords_preserves _ _ _).rest) (rejoin_preservesRest _ _ f)
  refine ⟨fun ⟨st, q⟩ => ⟨(writePassed_frame s f).store (by simp) ▸ st, ?_⟩, rest.link, rest.counts, rest.table, rest.book⟩
  obtain ⟨lt, out⟩ := flight_line q flight
  have ctl := endRecords_ctl (s.landed.releaseLine f) .ok fun r => r.awaits.isEmpty
  have queue := congrArg StoreController.queue ctl
  have idle := congrArg StoreController.flight ctl
  have dirty := congrArg StoreController.dirty ctl
  exact rejoin_queueOk (landed_queueOk (x := s.ctl) q idle queue dirty) idle (by rw [queue]; exact out) lt

theorem writeFailed_preserves {f : Flight} (flight : s.ctl.flight = some f) : s.Preserves (s.writeFailed f) := by
  let marked := s.landed.markDirty f.line
  let counted : State := { marked with ctl := { marked.ctl with
    failures := bump Config.max16 marked.ctl.failures, failed := insertLine f.line marked.ctl.failed, flush := marked.ctl.flush.lost } }
  have rest : s.PreservesRest (s.writeFailed f) :=
    .trans (.trans (.trans (.trans (setCtl_preservesRest s marked.ctl) (setCtl_preservesRest marked counted.ctl rfl fun _ => bump_le ..))
      (raise_steady ..).preserves.rest) (endRecords_preserves _ _ _).rest) (rejoin_preservesRest _ _ f)
  refine ⟨fun ⟨st, q⟩ => ⟨(writeFailed_frame s f).store (by simp) ▸ st, ?_⟩, rest.link, rest.counts, rest.table, rest.book⟩
  obtain ⟨lt, out⟩ := flight_line q flight
  have raised : (counted.raise .storeFault (.line f.line)).ctl = counted.ctl := (raise_frame ..).ctl (by simp)
  have ctl := endRecords_ctl (counted.raise .storeFault (.line f.line)) .storeFault fun r => r.awaits.contains f.line
  rw [raised] at ctl
  have queue := congrArg StoreController.queue ctl
  have idle := congrArg StoreController.flight ctl
  have dirty := congrArg StoreController.dirty ctl
  have ok : marked.ctl.queueOk := markDirty_queueOk (landed_queueOk (x := s.ctl) (y := s.landed.ctl) q rfl rfl rfl) lt
  exact rejoin_queueOk (landed_queueOk (x := marked.ctl) ok idle queue dirty) idle (by rw [queue]; exact out) lt

/-- The write of the line in flight starts again (R155). -/
theorem retry_steady {f : Flight} (flight : s.ctl.flight = some f) : s.Steady (s.startWrite f.line s.ctl.queue true f.pending) := by
  refine startWrite_steady s fun q => ?_
  have inFlight : s.ctl.flightLine = some f.line := by rw [StoreController.flightLine, flight]; rfl
  have nodup := q.1
  rw [inFlight] at nodup
  refine startWrite_queueOk q _ _ nodup fun m hm => .inl ?_
  rcases List.mem_cons.1 hm with rfl | hm
  · exact .inr inFlight
  · exact .inl hm

theorem storeLine_preserves' {f : Flight} (flight : s.ctl.flight = some f) (l : StoredLine) : s.Preserves (s.storeLine f.line l) :=
  storeLine_preserves s l fun q => (flight_line q flight).1

theorem endWrite_preserves {f : Flight} (flight : s.ctl.flight = some f) (found) : s.Preserves (s.endWrite f found) := by
  unfold State.endWrite
  dsimp only
  split
  · exact .trans (storeLine_preserves' s flight _) (.trans (writePassed_preserves _ flight) (arbitrate_steady _).preserves)
  · split
    · exact .trans (storeLine_preserves' s flight _) (.trans (writeFailed_preserves _ flight) (arbitrate_steady _).preserves)
    · exact .trans (storeLine_preserves' s flight _) (retry_steady (s.storeLeft f found) flight).preserves

/-! ## Scrubbing and the dormancy timer -/

theorem decay_preserves (d) : s.Preserves (s.decay d) := ⟨fun ⟨st, q⟩ => ⟨decayed_wf st d, q⟩, id, id, id, id⟩

/-- Corrected and repaired lines counted up to their maxima. -/
theorem setStoreCounts_steady (x : StoreController) (flight : x.flight = s.ctl.flight := by rfl)
    (queue : x.queue = s.ctl.queue := by rfl) (dirty : x.dirty = s.ctl.dirty := by rfl) (records : x.records = s.ctl.records := by rfl)
    (failures : x.failures = s.ctl.failures := by rfl)
    (corrected : s.ctl.correctedCount ≤ Config.max16 → x.correctedCount ≤ Config.max16 := by exact id)
    (repaired : s.ctl.repairedCount ≤ Config.max16 → x.repairedCount ≤ Config.max16 := by exact id) : s.Steady { s with ctl := x } := by
  refine ⟨fun ⟨st, q⟩ => ⟨st, queueOk_congr (x := s.ctl) (congrArg (Option.map Flight.line) flight) queue dirty q⟩, ⟨rfl, rfl, records⟩,
    fun ⟨a, n, v, ch, tow, f, c, r, rest⟩ => ⟨a, n, v, ch, tow, ?_, corrected c, repaired r, rest⟩, id, id⟩
  show x.failures ≤ _
  rwa [failures]

theorem queueRepair_steady {n : Nat} (hn : n < 178) : s.Steady (s.queueRepair n) :=
  .ite (fun _ => .refl s) (fun _ => queueLines_steady s _ (by simpa using hn))

theorem countCorrected_steady : s.Steady { s with ctl := { s.ctl with correctedCount := bump Config.max16 s.ctl.correctedCount } } :=
  setStoreCounts_steady s { s.ctl with correctedCount := bump Config.max16 s.ctl.correctedCount } rfl rfl rfl rfl rfl fun _ => bump_le ..

theorem countRepaired_steady : s.Steady { s with ctl := { s.ctl with repairedCount := bump Config.max16 s.ctl.repairedCount } } :=
  setStoreCounts_steady s { s.ctl with repairedCount := bump Config.max16 s.ctl.repairedCount } rfl rfl rfl rfl rfl (by exact id)
    fun _ => bump_le ..

theorem scrubLine_steady {n : Nat} (hn : n < 178) : s.Steady (s.scrubLine n) := by
  unfold State.scrubLine
  split
  · exact .refl s
  · exact (countCorrected_steady s).trans (queueRepair_steady _ hn)
  · exact (countRepaired_steady s).trans (queueRepair_steady _ hn)

theorem enqueueAll_preservesRest (c ns) : s.PreservesRest (s.enqueueAll c ns) := by
  obtain ⟨-, records, -, settings⟩ := enqueueAll_spec s c ns
  obtain ⟨-, failures, corrected, repaired, -⟩ := settings
  exact setCtl_preservesRest s _ (congrArg _ records) failures.trans_le corrected.trans_le repaired.trans_le

theorem queueRepair_preservesRest (n) : s.PreservesRest (s.queueRepair n) := by
  unfold State.queueRepair
  split
  · exact (State.Preserves.refl s).rest
  · exact (enqueueAll_preservesRest s ..).trans (arbitrate_steady _).preserves.rest

theorem scrubLine_preservesRest (n) : s.PreservesRest (s.scrubLine n) := by
  unfold State.scrubLine
  split
  · exact (State.Preserves.refl s).rest
  · exact (countCorrected_steady s).preserves.rest.trans (queueRepair_preservesRest _ n)
  · exact (countRepaired_steady s).preserves.rest.trans (queueRepair_preservesRest _ n)

/-- A number beyond the store's lines names nothing in a store of canonical form, and reads clean. -/
theorem storeGet_beyond {st : Store} (wf : Store.wf st) {n : Nat} (hn : ¬n < 178) : (storeGet st n).outcome = .clean := by
  have none : st.find? (fun e => e.1 == n) = none := by
    refine List.find?_eq_none.2 fun e he => ?_
    have := (wf.2 e he).1
    simp only [beq_iff_eq]
    rintro rfl
    exact hn this
  unfold storeGet
  rw [none]
  rfl

theorem scrubLine_preserves (n) : s.Preserves (s.scrubLine n) := by
  by_cases hn : n < 178
  · exact (scrubLine_steady s hn).preserves
  · obtain ⟨link, counts, table, book⟩ := scrubLine_preservesRest s n
    refine ⟨fun ok => ?_, link, counts, table, book⟩
    unfold State.scrubLine
    rw [storeGet_beyond ok.1 hn]
    exact ok

theorem scrubStep_preserves : s.Preserves s.scrubStep := by
  have pointed := (setCtl_steady s { s.ctl with scrubPointer := nextLine s.ctl.scrubPointer }).preserves
  exact .ite (fun _ => pointed) (fun _ => pointed.trans (scrubLine_preserves ..))

/-- The dirty lines, lines of the store all, are queued. -/
theorem enqueueDirty_preserves (c) : s.Preserves (s.enqueueAll c s.ctl.dirty) := by
  obtain ⟨link, counts, table, book⟩ := enqueueAll_preservesRest s c s.ctl.dirty
  exact ⟨fun ⟨st, q⟩ => ⟨st, enqueueAll_queueOk q c fun n hn => q.2.2 n (.inr hn)⟩, link, counts, table, book⟩

theorem drain_preserves (read : s.bookOk → s.sup.unread = false) : s.Preserves s.drain := by
  have drained : s.Preserves { s with sup := { s.sup with power := .draining, dormancy := none } } :=
    ⟨id, id, id, id, fun ok => ⟨fun u => absurd ((read ok).symm.trans u) (by decide), ok.2⟩⟩
  exact drained.trans ((enqueueDirty_preserves _ .checkpoint).trans (arbitrate_steady _).preserves)

/-! ## POWER_WARN (R163, R165, R169, R189) -/

theorem State.Preserves.foldl {α : Type} {f : State → α → State} (h : ∀ (s : State) (a : α), s.Preserves (f s a)) (xs : List α)
    (s : State) : s.Preserves (xs.foldl f s) := by
  induction xs generalizing s with
  | nil => exact .refl s
  | cons x xs ih => exact (h s x).trans (ih (f s x))

theorem refuseIntake_preserves : s.Preserves s.refuseIntake := by
  have emptied : s.Preserves { s with link := { s.link with intake := [] } } :=
    setLink_preserves s _ fun ⟨_, records, replies⟩ => ⟨Nat.zero_le _, records, replies⟩
  exact emptied.trans (.foldl (fun s r => replyIfFree_preserves s _) _ _)

theorem beginFlush_preserves : s.Preserves { s with ctl := s.ctl.beginFlush } := by
  obtain ⟨link, counts, table, book⟩ := setCtl_preservesRest s s.ctl.beginFlush
  exact ⟨fun ⟨st, q⟩ => ⟨st, beginFlush_queueOk q⟩, link, counts, table, book⟩

theorem enterHoldup_preserves (power : s.sup.power ≠ .starting) : s.Preserves s.enterHoldup := by
  have woken : s.Preserves (if s.sup.power = .dormant then s.startActivity else s) :=
    .ite (fun _ => (startActivity_steady s).preserves) (fun _ => .refl s)
  have live : (if s.sup.power = .dormant then s.startActivity else s).sup.power ≠ .starting := by
    split <;> exact power
  exact woken.trans <| (setPower_steady _ _ live).preserves.trans <| (refuseIntake_preserves _).trans <|
    (beginFlush_preserves _).trans <| (arbitrate_steady _).preserves.trans (supervise_steady _).preserves

theorem warned_preserves : s.Preserves s.warned := by
  unfold State.warned
  split
  · split <;> first
      | exact enterHoldup_preserves s (by simp [*])
      | exact .refl s
  · exact .refl s

theorem leaveHoldup_preserves (power : s.sup.power = .holdup) : s.Preserves s.leaveHoldup := by
  have sup : (s.markIf s.sup.mark 5).sup = s.sup := (markIf_frame s s.sup.mark 5).sup (by simp)
  have active : (s.markIf s.sup.mark 5).Steady { s.markIf s.sup.mark 5 with
      sup := { (s.markIf s.sup.mark 5).sup with power := .active, mark := false } } :=
    setSup_steady _ _ rfl fun _ h => by
      have := h.1
      rw [sup, power] at this
      exact nomatch this
  have absent := setCtl_steady { s.markIf s.sup.mark 5 with
      sup := { (s.markIf s.sup.mark 5).sup with power := .active, mark := false } } { (s.markIf s.sup.mark 5).ctl with flush := .absent }
  exact ((markIf_steady s _ (by decide)).trans (active.trans absent)).preserves.trans <|
    (queueLines_steady _ .commit (ns := [5]) (by simp)).preserves.trans (supervise_steady _).preserves

/-! ## Supply and RESET (R150, R170, R171) -/

theorem cutWrite_preserves (cut) : s.Preserves (s.cutWrite cut) := by
  unfold State.cutWrite
  split
  · exact storeLine_preserves' s ‹_› _
  · exact .refl s

theorem rest_queueOk : StoreController.rest.queueOk :=
  ⟨.nil, .nil, fun n h => by simp [StoreController.rest, StoreController.holds, StoreController.flightLine, WriteQueue.lines,
    WriteQueue.empty] at h⟩

/-- Every slot is EMPTY and every entry none. -/
def ComponentTable.blank : ComponentTable := { slots := Vector.replicate 20 .empty, map := Vector.replicate 16 none }

theorem blank_agrees : ComponentTable.blank.agrees := by
  have empty (i : Fin 20) : ComponentTable.blank.slots[i].ident.state ≠ .fitted := by
    simp [ComponentTable.blank, Slot.empty, SlotIdent.bare]
  refine ⟨fun p i => iff_of_false (fun h => ?_) (fun h => empty i h.1), fun i h => absurd h (empty i)⟩
  simp [ComponentTable.blank] at h

theorem atRest_preserves : s.Preserves s.atRest :=
  ⟨fun ⟨st, _⟩ => ⟨st, rest_queueOk⟩, fun _ => ⟨Nat.zero_le _, Nat.zero_le _, Nat.zero_le _⟩,
    fun _ => ⟨Nat.zero_le _, fun i => by simp [State.atRest, LinkPort.rest], Nat.zero_le _,
      fun i => by simp [State.atRest, Channel.rest], fun k => by simp [State.atRest, Driveline.rest], Nat.zero_le _, Nat.zero_le _,
      Nat.zero_le _, Nat.zero_le _, Nat.zero_le _, Nat.zero_le _⟩,
    fun _ => tableOk_of_closed blank_agrees rfl, fun _ => ⟨fun _ => ⟨rfl, rfl⟩, fun u => nomatch u⟩⟩

/-- The blank live images of start-up, the Link Port going on (R170). -/
theorem blank_preserves : s.Preserves s.blank := by
  refine ⟨(atRest_preserves s).store, fun ⟨intake, _, replies⟩ => ⟨intake, Nat.zero_le _, ?_⟩, fun ok => ?_, (atRest_preserves s).table,
    (atRest_preserves s).book⟩
  · show s.link.replies.length + 0 ≤ _
    omega
  · obtain ⟨a, _, v, ch, tow, f, c, r, _⟩ := (atRest_preserves s).counts ok
    obtain ⟨_, n, _, _, _, _, _, _, rest⟩ := ok
    exact ⟨a, n, v, ch, tow, f, c, r, rest⟩

/-! ## The end of start-up (R177) -/

theorem startNotices_steady : s.Steady s.startNotices := by
  have emptied : s.Steady { s with link := { s.link with notices := Vector.replicate 14 none } } :=
    ⟨id, ⟨rfl, rfl, rfl⟩, fun ⟨a, _, rest⟩ => ⟨a, fun i => by simp, rest⟩, id, id⟩
  have raised := emptied.trans (raise_steady _ .clockUnset .empty)
  exact .ite (fun _ => raised.trans (raise_steady ..)) (fun _ => raised)

theorem startSensing_steady : s.Steady s.startSensing :=
  ⟨id, ⟨rfl, rfl, rfl⟩, fun ⟨a, n, _, _, rest⟩ =>
    ⟨a, n, Nat.zero_le _, fun i => by simp [State.startSensing, Channel.started, Channel.rest], rest⟩, id, id⟩

theorem startObservers_steady : s.Steady s.startObservers :=
  ⟨id, ⟨rfl, rfl, rfl⟩, fun ⟨_, n, v, ch, _, rest⟩ =>
    ⟨Nat.zero_le _, n, v, ch, fun k => by simp [State.startObservers, Driveline.rest], rest⟩,
    fun ok => tableOk_of_closed ok.agrees rfl, id⟩

theorem becomeActive_preserves (read : s.sup.unread = false) : s.Preserves s.becomeActive := by
  have active (t : State) (read : t.sup.unread = false) : t.Preserves (t.setPower .active) :=
    ⟨id, id, id, id, fun ok => ⟨fun u => absurd (read.symm.trans u) (by decide), ok.2⟩⟩
  exact .trans (.trans (enqueueDirty_preserves s .commit) (startActivity_steady _).preserves) (active _ read)

theorem finishStart_preserves (read : s.sup.unread = false) : s.Preserves s.finishStart := by
  have ready : s.startNotices.startSensing.startObservers.sup.unread = false := by
    show s.startNotices.sup.unread = false
    rw [(startNotices_frame s).sup (by simp)]
    exact read
  have active : s.Preserves s.startNotices.startSensing.startObservers.becomeActive :=
    (startNotices_steady s).preserves.trans <| (startSensing_steady _).preserves.trans <|
      (startObservers_steady _).preserves.trans (becomeActive_preserves _ ready)
  exact active.trans (.ite (fun _ => enterHoldup_preserves _ (by simp [State.becomeActive, State.setPower]))
    (fun _ => ((supervise_steady _).trans (arbitrate_steady _)).preserves))

end
end Sys2Proof.Machine
end

section
/-! Start-up, what every step adds to the dirty marks and to the report (10 R172 to R176). -/
namespace Sys2Proof.Machine

/-- From s to t the lines `lines` have been marked dirty and the start-up report has taken f; nothing else of Store Controller and
Supervisor changes, nor does the store. -/
structure State.Notes (s t : State) (lines : List Nat) (f : StartReport → StartReport) : Prop where
  ctl   : s.marksOnly t
  dirty : ∀ n, n ∈ t.ctl.dirty ↔ n ∈ s.ctl.dirty ∨ n ∈ lines
  sup   : t.sup = { s.sup with report := f s.sup.report }
  store : t.store = s.store

namespace State.Notes
variable {s t u : State} {ns ms : List Nat} {f g : StartReport → StartReport}

theorem refl (s : State) : s.Notes s [] id := ⟨rfl, by simp, rfl, rfl⟩

theorem trans (h : s.Notes t ns f) (k : t.Notes u ms g) : s.Notes u (ns ++ ms) (g ∘ f) :=
  ⟨h.ctl.trans k.ctl, fun n => by rw [k.dirty, h.dirty, List.mem_append, or_assoc], by rw [k.sup, h.sup]; rfl, k.store.trans h.store⟩

theorem report (h : s.Notes t ns f) : t.sup.report = f s.sup.report := congrArg Supervisor.report h.sup

/-- A step that changes neither Store Controller nor Supervisor nor store notes nothing. -/
theorem of_frame {bs : List Block} (h : s.sameExcept t bs) (out : ∀ b ∈ [Block.store, .ctl, .sup], b ∉ bs := by decide) :
    s.Notes t [] id := by
  have store := h.store (out _ (by simp)); have ctl := h.ctl (out _ (by simp)); have sup := h.sup (out _ (by simp))
  exact ⟨.of_ctl ctl, by simp [ctl], by rw [sup]; rfl, store⟩

theorem congr (h : s.Notes t ns f) (lines : ∀ n, n ∈ ns ↔ n ∈ ms) (same : ∀ r, f r = g r) : s.Notes t ms g :=
  ⟨h.ctl, fun n => by rw [h.dirty, lines], by rw [h.sup, same], h.store⟩

/-- Steps one after another, P saying where the ones before have come. -/
theorem foldl {α : Type} {F : State → α → State} {P : List α → State → Prop} {L : α → List Nat} {R : α → StartReport → StartReport}
    (step : ∀ s a rest, P (a :: rest) s → P rest (F s a) ∧ s.Notes (F s a) (L a) (R a)) (xs : List α) {s : State} (h : P xs s) :
    P [] (xs.foldl F s) ∧ s.Notes (xs.foldl F s) (xs.flatMap L) (fun r => xs.foldl (fun r a => R a r) r) := by
  induction xs generalizing s with
  | nil => exact ⟨h, refl s⟩
  | cons x xs ih =>
    obtain ⟨next, note⟩ := step s x xs h
    obtain ⟨last, notes⟩ := ih next
    refine ⟨last, (note.trans notes).congr (fun n => by simp) (fun r => rfl)⟩

end State.Notes

section
variable (s : State)

theorem markDirty_notes (n) : s.Notes (s.markDirty n) [n] id :=
  ⟨rfl, fun m => by rw [markDirty_ctl, insertLine_mem]; simp [or_comm], rfl, rfl⟩

theorem markAll_notes (ns) : s.Notes (s.markAll ns) ns id := by
  unfold State.markAll
  induction ns generalizing s with
  | nil => exact .refl s
  | cons n ns ih => exact ((markDirty_notes s n).trans (ih (s.markDirty n))).congr (fun m => by simp) fun _ => rfl

theorem markIf_notes (b : Bool) (n) : s.Notes (s.markIf b n) (if b then [n] else []) id := by
  cases b
  · exact .refl s
  · exact markDirty_notes s n

theorem reporting_notes (f) : s.Notes (s.reporting f) [] f := ⟨rfl, fun _ => by simp [State.reporting], rfl, rfl⟩

/-! ## Counts of a report -/

/-- Counting up a field of the report, once for each element that meets p. -/
theorem foldl_count {α : Type} (p : α → Bool) (put : Nat → StartReport → StartReport) (get : StartReport → Nat)
    (own : ∀ r, put (get r) r = r) (again : ∀ a b r, put a (put b r) = put a r) (got : ∀ a r, get (put a r) = a) (xs : List α) (r : StartReport) :
    xs.foldl (fun r a => put (get r + (p a).toNat) r) r = put (get r + (xs.filter p).length) r := by
  induction xs generalizing r with
  | nil => simp [own]
  | cons x xs ih =>
    rw [List.foldl_cons, ih, got, again]
    congr 1
    cases h : p x <;> simp [h]
    omega

/-! ## Steps 1 to 3 -/

/-! ## Step 4: the slots (R102) -/

theorem startSlot_notes (i) : s.Notes (s.startSlot i) (rebuildSlot s.store i).dirty
    fun r => { r with slotsDamaged := r.slotsDamaged + (rebuildSlot s.store i).newly.toNat } :=
  (((State.Notes.of_frame (setSlot_frame s i (rebuildSlot s.store i).slot)).trans (markAll_notes _ (rebuildSlot s.store i).dirty)).trans
    (reporting_notes _ fun r => { r with slotsDamaged := r.slotsDamaged + (rebuildSlot s.store i).newly.toNat })).congr
    (fun n => by simp) fun _ => rfl

theorem startSlot_table (i) : (s.startSlot i).table = { s.table with slots := s.table.slots.set i (rebuildSlot s.store i).slot } :=
  (markAll_frame (s.setSlot i (rebuildSlot s.store i).slot) _).table (by simp)

theorem table_ext {x y : ComponentTable} (slots : ∀ i : Fin 20, x.slots[i] = y.slots[i]) (map : x.map = y.map) : x = y := by
  obtain ⟨xs, xm⟩ := x
  obtain ⟨ys, ym⟩ := y
  obtain rfl : xm = ym := map
  obtain rfl : xs = ys := by
    ext k hk : 1
    exact slots ⟨k, hk⟩
  rfl

/-- The slots as their lines give them, and the lines of a slot that its rebuilding marks dirty (R102). -/
theorem startSlots_spec : (s.startSlots.table = { s.table with slots := tabulate 20 fun i => (rebuildSlot s.store i).slot }) ∧
    s.Notes s.startSlots ((List.finRange 20).flatMap fun i => (rebuildSlot s.store i).dirty)
      fun r => { r with slotsDamaged := r.slotsDamaged + ((List.finRange 20).filter fun i => (rebuildSlot s.store i).newly).length } := by
  obtain ⟨⟨-, map, done⟩, notes⟩ := State.Notes.foldl (F := State.startSlot)
    (P := fun rest t => t.store = s.store ∧ t.table.map = s.table.map ∧
      ∀ i, i ∉ rest → t.table.slots[i] = (rebuildSlot s.store i).slot)
    (L := fun i => (rebuildSlot s.store i).dirty)
    (R := fun i r => { r with slotsDamaged := r.slotsDamaged + (rebuildSlot s.store i).newly.toNat })
    (fun t i rest ⟨store, map, done⟩ => by
      have notes := startSlot_notes t i
      rw [store] at notes
      refine ⟨⟨notes.store.trans store, by rw [startSlot_table, map], fun j out => ?_⟩, notes⟩
      rw [startSlot_table, store]
      by_cases e : j = i
      · subst e; simp
      · have ne : i.val ≠ j.val := fun h => e (Fin.ext h.symm)
        simp only [Fin.getElem_fin, Vector.getElem_set_ne _ _ ne]
        exact done j (by simp [e, out]))
    (List.finRange 20) (s := s) ⟨rfl, rfl, fun i out => absurd (List.mem_finRange i) out⟩
  refine ⟨?_, notes.congr (fun _ => Iff.rfl) fun r => ?_⟩
  · refine table_ext (fun i => ?_) map
    rw [tabulate_get]
    exact done i (by simp)
  · exact foldl_count _ (fun n r => { r with slotsDamaged := n }) (·.slotsDamaged) (fun _ => rfl) (fun _ _ _ => rfl) (fun _ _ => rfl) _ r

/-! ## Step 5: the map (R103) -/

/-- The entry that start-up keeps for a position, over slots as read (R103). -/
def mapped (st : Store) (slots : Vector Slot 20) (p : Position) : Option (Fin 20) :=
  match (storedEntries st)[p.code]? with
  | some (some n) => keepEntry slots p n
  | _ => none

/-- The position's stored entry is cleared (R103). -/
def clearedAt (st : Store) (slots : Vector Slot 20) (p : Position) : Bool :=
  match (storedEntries st)[p.code]? with
  | some (some n) => (keepEntry slots p n).isNone
  | _ => false

theorem startEntry_spec (p) : (s.startEntry p).table = { s.table with map := s.table.map.set p.index (mapped s.store s.table.slots p) } ∧
    s.Notes (s.startEntry p) (if clearedAt s.store s.table.slots p then [5] else [])
      fun r => { r with mapCleared := r.mapCleared + (clearedAt s.store s.table.slots p).toNat } := by
  -- nothing stored: the entry is none
  have nothing (m : mapped s.store s.table.slots p = none) (c : clearedAt s.store s.table.slots p = false)
      (e : s.startEntry p = s.setEntry p none) :
      (s.startEntry p).table = { s.table with map := s.table.map.set p.index (mapped s.store s.table.slots p) } ∧
      s.Notes (s.startEntry p) (if clearedAt s.store s.table.slots p then [5] else [])
        fun r => { r with mapCleared := r.mapCleared + (clearedAt s.store s.table.slots p).toNat } := by
    rw [m, c, e]
    exact ⟨rfl, .of_frame (setEntry_frame s p none)⟩
  rcases stored : (storedEntries s.store)[p.code]? with _ | _ | n
  · exact nothing (by rw [mapped, stored]) (by rw [clearedAt, stored]) (by rw [State.startEntry, stored])
  · exact nothing (by rw [mapped, stored]) (by rw [clearedAt, stored]) (by rw [State.startEntry, stored])
  · cases kept : keepEntry s.table.slots p n with
    | some i =>
      have m : mapped s.store s.table.slots p = some i := by rw [mapped, stored]; exact kept
      have c : clearedAt s.store s.table.slots p = false := by rw [clearedAt, stored]; simp [kept]
      have e : s.startEntry p = s.setEntry p (some i) := by rw [State.startEntry, stored]; simp [kept]
      rw [m, c, e]
      exact ⟨rfl, .of_frame (setEntry_frame s p (some i))⟩
    | none =>
      have m : mapped s.store s.table.slots p = none := by rw [mapped, stored]; exact kept
      have c : clearedAt s.store s.table.slots p = true := by rw [clearedAt, stored]; simp [kept]
      have e : s.startEntry p = ((s.setEntry p none).markDirty 5).reporting fun r => { r with mapCleared := r.mapCleared + 1 } := by
        rw [State.startEntry, stored]; simp [kept]
      rw [m, c, e]
      exact ⟨rfl, ((State.Notes.of_frame (setEntry_frame s p none)).trans (markDirty_notes _ 5)).trans (reporting_notes _ _)⟩

theorem mem_all (p : Position) : p ∈ Position.all := by cases p <;> decide

theorem index_surjective (k : Fin 16) : ∃ p : Position, p.index = k := ⟨Position.at k, by revert k; decide⟩

/-- The map as the stored entries give it (R103). -/
theorem startMap_spec : (s.startMap.table.slots = s.table.slots ∧ ∀ p : Position, s.startMap.table.map[p.index] = mapped s.store s.table.slots p) ∧
    s.Notes s.startMap (Position.all.flatMap fun p => if clearedAt s.store s.table.slots p then [5] else [])
      fun r => { r with mapCleared := r.mapCleared + (Position.all.filter (clearedAt s.store s.table.slots)).length } := by
  obtain ⟨⟨-, slots, done⟩, notes⟩ := State.Notes.foldl (F := State.startEntry)
    (P := fun rest t => t.store = s.store ∧ t.table.slots = s.table.slots ∧
      ∀ p, p ∉ rest → t.table.map[p.index] = mapped s.store s.table.slots p)
    (L := fun p => if clearedAt s.store s.table.slots p then [5] else [])
    (R := fun p r => { r with mapCleared := r.mapCleared + (clearedAt s.store s.table.slots p).toNat })
    (fun t p rest ⟨store, slots, done⟩ => by
      obtain ⟨table, notes⟩ := startEntry_spec t p
      rw [store, slots] at notes table
      refine ⟨⟨notes.store.trans store, by rw [table]; exact slots, fun q out => ?_⟩, notes⟩
      rw [table]
      by_cases e : q = p
      · subst e; simp
      · simp only [Fin.getElem_fin, Vector.getElem_set_ne _ _ (index_val_ne e)]
        exact done q (by simp [e, out]))
    Position.all (s := s) ⟨rfl, rfl, fun p out => absurd (mem_all p) out⟩
  rw [State.startMap]
  refine ⟨⟨slots, fun p => done p (by simp)⟩, notes.congr (fun _ => Iff.rfl) fun r => ?_⟩
  exact foldl_count _ (fun n r => { r with mapCleared := n }) (·.mapCleared) (fun _ => rfl) (fun _ _ _ => rfl) (fun _ _ => rfl) _ r

/-! ## Step 6: slots that no entry names, and the gearbox slot (R103, R174) -/

/-- The slot is FITTED and no entry names it (R103). -/
def ComponentTable.strays (x : ComponentTable) (i : Fin 20) : Bool :=
  decide (x.slots[i].ident.state = .fitted) && !x.map.toList.contains (some i)

/-- A slot after the map is reconciled (R103). -/
def ComponentTable.reconciled (x : ComponentTable) (i : Fin 20) : Slot :=
  if x.strays i then { x.slots[i] with ident := x.slots[i].ident.strayed } else x.slots[i]

theorem startStray_spec (i) : (s.startStray i).table = { s.table with slots := s.table.slots.set i (s.table.reconciled i) } ∧
    s.Notes (s.startStray i) (if s.table.strays i then [identLine i] else [])
      fun r => { r with slotsStray := r.slotsStray + (s.table.strays i).toNat } := by
  have e : s.startStray i = if s.table.strays i then
      ((s.setSlot i { s.table.slots[i] with ident := s.table.slots[i].ident.strayed }).markDirty (identLine i)).reporting
        fun r => { r with slotsStray := r.slotsStray + 1 }
    else s := rfl
  unfold ComponentTable.reconciled
  cases stray : s.table.strays i
  · rw [e, stray]
    refine ⟨?_, .refl s⟩
    rw [if_neg (by decide), if_neg (by decide), show s.table.slots.set i s.table.slots[i] = s.table.slots from Vector.set_getElem_self _]
  · rw [e, stray]
    exact ⟨rfl, ((State.Notes.of_frame (setSlot_frame s i { s.table.slots[i] with ident := s.table.slots[i].ident.strayed })).trans
      (markDirty_notes _ (identLine i))).trans (reporting_notes _ fun r => { r with slotsStray := r.slotsStray + 1 })⟩

/-- Every slot after the map is reconciled (R103). -/
theorem startStrays_spec : ((List.finRange 20).foldl State.startStray s).table = { s.table with slots := tabulate 20 s.table.reconciled } ∧
    s.Notes ((List.finRange 20).foldl State.startStray s)
      ((List.finRange 20).flatMap fun i => if s.table.strays i then [identLine i] else [])
      fun r => { r with slotsStray := r.slotsStray + ((List.finRange 20).filter s.table.strays).length } := by
  have at_ {x y : ComponentTable} {i : Fin 20} (slot : x.slots[i] = y.slots[i]) (map : x.map = y.map) :
      x.strays i = y.strays i ∧ x.reconciled i = y.reconciled i := by
    unfold ComponentTable.reconciled ComponentTable.strays
    rw [slot, map]
    exact ⟨rfl, rfl⟩
  obtain ⟨⟨-, map, -, done⟩, notes⟩ := State.Notes.foldl (F := State.startStray)
    (P := fun rest t => rest.Nodup ∧ t.table.map = s.table.map ∧ (∀ i ∈ rest, t.table.slots[i] = s.table.slots[i]) ∧
      ∀ i, i ∉ rest → t.table.slots[i] = s.table.reconciled i)
    (L := fun i => if s.table.strays i then [identLine i] else [])
    (R := fun i r => { r with slotsStray := r.slotsStray + (s.table.strays i).toNat })
    (fun t i rest ⟨nodup, map, same, done⟩ => by
      obtain ⟨table, notes⟩ := startStray_spec t i
      obtain ⟨strays, reconciled⟩ := at_ (same i (by simp)) map
      rw [strays] at notes
      rw [reconciled] at table
      obtain ⟨out, nodup⟩ := List.nodup_cons.1 nodup
      refine ⟨⟨nodup, by rw [table]; exact map, fun j hj => ?_, fun j hj => ?_⟩, notes⟩
      · have ne : i.val ≠ j.val := fun h => out (Fin.ext h ▸ hj)
        rw [table]
        simp only [Fin.getElem_fin, Vector.getElem_set_ne _ _ ne]
        exact same j (by simp [hj])
      · rw [table]
        by_cases e : j = i
        · subst e; simp
        · have ne : i.val ≠ j.val := fun h => e (Fin.ext h.symm)
          simp only [Fin.getElem_fin, Vector.getElem_set_ne _ _ ne]
          exact done j (by simp [e, hj]))
    (List.finRange 20) (s := s) ⟨List.nodup_finRange 20, rfl, fun _ _ => rfl, fun i out => absurd (List.mem_finRange i) out⟩
  refine ⟨?_, notes.congr (fun _ => Iff.rfl) fun r => ?_⟩
  · refine table_ext (fun i => ?_) map
    rw [tabulate_get]
    exact done i (by simp)
  · exact foldl_count _ (fun n r => { r with slotsStray := n }) (·.slotsStray) (fun _ => rfl) (fun _ _ _ => rfl) (fun _ _ => rfl) _ r

end
end Sys2Proof.Machine
end

section
/-! Start-up, steps 1 to 7: what they keep of the invariants, and the slots and the map they leave (06 R102, R103; 10 R172 to R174). -/
namespace Sys2Proof.Machine

section
variable (s : State)

/-! ## Store, link and counts through the steps -/

theorem reporting_core (f) : s.Core (s.reporting f) := .of_frame (reporting_frame s f)
theorem setSup_core (x : Supervisor) : s.Core { s with sup := x } := .of_frame (bs := [.sup]) (by simp [State.sameExcept])
theorem setSlot_core (i x) : s.Core (s.setSlot i x) := .of_frame (setSlot_frame s i x)
theorem setEntry_core (p x) : s.Core (s.setEntry p x) := .of_frame (setEntry_frame s p x)
theorem setPlace_core (p x) : s.Core (s.setPlace p x) := .of_frame (setPlace_frame s p x)
theorem markIf_core (b : Bool) {n : Nat} (hn : n < 178) : s.Core (s.markIf b n) := (markIf_steady s b hn).core

/-- Step 1 on blank live images: the corrected lines are the only ones queued (R172). -/
theorem startRead_core : s.blank.Core s.blank.startRead := by
  refine ⟨fun ⟨st, _⟩ => ⟨st, ?_⟩, ⟨rfl, rfl, rfl⟩, id⟩
  have lines : s.blank.startRead.ctl.queue.lines = linesWith s.store .corrected := by
    show ([] ++ linesWith s.store .corrected) ++ [] ++ [] = _
    simp
  have idle : s.blank.startRead.ctl.flightLine = none := rfl
  refine ⟨?_, .nil, fun n hn => ?_⟩
  · rw [idle, lines]
    exact List.nodup_range.filter _
  · rcases hn with (hn | hn) | hn
    · rw [lines] at hn
      exact List.mem_range.1 (List.mem_filter.1 hn).1
    · exact nomatch idle.symm.trans hn
    · exact nomatch hn

theorem noteDefaulted_core (b) {n : Nat} (hn : n < 178) : s.Core (s.noteDefaulted n b) :=
  .ite (fun _ => (markDirty_core s hn).trans (reporting_core ..)) (fun _ => .refl s)

theorem startIdentity_core : s.Core s.startIdentity := (setCtl_steady s _).core

theorem startChannels_core : s.Core s.startChannels := by
  refine .trans ?_ (noteDefaulted_core _ _ (by decide))
  exact ⟨id, ⟨rfl, rfl, rfl⟩, fun ⟨a, n, v, _, rest⟩ => ⟨a, n, v, fun i => by simp [Channel.rest], rest⟩⟩

theorem startGears_core : s.Core s.startGears := by
  refine .trans ?_ (noteDefaulted_core _ _ (by decide))
  exact (setDriveline_steady s { s.driveline with table := _ }).core

theorem applySettings_core (x) : s.Core (s.applySettings x) :=
  ⟨fun ⟨st, q⟩ => ⟨st, queueOk_congr (x := s.ctl) rfl rfl rfl q⟩, ⟨rfl, rfl, rfl⟩, id⟩

theorem startSettings_core : s.Core s.startSettings := (applySettings_core s _).trans (noteDefaulted_core _ _ (by decide))

theorem startWeights_core : s.Core s.startWeights := by
  refine .trans ?_ (noteDefaulted_core _ _ (by decide))
  exact ⟨id, ⟨rfl, rfl, rfl⟩, id⟩

theorem startConfig_core : s.Core s.startConfig :=
  .trans (.trans (.trans (.trans (startIdentity_core s) (startChannels_core _)) (startGears_core _)) (startSettings_core _))
    (startWeights_core _)

theorem startMark_core : s.Core s.startMark := by
  refine .trans (.trans ?_ (markIf_core _ _ (by decide))) (reporting_core ..)
  exact setSup_core s _

/-- The lines that rebuilding a slot marks dirty are its own. -/
theorem rebuildSlot_dirty (st : Store) (i : Fin 20) : ∀ n ∈ (rebuildSlot st i).dirty, n < 178 := by
  have own := slotLines_lt i
  have bare : ∀ n ∈ (SlotRebuild.bare st i).dirty, n < 178 := by
    intro n hn
    unfold SlotRebuild.bare at hn
    split at hn
    · exact nomatch hn
    · exact own n hn
  have blanks : ∀ n ∈ notBlank st [scalarLine i, histLine i], n < 178 := fun n hn =>
    own n (by have := (List.mem_filter.1 hn).1; simp only [slotLines, List.mem_cons, List.not_mem_nil, or_false] at this ⊢; tauto)
  have at_ (x p) : ∀ n ∈ (rebuildAt st i x p).dirty, n < 178 := by
    intro n hn
    unfold rebuildAt at hn
    split at hn
    · exact nomatch hn
    · dsimp only at hn
      split at hn
      · exact nomatch hn
      · exact own n hn
  unfold rebuildSlot
  split
  · exact bare
  · unfold rebuildEmpty
    split
    · exact bare
    · exact blanks
  · split
    · exact at_ _ _
    · exact at_ _ _
    · exact fun n hn => nomatch hn

theorem startSlot_core (i) : s.Core (s.startSlot i) := by
  unfold State.startSlot
  exact .trans (.trans (setSlot_core s i _) (markAll_core _ _ (rebuildSlot_dirty s.store i))) (reporting_core ..)

theorem startSlots_core : s.Core s.startSlots := .foldl startSlot_core _ s

theorem startMap_core : s.Core s.startMap := by
  refine .foldl (fun s p => ?_) _ s
  unfold State.startEntry
  (repeat' split) <;> first
    | exact setEntry_core ..
    | exact .trans (.trans (setEntry_core ..) (markDirty_core _ (by decide))) (reporting_core ..)

theorem startStrays_core : s.Core ((List.finRange 20).foldl State.startStray s) :=
  .foldl (fun s i => .ite (fun _ => .trans (.trans (setSlot_core ..) (markDirty_core _ (identLine_lt i))) (reporting_core ..))
    (fun _ => .refl s)) _ s

theorem startGearSlot_steady : s.Steady s.startGearSlot := by
  unfold State.startGearSlot
  split
  · exact .ite (fun _ => .refl s) (fun _ => resizeSlot_steady ..)
  · exact .refl s

theorem startOrphan_core (p) : s.Core (s.startOrphan p) := by
  unfold State.startOrphan
  split
  · exact (setOrphan_steady ..).core
  · exact .trans (.trans (setOrphan_steady ..).core (markDirty_core _ (orphanLine_lt p))) (reporting_core ..)

theorem startGearOrphan_steady : s.Steady s.startGearOrphan :=
  .ite (fun _ => .refl s) (fun _ => (setOrphan_steady ..).trans (markDirty_steady _ (orphanLine_lt _)))

theorem startOrphans_core : s.Core s.startOrphans := .trans (.foldl startOrphan_core _ s) (startGearOrphan_steady _).core

theorem startPlace_core (run p) : s.Core (State.startPlace run s p) := by
  unfold State.startPlace
  split
  · exact setPlace_core ..
  · exact .trans (setPlace_core ..) (markAll_core _ _ fun n hn => placeLines_lt p n (List.mem_filter.1 hn).1)

theorem noteDamaged_core (q) : s.Core (s.noteDamaged q) :=
  .ite (fun _ => (markAll_core _ _ (placeLines_lt _)).trans (reporting_core ..)) (fun _ => .refl s)

theorem recoverOpen_core (q) : s.Core (s.recoverOpen q) := by
  unfold State.recoverOpen
  dsimp only
  split
  · exact .ite (fun _ => .trans (.trans (setPlace_core ..) (markDirty_core _ (headerLine_lt _))) (reporting_core ..)) (fun _ => .refl s)
  · exact .refl s

theorem recoverClosed_core (t h) : s.Core (s.recoverClosed t h) :=
  .ite (fun _ => (openRecord_core _).trans (reporting_core ..))
    (fun _ => .trans (.trans (setPlace_core ..) (markDirty_core _ (headerLine_lt _))) (reporting_core ..))

theorem recoverTop_core (t) : s.Core (s.recoverTop t) := by
  refine .ite (fun _ => (formRecord_core _).trans (reporting_core ..)) (fun _ => ?_)
  split
  · exact .ite (fun _ => recoverClosed_core ..) (fun _ => .refl s)
  · exact .refl s

theorem recoverBook_core (run) : s.Core (s.recoverBook run) := by
  cases run with
  | nil =>
    show s.Core s.recoverEmpty
    unfold State.recoverEmpty State.noteOpening
    exact .trans (.trans (openRecord_core (openedHeader 1 .idle none 0 .cleared none)) (setBook_core ..)) (reporting_core ..)
  | cons t older =>
    refine .trans (.trans (.trans ?_ (.foldl noteDamaged_core older _)) (.foldl recoverOpen_core older _)) (recoverTop_core ..)
    exact setBook_core ..

theorem startBook_core : s.Core s.startBook :=
  .trans (.trans (.foldl (startPlace_core (run := bookRun s.store)) _ s) (recoverBook_core ..)) (markIf_core _ _ (by decide))

theorem startCount_core : s.Core s.startCount := by
  unfold State.startCount
  dsimp only
  split
  · exact .trans (setPlace_core ..) (markDirty_core _ (headerLine_lt _))
  · exact .refl s

/-- Steps 1 to 9 on blank live images. -/
theorem rebuild_core : s.blank.Core s.blank.rebuild :=
  .trans (.trans (.trans (.trans (.trans (.trans (.trans (.trans (startRead_core s) (startConfig_core _)) (startMark_core _))
    (startSlots_core _)) (startMap_core _)) (.trans (startStrays_core _) (startGearSlot_steady _).core)) (startOrphans_core _))
    (startBook_core _)) (startCount_core _)

end

/-! ## The slots agree with the map (R101, R103) -/

theorem keepEntry_iff (slots : Vector Slot 20) (p : Position) (n : Nat) (i : Fin 20) : keepEntry slots p n = some i ↔
    i.val = n ∧ slots[i].ident.state = .fitted ∧ slots[i].ident.position = some p ∧ ∃ k, slots[i].ident.kind = some k ∧ p ∈ k.fits := by
  unfold keepEntry
  split
  · rename_i h
    dsimp only
    have at_ (e : i.val = n) : slots[i] = slots[n] := by simp [e]
    have value : (some ⟨n, h⟩ = some i) ↔ i.val = n := by rw [Option.some.injEq, Fin.ext_iff, eq_comm]
    cases kind : slots[n].ident.kind with
    | none =>
      refine iff_of_false (by simp) fun ⟨e, _, _, k, named, _⟩ => ?_
      rw [at_ e, kind] at named
      exact nomatch named
    | some k =>
      simp only [List.contains_iff_mem, Option.ite_none_right_eq_some, value]
      constructor
      · rintro ⟨⟨fitted, position, fits⟩, e⟩
        rw [at_ e]
        exact ⟨e, fitted, position, k, kind, fits⟩
      · rintro ⟨e, fitted, position, k', named, fits⟩
        rw [at_ e] at fitted position named
        obtain rfl := Option.some.inj (kind.symm.trans named)
        exact ⟨⟨fitted, position, fits⟩, e⟩
  · exact iff_of_false (fun h => nomatch h) fun h => by have := i.isLt; omega

theorem mapped_iff (st : Store) (slots : Vector Slot 20) (p : Position) (i : Fin 20) : mapped st slots p = some i ↔
    (storedEntries st)[p.code]? = some (some i.val) ∧ slots[i].ident.state = .fitted ∧ slots[i].ident.position = some p ∧
    ∃ k, slots[i].ident.kind = some k ∧ p ∈ k.fits := by
  unfold mapped
  split
  · rename_i n stored
    rw [keepEntry_iff, stored, Option.some.injEq, Option.some.injEq, eq_comm]
  · rename_i other
    exact iff_of_false (fun h => nomatch h) fun h => other _ h.1

theorem strays_iff (x : ComponentTable) (i : Fin 20) : x.strays i = true ↔
    x.slots[i].ident.state = .fitted ∧ ∀ p : Position, x.map[p.index] ≠ some i := by
  have named : x.map.toList.contains (some i) = true ↔ ∃ p : Position, x.map[p.index] = some i := by
    rw [List.contains_iff_mem, Vector.mem_toList_iff, Vector.mem_iff_getElem]
    constructor
    · rintro ⟨k, hk, e⟩
      obtain ⟨p, at_⟩ := index_surjective ⟨k, hk⟩
      exact ⟨p, by simpa [at_] using e⟩
    · rintro ⟨p, e⟩
      exact ⟨p.index, p.index.isLt, e⟩
  unfold ComponentTable.strays
  rw [Bool.and_eq_true, decide_eq_true_eq, Bool.not_eq_true', ← Bool.not_eq_true, named]
  simp

theorem reconciled_of_not {x : ComponentTable} {i : Fin 20} (h : x.strays i = false) : x.reconciled i = x.slots[i] := by
  rw [ComponentTable.reconciled, h]
  rfl

theorem reconciled_of {x : ComponentTable} {i : Fin 20} (h : x.strays i = true) :
    x.reconciled i = { x.slots[i] with ident := x.slots[i].ident.strayed } := by rw [ComponentTable.reconciled, if_pos h]

/-- A slot is FITTED after step 6 exactly where it was and an entry names it. -/
theorem reconciled_fitted (x : ComponentTable) (i : Fin 20) : (x.reconciled i).ident.state = .fitted ↔
    x.slots[i].ident.state = .fitted ∧ ∃ p : Position, x.map[p.index] = some i := by
  cases stray : x.strays i
  · rw [reconciled_of_not stray]
    have := (strays_iff x i).not.1 (by simp [stray])
    constructor
    · intro fitted
      refine ⟨fitted, ?_⟩
      by_contra none
      exact this ⟨fitted, fun p e => none ⟨p, e⟩⟩
    · exact And.left
  · rw [reconciled_of stray]
    obtain ⟨-, none⟩ := (strays_iff x i).1 stray
    exact iff_of_false (fun h => nomatch h) fun ⟨_, p, e⟩ => none p e

/-- Kept entries and reconciled slots agree (R101, R103). -/
theorem reconciled_agrees {x : ComponentTable} {st : Store} (map : ∀ p : Position, x.map[p.index] = mapped st x.slots p) :
    ComponentTable.agrees { x with slots := tabulate 20 x.reconciled } := by
  have kept {p : Position} {i : Fin 20} (named : x.map[p.index] = some i) : x.slots[i].ident.state = .fitted ∧
      x.slots[i].ident.position = some p ∧ ∃ k, x.slots[i].ident.kind = some k ∧ p ∈ k.fits :=
    ((mapped_iff st x.slots p i).1 ((map p).symm.trans named)).2
  have unstray {p : Position} {i : Fin 20} (named : x.map[p.index] = some i) : x.reconciled i = x.slots[i] :=
    reconciled_of_not (by rw [← Bool.not_eq_true, strays_iff]; exact fun h => h.2 p named)
  refine ⟨fun p i => ?_, fun i fitted => ?_⟩
  · simp only [tabulate_get]
    constructor
    · intro named
      rw [unstray named]
      exact ⟨(kept named).1, (kept named).2.1⟩
    · rintro ⟨fitted, position⟩
      obtain ⟨-, q, named⟩ := (reconciled_fitted x i).1 fitted
      rw [unstray named, (kept named).2.1] at position
      obtain rfl := Option.some.inj position
      exact named
  · simp only [tabulate_get] at fitted ⊢
    obtain ⟨-, q, named⟩ := (reconciled_fitted x i).1 fitted
    rw [unstray named]
    obtain ⟨-, position, k, kind, fits⟩ := kept named
    exact ⟨q, k, position, kind, fits⟩

end Sys2Proof.Machine
end

section
/-! Start-up, steps 8 and 9: the run of R175, the places of the rebuilt book, and the open record of R176. -/
namespace Sys2Proof.Machine

/-! ## The run of R175 -/

/-- k sequence numbers downward from t. -/
def downFrom (t k : Nat) : List Nat := (List.range k).map (t - ·)

theorem downFrom_succ (t k : Nat) : downFrom (t + 1) (k + 1) = (t + 1) :: downFrom t k := by
  unfold downFrom
  rw [List.range_succ_eq_map, List.map_cons, List.map_map]
  congr 1
  refine List.map_congr_left fun a _ => ?_
  simp only [Function.comp]
  omega

theorem mem_downFrom {t k q : Nat} (room : k ≤ t) : q ∈ downFrom t k ↔ t - k < q ∧ q ≤ t := by
  simp only [downFrom, List.mem_map, List.mem_range]
  constructor
  · rintro ⟨a, ha, rfl⟩
    omega
  · intro h
    exact ⟨t - q, by omega, by omega⟩

theorem downFrom_length (t k : Nat) : (downFrom t k).length = k := by simp [downFrom]

theorem downFrom_take (t k m : Nat) : (downFrom t k).take m = downFrom t (min m k) := by
  rw [downFrom, downFrom, ← List.map_take, List.take_range]

/-- The run downward is consecutive from its top (R175 step 2). -/
theorem runDown_eq (reads : Vector PlaceRead 24) (room t : Nat) : ∃ k, runDown reads room t = downFrom t k ∧ k ≤ room ∧ k ≤ t := by
  induction room generalizing t with
  | zero => exact ⟨0, by cases t <;> rfl, Nat.le_refl _, Nat.zero_le _⟩
  | succ room ih =>
    cases t with
    | zero => exact ⟨0, rfl, Nat.zero_le _, Nat.le_refl _⟩
    | succ t =>
      obtain ⟨k, run, low, high⟩ := ih t
      have longer : ∃ k, (t + 1) :: runDown reads room t = downFrom (t + 1) k ∧ k ≤ room + 1 ∧ k ≤ t + 1 :=
        ⟨k + 1, by rw [run, downFrom_succ], by omega, by omega⟩
      have ends : ∃ k, ([] : List Nat) = downFrom (t + 1) k ∧ k ≤ room + 1 ∧ k ≤ t + 1 := ⟨0, rfl, by omega, by omega⟩
      unfold runDown
      split
      · split
        · exact longer
        · exact ends
      · exact longer
      · exact ends

/-- A record of the run downward has a header place that is damaged or holds its number. -/
theorem runDown_place {reads : Vector PlaceRead 24} {room t q : Nat} (mem : q ∈ runDown reads room t) :
    reads[placeOf q] = .damaged ∨ ∃ h, reads[placeOf q] = .valid h ∧ h.seq = q := by
  induction room generalizing t with
  | zero => cases t <;> exact nomatch mem
  | succ room ih =>
    cases t with
    | zero => exact nomatch mem
    | succ t =>
      unfold runDown at mem
      split at mem
      · split at mem
        · rename_i h valid seq
          rcases List.mem_cons.1 mem with rfl | mem
          · exact .inr ⟨h, valid, seq⟩
          · exact ih mem
        · exact nomatch mem
      · rcases List.mem_cons.1 mem with rfl | mem
        · exact .inl ‹_›
        · exact ih mem
      · exact nomatch mem

theorem filter_downFrom {t k : Nat} (room : k ≤ t) (o : Nat) :
    (downFrom t k).filter (fun q => decide (o ≤ q)) = downFrom t (min k (t + 1 - o)) := by
  unfold downFrom
  rw [List.filter_map, ← range_filter_lt]
  congr 1
  refine List.filter_congr fun a ha => ?_
  have := List.mem_range.1 ha
  simp only [Function.comp, decide_eq_decide]
  omega

/-- A run trimmed at its bottom is consecutive from the same top (R175 step 3). -/
theorem trimRun_downFrom (reads : Vector PlaceRead 24) (bounds : Option (Nat × Nat)) {t k : Nat} (room : k ≤ t) :
    ∃ m, trimRun reads bounds (downFrom t k) = downFrom t m ∧ m ≤ k := by
  unfold trimRun
  split
  · exact ⟨_, filter_downFrom room _, Nat.min_le_left ..⟩
  · have kept := (List.dropWhile_suffix (l := (downFrom t k).reverse) fun q => decide (reads[placeOf q] = .damaged))
    have front := List.prefix_iff_eq_take.1 (List.reverse_prefix.2 kept)
    rw [List.reverse_reverse] at front
    exact ⟨_, front.trans (downFrom_take ..), Nat.min_le_right ..⟩

/-- The number of a valid place is one a record can have (R131). -/
theorem readPlace_valid {st : Store} {p : Fin 24} {h : Header} (valid : readPlace st p = .valid h) :
    (1 ≤ h.seq ∧ h.seq ≤ Config.max32 ∧ placeOf h.seq = p ∧ h.complete = true) ∧ readLine st (headerLine p) = some (.header h) := by
  unfold readPlace at valid
  split at valid
  · exact nomatch valid
  · split at valid
    · obtain rfl := PlaceRead.valid.inj valid
      exact ⟨‹_›, ‹_›⟩
    · exact nomatch valid
  · exact nomatch valid

/-- The places as start-up reads them. -/
def placeReads (st : Store) : Vector PlaceRead 24 := tabulate 24 (readPlace st)

theorem highest_le {st : Store} {n : Nat} (top : highest (placeReads st) = some n) : n ≤ Config.max32 := by
  have reads : ∀ r ∈ (placeReads st).toList, ∀ h, r = .valid h → h.seq ≤ Config.max32 := by
    intro r mem h valid
    obtain ⟨k, hk, rfl⟩ := Vector.mem_iff_getElem.1 (Vector.mem_toList_iff.1 mem)
    rw [placeReads, tabulate_getElem] at valid
    exact (readPlace_valid valid).1.2.1
  unfold highest at top
  revert n
  refine List.foldlRecOn (motive := fun m => ∀ {n}, m = some n → n ≤ Config.max32) _ _ (fun h => by simp at h) fun m start r mem n e => ?_
  split at e
  · exact Option.some.inj e ▸ reads _ mem _ rfl
  · obtain rfl := Option.some.inj e
    exact Nat.max_le.2 ⟨start rfl, reads _ mem _ rfl⟩
  · exact start e

theorem topOf_le {st : Store} {n : Nat} (top : topOf (placeReads st) (usableBounds st) = some n) : n ≤ Config.max32 := by
  have bounds {o m : Nat} (h : usableBounds st = some (o, m)) : m ≤ Config.max32 := by
    unfold usableBounds at h
    split at h
    · split at h
      · rename_i usable
        obtain ⟨-, -, le⟩ := usable
        simp only [Option.some.injEq, Prod.mk.injEq] at h
        exact h.2 ▸ le
      · exact nomatch h
    · exact nomatch h
  unfold topOf at top
  split at top
  · split at top <;> obtain rfl := Option.some.inj top
    · exact bounds ‹_›
    · exact highest_le ‹_›
  · obtain rfl := Option.some.inj top
    exact highest_le ‹_›
  · split at top
    · obtain rfl := Option.some.inj top
      exact bounds ‹_›
    · exact nomatch top
  · exact nomatch top

/-- The run of R175: consecutive numbers, at most 24, from 1 up and none above the maximum, each with a place that is damaged or its own. -/
theorem bookRun_spec (st : Store) : ∃ t k, bookRun st = downFrom t k ∧ k ≤ 24 ∧ k ≤ t ∧ t ≤ Config.max32 ∧
    ∀ q ∈ bookRun st, readPlace st (placeOf q) = .damaged ∨ ∃ h, readPlace st (placeOf q) = .valid h ∧ h.seq = q := by
  unfold bookRun
  dsimp only
  split
  · rename_i t top
    obtain ⟨k, down, room, le⟩ := runDown_eq (placeReads st) 24 t
    obtain ⟨m, trimmed, shorter⟩ := trimRun_downFrom (placeReads st) (usableBounds st) le
    have run : trimRun (placeReads st) (usableBounds st) (runDown (placeReads st) 24 t) = downFrom t m := by rw [down, trimmed]
    refine ⟨t, m, run, by omega, by omega, topOf_le top, fun q mem => ?_⟩
    have inDown : q ∈ runDown (placeReads st) 24 t := by
      rw [down, mem_downFrom le]
      have := (mem_downFrom (k := m) (by omega)).1 (run ▸ mem)
      omega
    have := runDown_place inDown
    rwa [placeReads, tabulate_get] at this
  · exact ⟨0, 0, rfl, by decide, Nat.le_refl _, by decide, fun q mem => nomatch mem⟩

end Sys2Proof.Machine
end

section
/-! Start-up, steps 8 and 9: the places of the rebuilt book, and what each part of the step marks and reports (10 R175, R176). -/
namespace Sys2Proof.Machine

section
variable (s : State)

/-! ## The places as their lines give them (R175) -/

/-- A place as the run and its lines give it (R175). -/
def startedPlace (st : Store) (run : List Nat) (p : Fin 24) : Place :=
  match run.find? fun q => decide (placeOf q = p) with
  | some q => rebuiltPlace st q
  | none => .free

/-- The lines that a place outside the run marks dirty. -/
def outsideLines (st : Store) (run : List Nat) (p : Fin 24) : List Nat :=
  match run.find? fun q => decide (placeOf q = p) with
  | some _ => []
  | none => strayLines st p

theorem startPlace_spec (run p) : (State.startPlace run s p).book = { s.book with places := s.book.places.set p (startedPlace s.store run p) } ∧
    s.Notes (State.startPlace run s p) (outsideLines s.store run p) id := by
  unfold startedPlace outsideLines
  cases found : run.find? fun q => decide (placeOf q = p) with
  | some q =>
    have e : State.startPlace run s p = s.setPlace p (rebuiltPlace s.store q) := by rw [State.startPlace, found]
    rw [e]
    exact ⟨rfl, .of_frame (setPlace_frame ..)⟩
  | none =>
    have e : State.startPlace run s p = (s.setPlace p .free).markAll (strayLines s.store p) := by rw [State.startPlace, found]
    rw [e]
    exact ⟨(markAll_frame ..).book (by simp), (State.Notes.of_frame (setPlace_frame s p .free)).trans (markAll_notes ..)⟩

theorem book_ext {x y : Book} (places : ∀ p : Fin 24, x.places[p] = y.places[p]) (oldest : x.oldest = y.oldest)
    (newest : x.newest = y.newest) : x = y := by
  obtain ⟨xs, xo, xn⟩ := x
  obtain ⟨ys, yo, yn⟩ := y
  obtain rfl : xo = yo := oldest
  obtain rfl : xn = yn := newest
  obtain rfl : xs = ys := by
    ext k hk : 1
    exact places ⟨k, hk⟩
  rfl

/-- The places of the book before its open record is given (R175). -/
theorem startPlaces_spec (run) : ((List.finRange 24).foldl (State.startPlace run) s).book =
      { s.book with places := tabulate 24 (startedPlace s.store run) } ∧
    s.Notes ((List.finRange 24).foldl (State.startPlace run) s) ((List.finRange 24).flatMap (outsideLines s.store run)) id := by
  obtain ⟨⟨-, oldest, newest, done⟩, notes⟩ := State.Notes.foldl (F := State.startPlace run)
    (P := fun rest t => t.store = s.store ∧ t.book.oldest = s.book.oldest ∧ t.book.newest = s.book.newest ∧
      ∀ p, p ∉ rest → t.book.places[p] = startedPlace s.store run p)
    (L := outsideLines s.store run) (R := fun _ => id)
    (fun t p rest ⟨store, oldest, newest, done⟩ => by
      obtain ⟨book, notes⟩ := startPlace_spec t run p
      rw [store] at notes book
      refine ⟨⟨notes.store.trans store, by rw [book]; exact oldest, by rw [book]; exact newest, fun q out => ?_⟩, notes⟩
      rw [book]
      by_cases e : q = p
      · subst e; simp
      · have ne : p.val ≠ q.val := fun h => e (Fin.ext h.symm)
        simp only [Fin.getElem_fin, Vector.getElem_set_ne _ _ ne]
        exact done q (by simp [e, out]))
    (List.finRange 24) (s := s) ⟨rfl, rfl, rfl, fun p out => absurd (List.mem_finRange p) out⟩
  refine ⟨book_ext (fun p => ?_) oldest newest, notes.congr (fun _ => Iff.rfl) fun r => ?_⟩
  · rw [tabulate_get]
    exact done p (by simp)
  · exact List.foldl_fixed' (fun _ => rfl) _

/-! ## The records below the top (R175, R176 rule 1) -/

theorem noteDamaged_notes (q) : s.Notes (s.noteDamaged q) (if newlyDamaged s.store q then placeLines (placeOf q) else [])
    fun r => { r with recordsDamaged := r.recordsDamaged + (newlyDamaged s.store q).toNat } := by
  unfold State.noteDamaged
  cases newlyDamaged s.store q
  · exact .refl s
  · exact ((markAll_notes s (placeLines (placeOf q))).trans (reporting_notes _ fun r => { r with recordsDamaged := r.recordsDamaged + 1 })).congr
      (fun n => by simp) fun _ => rfl

theorem noteDamaged_book (q) : (s.noteDamaged q).book = s.book := by
  unfold State.noteDamaged
  split
  · exact (markAll_frame ..).book (by simp)
  · rfl

/-- The records that become DAMAGED at this start-up (R175). -/
theorem noteDamageds_spec (older : List Nat) : (older.foldl State.noteDamaged s).book = s.book ∧
    s.Notes (older.foldl State.noteDamaged s) (older.flatMap fun q => if newlyDamaged s.store q then placeLines (placeOf q) else [])
      fun r => { r with recordsDamaged := r.recordsDamaged + (older.filter (newlyDamaged s.store)).length } := by
  obtain ⟨⟨-, book⟩, notes⟩ := State.Notes.foldl (F := State.noteDamaged)
    (P := fun _ t => t.store = s.store ∧ t.book = s.book)
    (L := fun q => if newlyDamaged s.store q then placeLines (placeOf q) else [])
    (R := fun q r => { r with recordsDamaged := r.recordsDamaged + (newlyDamaged s.store q).toNat })
    (fun t q rest ⟨store, book⟩ => by
      have notes := noteDamaged_notes t q
      rw [store] at notes
      exact ⟨⟨notes.store.trans store, (noteDamaged_book ..).trans book⟩, notes⟩)
    older (s := s) ⟨rfl, rfl⟩
  exact ⟨book, notes.congr (fun _ => Iff.rfl) fun r => foldl_count _ (fun n r => { r with recordsDamaged := n }) (·.recordsDamaged)
    (fun _ => rfl) (fun _ _ _ => rfl) (fun _ _ => rfl) _ r⟩

/-- The place holds an OPEN record. -/
def Place.opens (x : Place) : Bool := match x.header with
  | some h => decide (h.state = .opened)
  | none => false

/-- The place with its OPEN record closed at recovery (R176 rule 1). -/
def Place.recovered (x : Place) : Place :=
  if x.opens then { x with header := x.header.map fun h => h.close .recovery none } else x

theorem recoverOpen_spec (q) : (s.recoverOpen q).book =
      { s.book with places := s.book.places.set (placeOf q) s.book.places[placeOf q].recovered } ∧
    s.Notes (s.recoverOpen q) (if s.book.places[placeOf q].opens then [headerLine (placeOf q)] else [])
      fun r => { r with recoveryCloses := r.recoveryCloses + s.book.places[placeOf q].opens.toNat } := by
  have kept (e : s.recoverOpen q = s) (closed : s.book.places[placeOf q].opens = false) : (s.recoverOpen q).book =
        { s.book with places := s.book.places.set (placeOf q) s.book.places[placeOf q].recovered } ∧
      s.Notes (s.recoverOpen q) (if s.book.places[placeOf q].opens then [headerLine (placeOf q)] else [])
        fun r => { r with recoveryCloses := r.recoveryCloses + s.book.places[placeOf q].opens.toNat } := by
    rw [e, Place.recovered, closed]
    refine ⟨?_, .refl s⟩
    rw [if_neg (by decide), show s.book.places.set (placeOf q) s.book.places[placeOf q] = s.book.places from Vector.set_getElem_self _]
  cases header : s.book.places[placeOf q].header with
  | none => exact kept (by unfold State.recoverOpen; dsimp only; rw [header]) (by rw [Place.opens, header])
  | some h =>
    by_cases opened : h.state = .opened
    · have opens : s.book.places[placeOf q].opens = true := by rw [Place.opens, header]; simp [opened]
      have e : s.recoverOpen q = ((s.setPlace (placeOf q) { s.book.places[placeOf q] with header := some (h.close .recovery none) }).markDirty
          (headerLine (placeOf q))).reporting fun r => { r with recoveryCloses := r.recoveryCloses + 1 } := by
        unfold State.recoverOpen
        dsimp only
        rw [header]
        exact if_pos opened
      rw [e, Place.recovered, opens, header]
      exact ⟨rfl, ((State.Notes.of_frame (setPlace_frame ..)).trans (markDirty_notes _ (headerLine (placeOf q)))).trans
        (reporting_notes _ fun r => { r with recoveryCloses := r.recoveryCloses + 1 })⟩
    · refine kept ?_ (by rw [Place.opens, header]; simp [opened])
      unfold State.recoverOpen
      dsimp only
      rw [header]
      exact if_neg opened

/-- Records below the top that were OPEN are closed (R176 rule 1). -/
theorem recoverOpens_spec {older : List Nat} (apart : (older.map placeOf).Nodup) :
    ((older.foldl State.recoverOpen s).book = { s.book with
      places := tabulate 24 fun p => if p ∈ older.map placeOf then s.book.places[p].recovered else s.book.places[p] }) ∧
    s.Notes (older.foldl State.recoverOpen s)
      (older.flatMap fun q => if s.book.places[placeOf q].opens then [headerLine (placeOf q)] else [])
      fun r => { r with recoveryCloses := r.recoveryCloses + (older.filter fun q => s.book.places[placeOf q].opens).length } := by
  obtain ⟨⟨-, -, oldest, newest, -, done⟩, notes⟩ := State.Notes.foldl (F := State.recoverOpen)
    (P := fun rest t => (rest.map placeOf).Nodup ∧ (∀ q ∈ rest, q ∈ older) ∧ t.book.oldest = s.book.oldest ∧ t.book.newest = s.book.newest ∧
      (∀ q ∈ rest, t.book.places[placeOf q] = s.book.places[placeOf q]) ∧
      ∀ p, p ∉ rest.map placeOf → t.book.places[p] = if p ∈ older.map placeOf then s.book.places[p].recovered else s.book.places[p])
    (L := fun q => if s.book.places[placeOf q].opens then [headerLine (placeOf q)] else [])
    (R := fun q r => { r with recoveryCloses := r.recoveryCloses + s.book.places[placeOf q].opens.toNat })
    (fun t q rest ⟨apart, within, oldest, newest, same, done⟩ => by
      obtain ⟨book, notes⟩ := recoverOpen_spec t q
      rw [same q (by simp)] at notes book
      obtain ⟨out, apart⟩ := List.nodup_cons.1 apart
      have place (p : Fin 24) : (t.recoverOpen q).book.places[p] = if p = placeOf q then s.book.places[p].recovered else t.book.places[p] := by
        rw [book]
        by_cases e : p = placeOf q
        · subst e; simp
        · have ne : (placeOf q).val ≠ p.val := fun h => e (Fin.ext h.symm)
          simp [e, ne]
      refine ⟨⟨apart, fun r hr => within r (by simp [hr]), by rw [book]; exact oldest, by rw [book]; exact newest, fun r hr => ?_,
        fun p hp => ?_⟩, notes⟩
      · have ne : placeOf r ≠ placeOf q := fun e => out (e ▸ List.mem_map_of_mem hr)
        rw [place, if_neg ne]
        exact same r (by simp [hr])
      · rw [place]
        by_cases e : p = placeOf q
        · subst e
          rw [if_pos rfl, if_pos (List.mem_map_of_mem (within q (by simp)))]
        · rw [if_neg e]
          exact done p (by rw [List.map_cons, List.mem_cons]; exact not_or.2 ⟨e, hp⟩))
    older (s := s) ⟨apart, fun _ h => h, rfl, rfl, fun _ _ => rfl, fun p out => by simp [out]⟩
  refine ⟨book_ext (fun p => ?_) oldest newest, notes.congr (fun _ => Iff.rfl) fun r => ?_⟩
  · rw [tabulate_get]
    exact done p (by simp)
  · exact foldl_count _ (fun n r => { r with recoveryCloses := n }) (·.recoveryCloses) (fun _ => rfl) (fun _ _ _ => rfl) (fun _ _ => rfl) _ r

/-! ## The top (R176 rules 2 to 5) -/

/-- The record opened anew at recovery in the place of number q. -/
def recoveryHeader (q : Nat) : Header := openedHeader q .idle none 0 .recovery none

theorem recoveryHeader_seq (q : Nat) : (recoveryHeader q).seq = q := rfl

theorem noteOpening_book (o) : (s.noteOpening o).book = s.book := rfl

theorem noteOpening_notes (o) : s.Notes (s.noteOpening o) [] (fun r => { r with opening := o }) := reporting_notes ..

theorem formRecord_notes (h : Header) : s.Notes (s.formRecord h) (placeLines (placeOf h.seq)) id :=
  (State.Notes.of_frame (setPlace_frame s (placeOf h.seq) (openedPlace h))).trans (markAll_notes ..)

theorem openRecord_notes (h : Header) : s.Notes (s.openRecord h) (placeLines (placeOf h.seq) ++ [5]) id :=
  ((formRecord_notes s h).trans (.of_frame (setBook_frame ..))).trans (markDirty_notes _ 5) |>.congr (fun n => by simp) fun _ => rfl

/-- Rule 2: a damaged top gives a fresh record in its place (R176). -/
theorem recoverTop_damaged {t : Nat} (damaged : (recordDamaged s.store t || storedDamaged s.store t) = true) :
    (s.recoverTop t).book = { s.book with places := s.book.places.set (placeOf t) (openedPlace (recoveryHeader t)) } ∧
    s.Notes (s.recoverTop t) (placeLines (placeOf t)) (fun r => { r with opening := .reset }) := by
  have e : s.recoverTop t = (s.formRecord (recoveryHeader t)).noteOpening .reset := if_pos damaged
  have notes := (formRecord_notes s (recoveryHeader t)).trans (noteOpening_notes _ .reset)
  rw [recoveryHeader_seq] at notes
  rw [e, noteOpening_book, formRecord_book]
  exact ⟨rfl, notes.congr (fun n => by simp) fun _ => rfl⟩

section
variable {s} {t : Nat} {h : Header} (intact : (recordDamaged s.store t || storedDamaged s.store t) = false)
  (header : s.book.places[placeOf t].header = some h)
include intact header

theorem recoverTop_intact : s.recoverTop t = if h.state = .closed then s.recoverClosed t h else s := by
  unfold State.recoverTop
  rw [intact, if_neg (by decide), header]

/-- An OPEN top stays as it is (R176). -/
theorem recoverTop_opened (opened : h.state ≠ .closed) : s.recoverTop t = s := by
  rw [recoverTop_intact intact header, if_neg opened]

/-- Rule 3: a new record after a CLOSED top (R176). -/
theorem recoverTop_new (closed : h.state = .closed) (room : s.book.canOpen = true) :
    (s.recoverTop t).book = { s.book with
      newest := t + 1, places := s.book.places.set (placeOf (t + 1)) (openedPlace (recoveryHeader (t + 1))) } ∧
    s.Notes (s.recoverTop t) (placeLines (placeOf (t + 1)) ++ [5]) (fun r => { r with opening := .new }) := by
  have e : s.recoverTop t = (s.openRecord (recoveryHeader (t + 1))).noteOpening .new := by
    rw [recoverTop_intact intact header, if_pos closed]
    exact if_pos room
  have notes := (openRecord_notes s (recoveryHeader (t + 1))).trans (noteOpening_notes _ .new)
  rw [recoveryHeader_seq] at notes
  rw [e, noteOpening_book, openRecord_book]
  exact ⟨rfl, notes.congr (fun n => by simp) fun _ => rfl⟩

/-- Rule 4: with the book full a CLOSED top is reopened (R176). -/
theorem recoverTop_reopen (closed : h.state = .closed) (full : s.book.canOpen = false) :
    (s.recoverTop t).book = { s.book with places := s.book.places.set (placeOf t) { s.book.places[placeOf t] with header := some h.reopen } } ∧
    s.Notes (s.recoverTop t) [headerLine (placeOf t)] (fun r => { r with opening := .reopen }) := by
  have e : s.recoverTop t = ((s.setPlace (placeOf t) { s.book.places[placeOf t] with header := some h.reopen }).markDirty
      (headerLine (placeOf t))).noteOpening .reopen := by
    rw [recoverTop_intact intact header, if_pos closed]
    exact if_neg (by rw [full]; decide)
  rw [e]
  exact ⟨rfl, ((State.Notes.of_frame (setPlace_frame ..)).trans (markDirty_notes _ (headerLine (placeOf t)))).trans
    (noteOpening_notes _ .reopen)⟩

end

/-- Rule 5: the book of a fresh part (R176). -/
theorem recoverEmpty_spec : s.recoverEmpty.book = {
      oldest := 1, newest := 1, places := s.book.places.set (placeOf 1) (openedPlace (openedHeader 1 .idle none 0 .cleared none)) } ∧
    s.Notes s.recoverEmpty (placeLines (placeOf 1) ++ [5]) (fun r => { r with opening := .cleared }) := by
  have notes := openRecord_notes s (openedHeader 1 .idle none 0 .cleared none)
  have book := openRecord_book s (openedHeader 1 .idle none 0 .cleared none)
  refine ⟨?_, ((notes.trans (.of_frame (setBook_frame _ _))).trans (noteOpening_notes _ .cleared)).congr
    (fun n => by simp [openedHeader]) fun _ => rfl⟩
  show { (s.openRecord (openedHeader 1 .idle none 0 .cleared none)).book with oldest := 1 } = _
  rw [book]
  rfl

/-! ## Step 9 (R173) -/

/-- The place of the open record with the restart counted (R173). -/
def Place.counted (x : Place) (warned : Bool) : Place :=
  { x with header := x.header.map fun h => { h with info := h.info.map fun i => i.restarted warned } }

theorem startCount_spec : (s.startCount).book = { s.book with
      places := s.book.places.set s.book.openPlace (s.book.places[s.book.openPlace].counted s.sup.report.markFound) } ∧
    s.Notes s.startCount (if s.book.places[s.book.openPlace].header.isSome then [headerLine s.book.openPlace] else []) id := by
  unfold Place.counted
  cases header : s.book.places[s.book.openPlace].header with
  | none =>
    have e : s.startCount = s := by unfold State.startCount; dsimp only; rw [header]
    rw [e]
    refine ⟨?_, .refl s⟩
    have same : ({ s.book.places[s.book.openPlace] with header := none } : Place) = s.book.places[s.book.openPlace] := by rw [← header]
    rw [Option.map_none, same, show s.book.places.set s.book.openPlace s.book.places[s.book.openPlace] = s.book.places from
      Vector.set_getElem_self _]
  | some h =>
    have e : s.startCount = (s.setPlace s.book.openPlace { s.book.places[s.book.openPlace] with
        header := some { h with info := h.info.map fun i => i.restarted s.sup.report.markFound } }).markDirty
        (headerLine s.book.openPlace) := by
      unfold State.startCount; dsimp only; rw [header]
    rw [e]
    exact ⟨rfl, (State.Notes.of_frame (setPlace_frame ..)).trans (markDirty_notes _ (headerLine s.book.openPlace))⟩

end
end Sys2Proof.Machine
end

section
/-! The rebuilt book: step 8 of start-up put together, and that its records are consecutive (08 R130; 10 R175, R176). -/
namespace Sys2Proof.Machine

/-! ## The records of the run -/

section
variable {st : Store} {t : Nat} {older : List Nat}

/-- The numbers of a run with a top. -/
theorem run_numbers (run : bookRun st = t :: older) : older.length < 24 ∧ older.length < t ∧ t ≤ Config.max32 ∧
    (∀ q, q ∈ older ↔ t - older.length ≤ q ∧ q < t) := by
  obtain ⟨t', k, down, room, le, top, -⟩ := bookRun_spec st
  rw [run] at down
  cases k with
  | zero => exact nomatch down
  | succ k =>
    cases t' with
    | zero => omega
    | succ u =>
      rw [downFrom_succ] at down
      obtain ⟨rfl, rfl⟩ := List.cons.inj down
      have room' : k ≤ u := by omega
      rw [downFrom_length]
      refine ⟨by omega, by omega, top, fun q => ?_⟩
      rw [mem_downFrom room']
      omega

theorem placeOf_inj {a b : Nat} (near : a ≤ b ∧ b < a + 24) (h : placeOf a = placeOf b) : a = b := by
  rw [placeOf_eq_iff] at h
  omega

theorem run_mem (run : bookRun st = t :: older) (q : Nat) : q ∈ bookRun st ↔ t - older.length ≤ q ∧ q ≤ t := by
  obtain ⟨short, low, -, mem⟩ := run_numbers run
  rw [run, List.mem_cons, mem]
  omega

/-- The places of a run are apart. -/
theorem run_apart (run : bookRun st = t :: older) {a b : Nat} (ha : a ∈ bookRun st) (hb : b ∈ bookRun st) (h : placeOf a = placeOf b) :
    a = b := by
  obtain ⟨short, low, -, -⟩ := run_numbers run
  rw [run_mem run] at ha hb
  rcases Nat.le_total a b with le | le
  · exact placeOf_inj ⟨le, by omega⟩ h
  · exact (placeOf_inj ⟨le, by omega⟩ h.symm).symm

theorem older_apart (run : bookRun st = t :: older) : (older.map placeOf).Nodup := by
  have nodup : older.Nodup := by
    obtain ⟨t', k, down, -, le, -⟩ := bookRun_spec st
    have all : (downFrom t' k).Nodup := by
      refine List.Nodup.map_on (fun a ha b hb e => ?_) List.nodup_range
      have := List.mem_range.1 ha
      have := List.mem_range.1 hb
      omega
    rw [← down, run] at all
    exact (List.nodup_cons.1 all).2
  refine List.Nodup.map_on (fun a ha b hb e => ?_) nodup
  exact run_apart run (by rw [run]; simp [ha]) (by rw [run]; simp [hb]) e

/-- The place of a number of the run. -/
theorem startedPlace_of_mem (run : bookRun st = t :: older) {q : Nat} (mem : q ∈ bookRun st) :
    startedPlace st (bookRun st) (placeOf q) = rebuiltPlace st q := by
  unfold startedPlace
  split
  · rename_i r found
    have same : placeOf r = placeOf q := by simpa using List.find?_some found
    rw [run_apart run (List.mem_of_find?_eq_some found) mem same]
  · rename_i none
    have := List.find?_eq_none.1 none q mem
    simp at this

theorem startedPlace_of_not {run : List Nat} {p : Fin 24} (out : ∀ q ∈ run, placeOf q ≠ p) : startedPlace st run p = .free := by
  unfold startedPlace
  split
  · rename_i q found
    exact absurd (by simpa using List.find?_some found) (out q (List.mem_of_find?_eq_some found))
  · rfl

/-- The place of a record below the top, or at it, before the open record is given. -/
def settledPlace (st : Store) (older : List Nat) (p : Fin 24) : Place :=
  if p ∈ older.map placeOf then (startedPlace st (bookRun st) p).recovered else startedPlace st (bookRun st) p

theorem settledPlace_older (run : bookRun st = t :: older) {q : Nat} (mem : q ∈ older) :
    settledPlace st older (placeOf q) = (rebuiltPlace st q).recovered := by
  rw [settledPlace, if_pos (List.mem_map_of_mem mem), startedPlace_of_mem run (by rw [run]; simp [mem])]

theorem settledPlace_top (run : bookRun st = t :: older) : settledPlace st older (placeOf t) = rebuiltPlace st t := by
  have out : placeOf t ∉ older.map placeOf := by
    intro h
    obtain ⟨q, mem, e⟩ := List.mem_map.1 h
    have := run_apart run (by rw [run]; simp [mem]) (by rw [run]; simp) e
    have := ((run_numbers run).2.2.2 q).1 mem
    omega
  rw [settledPlace, if_neg out, startedPlace_of_mem run (by rw [run]; simp)]

theorem settledPlace_outside (run : bookRun st = t :: older) {p : Fin 24} (out : ∀ q ∈ bookRun st, placeOf q ≠ p) :
    settledPlace st older p = .free := by
  have away : p ∉ older.map placeOf := by
    intro h
    obtain ⟨q, mem, e⟩ := List.mem_map.1 h
    exact out q (by rw [run]; simp [mem]) e
  rw [settledPlace, if_neg away, startedPlace_of_not out]

end

section
variable (s : State)

/-- The book before its open record is given. -/
def settledBook (st : Store) (t : Nat) (older : List Nat) : Book :=
  { places := tabulate 24 (settledPlace st older), oldest := t - older.length, newest := t }

/-- The lines that are marked dirty before the open record is given. -/
def settledLines (st : Store) (older : List Nat) : List Nat :=
  (List.finRange 24).flatMap (outsideLines st (bookRun st)) ++
  (older.flatMap fun q => if newlyDamaged st q then placeLines (placeOf q) else []) ++
  older.flatMap fun q => if (rebuiltPlace st q).opens then [headerLine (placeOf q)] else []

/-- What is reported before the open record is given. -/
def settledReport (st : Store) (older : List Nat) (r : StartReport) : StartReport :=
  { r with recordsDamaged := r.recordsDamaged + (older.filter (newlyDamaged st)).length
           recoveryCloses := r.recoveryCloses + (older.filter fun q => (rebuiltPlace st q).opens).length }

/-- The state with every place formed (R175). -/
def State.placed : State := (List.finRange 24).foldl (State.startPlace (bookRun s.store)) s

/-- The state with the book's bounds at the run from t downward (R175). -/
def State.bounded (t : Nat) (older : List Nat) : State :=
  { s.placed with book := { s.placed.book with newest := t, oldest := t - older.length } }

/-- Step 8 where a run can be formed: a book settled below its top, then the top (R175, R176). -/
theorem startBook_of_run {t : Nat} {older : List Nat} (run : bookRun s.store = t :: older) :
    ∃ u, s.startBook = (u.recoverTop t).startBounds ∧ u.book = settledBook s.store t older ∧
      s.Notes u (settledLines s.store older) (settledReport s.store older) := by
  obtain ⟨book₁, notes₁⟩ := startPlaces_spec s (bookRun s.store)
  have store₁ : (s.bounded t older).store = s.store := notes₁.store
  obtain ⟨book₂, notes₂⟩ := noteDamageds_spec (s.bounded t older) older
  generalize noted_eq : older.foldl State.noteDamaged (s.bounded t older) = noted at book₂ notes₂
  have book : noted.book = { places := tabulate 24 (startedPlace s.store (bookRun s.store)), oldest := t - older.length, newest := t } := by
    refine book₂.trans ?_
    show { s.placed.book with newest := t, oldest := t - older.length } = _
    rw [show s.placed.book = _ from book₁]
  obtain ⟨book₃, notes₃⟩ := recoverOpens_spec noted (older_apart run)
  have opens : ∀ q ∈ older, noted.book.places[placeOf q].opens = (rebuiltPlace s.store q).opens := by
    intro q mem
    rw [book, tabulate_get, startedPlace_of_mem run (by rw [run]; simp [mem])]
  refine ⟨older.foldl State.recoverOpen noted, ?_, ?_, ?_⟩
  · rw [← noted_eq]
    show (s.placed.recoverBook (bookRun s.store)).startBounds = _
    rw [run]
    rfl
  · rw [book₃, book]
    refine book_ext (fun p => ?_) rfl rfl
    simp only [settledBook, tabulate_get, settledPlace]
  · have filtered : (older.filter fun q => noted.book.places[placeOf q].opens) = older.filter fun q => (rebuiltPlace s.store q).opens :=
      List.filter_congr opens
    have lines : (older.flatMap fun q => if noted.book.places[placeOf q].opens then [headerLine (placeOf q)] else []) =
        older.flatMap fun q => if (rebuiltPlace s.store q).opens then [headerLine (placeOf q)] else [] :=
      List.flatMap_congr fun q mem => by rw [opens q mem]
    rw [filtered, lines] at notes₃
    rw [store₁] at notes₂
    have all := ((notes₁.trans (.of_frame (setBook_frame s.placed _))).trans notes₂).trans notes₃
    exact all.congr (fun n => by simp [settledLines]) fun _ => rfl

end
end Sys2Proof.Machine
end

section
/-! Steps 1 to 9 keep the invariants: the rebuilt book is consecutive (R130), the rebuilt slots agree with the map (R101). -/
namespace Sys2Proof.Machine

/-! ## The book -/

/-- The Period Book as R130 has it, once its lines have been read. -/
def Book.Consecutive (b : Book) : Prop :=
  1 ≤ b.oldest ∧ b.oldest ≤ b.newest ∧ b.newest ≤ Config.max32 ∧ b.newest < b.oldest + Config.bookCapacity ∧
  (∀ q, b.oldest ≤ q → q ≤ b.newest → ∃ h, b.places[placeOf q].header = some h ∧ h.seq = q ∧
    (h.state = .opened ↔ q = b.newest) ∧ (h.state ≠ .damaged → h.info ≠ none)) ∧
  ∀ p : Fin 24, (∀ q, b.oldest ≤ q → q ≤ b.newest → placeOf q ≠ p) → b.places[p].header = none

theorem bookOk_of_consecutive {s : State} (book : s.book.Consecutive) (read : s.sup.unread = false) : s.bookOk :=
  ⟨fun u => absurd (read.symm.trans u) (by decide), fun _ => book⟩

/-- The header of a record of the run (R131, R175). -/
theorem rebuiltHeader_spec {st : Store} {q : Nat} (mem : q ∈ bookRun st) :
    (rebuiltHeader st q).seq = q ∧ ((rebuiltHeader st q).state ≠ .damaged → (rebuiltHeader st q).info ≠ none) := by
  obtain ⟨-, -, -, -, -, -, places⟩ := bookRun_spec st
  unfold rebuiltHeader storedHeader
  rcases places q mem with damaged | ⟨h, valid, seq⟩
  · rw [damaged]
    exact ⟨rfl, fun h => absurd rfl h⟩
  · obtain ⟨⟨-, -, -, complete⟩, -⟩ := readPlace_valid valid
    rw [valid]
    dsimp only
    split
    · exact ⟨seq, fun h => absurd rfl h⟩
    · refine ⟨seq, fun state => ?_⟩
      simp only [Header.complete, Bool.or_eq_true, decide_eq_true_eq, state, false_or] at complete
      exact Option.isSome_iff_ne_none.1 complete

/-- A record that is neither damaged nor was stored so keeps its header, which is not DAMAGED (R175). -/
theorem rebuiltHeader_intact {st : Store} {q : Nat} (intact : (recordDamaged st q || storedDamaged st q) = false) :
    storedHeader st q = some (rebuiltHeader st q) ∧ (rebuiltHeader st q).state ≠ .damaged := by
  rw [Bool.or_eq_false_iff] at intact
  obtain ⟨whole, stored⟩ := intact
  unfold rebuiltHeader
  unfold storedDamaged at stored
  cases header : storedHeader st q with
  | none =>
    unfold recordDamaged at whole
    rw [header] at whole
    exact nomatch whole
  | some h =>
    rw [header] at stored
    dsimp only at stored ⊢
    rw [whole, if_neg (by decide)]
    exact ⟨rfl, of_decide_eq_false stored⟩

theorem recovered_header {x : Place} {h : Header} (header : x.header = some h) : ∃ h', x.recovered.header = some h' ∧ h'.seq = h.seq ∧
    h'.state ≠ .opened ∧ (h'.state ≠ .damaged → h.state ≠ .damaged ∧ h'.info = h.info) := by
  unfold Place.recovered Place.opens
  rw [header]
  by_cases opened : h.state = .opened
  · refine ⟨h.close .recovery none, by simp [opened], rfl, by simp [Header.close], fun _ => ⟨by rw [opened]; decide, rfl⟩⟩
  · exact ⟨h, by simp [opened, header], rfl, opened, fun d => ⟨d, rfl⟩⟩

/-- The book that R176 leaves is consecutive once its top is OPEN: what the top's rule must give. -/
theorem consecutive_of_settled {st : Store} {t : Nat} {older : List Nat} (run : bookRun st = t :: older) {x : Place} {h : Header}
    (header : x.header = some h) (seq : h.seq = t) (opened : h.state = .opened) (info : h.info ≠ none) :
    Book.Consecutive { settledBook st t older with places := (settledBook st t older).places.set (placeOf t) x } := by
  obtain ⟨short, low, top, mem⟩ := run_numbers run
  unfold Book.Consecutive Config.bookCapacity
  simp only [settledBook]
  refine ⟨by omega, by omega, top, by omega, fun q from_ to_ => ?_, fun p out => ?_⟩
  · by_cases e : q = t
    · subst e
      exact ⟨h, by simpa using header, seq, iff_of_true opened rfl, fun _ => info⟩
    · have inOlder : q ∈ older := (mem q).2 (by omega)
      have inRun : q ∈ bookRun st := by rw [run]; simp [inOlder]
      have ne : (placeOf t).val ≠ (placeOf q).val := fun k => e (run_apart run inRun (by rw [run]; simp) (Fin.ext k.symm))
      simp only [Fin.getElem_fin, Vector.getElem_set_ne _ _ ne]
      rw [← Fin.getElem_fin, tabulate_get, settledPlace_older run inOlder]
      obtain ⟨own, fields⟩ := rebuiltHeader_spec inRun
      obtain ⟨h', at_, seq', closed, kept⟩ := recovered_header (x := rebuiltPlace st q) rfl
      refine ⟨h', at_, seq'.trans own, iff_of_false closed e, fun d => ?_⟩
      obtain ⟨whole, same⟩ := kept d
      rw [same]
      exact fields whole
  · have away : ∀ q ∈ bookRun st, placeOf q ≠ p := fun q inRun => by
      obtain ⟨a, b⟩ := (run_mem run q).1 inRun
      exact out q a b
    have ne : (placeOf t).val ≠ p.val := fun k => away t (by rw [run]; simp) (Fin.ext k)
    simp only [Fin.getElem_fin, Vector.getElem_set_ne _ _ ne]
    rw [← Fin.getElem_fin, tabulate_get, settledPlace_outside run away]
    rfl

/-- A new record after a settled book whose top is not OPEN (R176 rule 3). -/
theorem consecutive_of_new {st : Store} {t : Nat} {older : List Nat} (run : bookRun st = t :: older) {h h' : Header} {x : Place}
    (top : (rebuiltPlace st t).header = some h) (closed : h.state ≠ .opened) (header : x.header = some h') (seq : h'.seq = t + 1)
    (opened : h'.state = .opened) (info : h'.info ≠ none) (room : older.length + 1 < 24) (below : t < Config.max32) :
    Book.Consecutive { settledBook st t older with
      newest := t + 1, places := (settledBook st t older).places.set (placeOf (t + 1)) x } := by
  obtain ⟨-, low, -, mem⟩ := run_numbers run
  unfold Book.Consecutive Config.bookCapacity
  simp only [settledBook]
  refine ⟨by omega, by omega, below, by omega, fun q from_ to_ => ?_, fun p out => ?_⟩
  · by_cases new : q = t + 1
    · subst new
      exact ⟨h', by simpa using header, seq, iff_of_true opened rfl, fun _ => info⟩
    · have ne : (placeOf (t + 1)).val ≠ (placeOf q).val := placeOf_ne (by omega)
      simp only [Fin.getElem_fin, Vector.getElem_set_ne _ _ ne]
      rw [← Fin.getElem_fin, tabulate_get]
      by_cases e : q = t
      · subst e
        obtain ⟨own, fields⟩ := rebuiltHeader_spec (st := st) (q := q) (by rw [run]; simp)
        obtain rfl : rebuiltHeader st q = h := Option.some.inj top
        exact ⟨_, by rw [settledPlace_top run]; exact top, own, iff_of_false closed (by omega), fields⟩
      · have inOlder : q ∈ older := (mem q).2 (by omega)
        rw [settledPlace_older run inOlder]
        obtain ⟨own, fields⟩ := rebuiltHeader_spec (st := st) (q := q) (by rw [run]; simp [inOlder])
        obtain ⟨h'', at_, seq', closed', kept⟩ := recovered_header (x := rebuiltPlace st q) rfl
        refine ⟨h'', at_, seq'.trans own, iff_of_false closed' new, fun d => ?_⟩
        obtain ⟨whole, same⟩ := kept d
        rw [same]
        exact fields whole
  · have away : ∀ q ∈ bookRun st, placeOf q ≠ p := fun q inRun => by
      obtain ⟨a, b⟩ := (run_mem run q).1 inRun
      exact out q a (by omega)
    have ne : (placeOf (t + 1)).val ≠ p.val := fun k => out (t + 1) (by omega) (Nat.le_refl _) (Fin.ext k)
    simp only [Fin.getElem_fin, Vector.getElem_set_ne _ _ ne]
    rw [← Fin.getElem_fin, tabulate_get, settledPlace_outside run away]
    rfl

section
variable (s : State)

theorem canOpen_settled {t : Nat} {older : List Nat} {st : Store} (run : bookRun st = t :: older) :
    (settledBook st t older).canOpen = true ↔ older.length + 1 < 24 ∧ t < Config.max32 := by
  obtain ⟨-, low, -, -⟩ := run_numbers run
  rw [canOpen_iff]
  unfold settledBook Book.count Config.max32
  dsimp only
  omega

/-- The book at the end of step 8 is consecutive (R130, R175, R176). -/
theorem startBook_consecutive : s.startBook.book.Consecutive := by
  have bounds (u : State) : u.startBounds.book = u.book := (startBounds_frame u).book (by simp)
  cases run : bookRun s.store with
  | nil =>
    obtain ⟨book₁, -⟩ := startPlaces_spec s (bookRun s.store)
    have e : s.startBook = s.placed.recoverEmpty.startBounds := by
      show (s.placed.recoverBook (bookRun s.store)).startBounds = _
      rw [run]
      rfl
    rw [e, bounds, (recoverEmpty_spec s.placed).1, show s.placed.book = _ from book₁]
    unfold Book.Consecutive
    refine ⟨Nat.le_refl _, Nat.le_refl _, (by decide : 1 ≤ Config.max32), (by decide : 1 < 1 + Config.bookCapacity), fun q low high => ?_, fun p out => ?_⟩
    · obtain rfl : q = 1 := Nat.le_antisymm high low
      exact ⟨openedHeader 1 .idle none 0 .cleared none, by simp [openedPlace], rfl, iff_of_true rfl rfl, fun _ h => nomatch h⟩
    · have ne : (placeOf 1).val ≠ p.val := fun k => out 1 (Nat.le_refl _) (Nat.le_refl _) (Fin.ext k)
      simp only [Fin.getElem_fin, Vector.getElem_set_ne _ _ ne]
      rw [← Fin.getElem_fin, tabulate_get, startedPlace_of_not (by rw [run]; exact fun q h => nomatch h)]
      rfl
  | cons t older =>
    obtain ⟨u, e, book, notes⟩ := startBook_of_run s run
    have top : u.book.places[placeOf t] = rebuiltPlace s.store t := by
      rw [book, settledBook, tabulate_get, settledPlace_top run]
    rw [e, bounds]
    cases damaged : recordDamaged u.store t || storedDamaged u.store t with
    | true =>
      rw [(recoverTop_damaged u damaged).1, book]
      exact consecutive_of_settled run (x := openedPlace (recoveryHeader t)) rfl rfl rfl (fun h => nomatch h)
    | false =>
      have header : u.book.places[placeOf t].header = some (rebuiltHeader s.store t) := by rw [top]; rfl
      obtain ⟨own, fields⟩ := rebuiltHeader_spec (st := s.store) (q := t) (by rw [run]; simp)
      have intact := rebuiltHeader_intact (notes.store ▸ damaged)
      by_cases closed : (rebuiltHeader s.store t).state = .closed
      · cases room : u.book.canOpen with
        | true =>
          rw [(recoverTop_new damaged header closed room).1, book]
          obtain ⟨few, below⟩ := (canOpen_settled run).1 (book ▸ room)
          exact consecutive_of_new run rfl (by rw [closed]; decide) (x := openedPlace (recoveryHeader (t + 1))) rfl rfl rfl
            (fun h => nomatch h) few below
        | false =>
          rw [(recoverTop_reopen damaged header closed room).1, top, book]
          exact consecutive_of_settled run (x := { rebuiltPlace s.store t with header := some (rebuiltHeader s.store t).reopen }) rfl own
            rfl (fields intact.2)
      · rw [recoverTop_opened damaged header closed, book]
        have opened : (rebuiltHeader s.store t).state = .opened := by
          have := intact.2
          cases state : (rebuiltHeader s.store t).state <;> simp_all
        have same : (settledBook s.store t older).places.set (placeOf t) (rebuiltPlace s.store t) = (settledBook s.store t older).places := by
          rw [← settledPlace_top run, ← tabulate_get 24 (settledPlace s.store older) (placeOf t)]
          exact Vector.set_getElem_self _
        have := consecutive_of_settled run (x := rebuiltPlace s.store t) rfl own opened (fields intact.2)
        rwa [same] at this

/-- A place whose record keeps its standing. -/
theorem setPlace_consecutive (p x) (same : x.header.map Header.standing = s.book.places[p].header.map Header.standing) :
    s.book.Consecutive → (s.setPlace p x).book.Consecutive := fun ok =>
  ((setPlace_steady s.setRead p x same).book (bookOk_of_consecutive ok rfl)).2 rfl

theorem startCount_consecutive (ok : s.book.Consecutive) : s.startCount.book.Consecutive := by
  rw [(startCount_spec s).1]
  refine setPlace_consecutive s s.book.openPlace _ ?_ ok
  unfold Place.counted
  cases s.book.places[s.book.openPlace].header with
  | none => rfl
  | some h => simp [Header.standing]

/-! ## What each step leaves unchanged -/

/-- What step 2 can change. -/
abbrev configBlocks : List Block := [.channels, .lines, .run, .driveline, .tally, .ctl, .sup, .link]

theorem noteDefaulted_frame_config (n b) : s.sameExcept (s.noteDefaulted n b) configBlocks := (noteDefaulted_frame ..).mono (by simp)
theorem startChannels_frame_config : s.sameExcept s.startChannels configBlocks := by
  refine .trans ?_ (noteDefaulted_frame_config ..)
  simp [State.sameExcept]
theorem startGears_frame_config : s.sameExcept s.startGears configBlocks := by
  refine .trans ?_ (noteDefaulted_frame_config ..)
  simp [State.sameExcept]
theorem startSettings_frame_config : s.sameExcept s.startSettings configBlocks := by
  refine .trans ?_ (noteDefaulted_frame_config ..)
  simp [State.sameExcept, State.applySettings]
theorem startWeights_frame_config : s.sameExcept s.startWeights configBlocks := by
  refine .trans ?_ (noteDefaulted_frame_config ..)
  simp [State.sameExcept]
theorem startConfig_frame_config : s.sameExcept s.startConfig configBlocks :=
  .trans (.trans (.trans (.trans ((startIdentity_frame s).mono (by simp)) (startChannels_frame_config _)) (startGears_frame_config _))
    (startSettings_frame_config _)) (startWeights_frame_config _)

theorem startMark_frame_ctl : s.sameExcept s.startMark [.ctl, .sup] :=
  .trans (.trans ((setSup_frame s _).mono (by simp)) ((markIf_frame ..).mono (by simp))) ((reporting_frame ..).mono (by simp))

/-- What steps 4 to 6 can change. -/
abbrev tableBlocks : List Block := [.table, .ctl, .sup]

theorem startSlot_frame_table (i) : s.sameExcept (s.startSlot i) tableBlocks :=
  .trans (.trans ((setSlot_frame ..).mono (by simp)) ((markAll_frame ..).mono (by simp))) ((reporting_frame ..).mono (by simp))
theorem startSlots_frame_table : s.sameExcept s.startSlots tableBlocks := .foldl startSlot_frame_table _ s
theorem startEntry_frame_table (p) : s.sameExcept (s.startEntry p) tableBlocks := by
  unfold State.startEntry
  (repeat' split) <;> first
    | exact (setEntry_frame ..).mono (by simp)
    | exact .trans (.trans ((setEntry_frame ..).mono (by simp)) ((markDirty_frame ..).mono (by simp)))
        ((reporting_frame ..).mono (by simp))
theorem startMap_frame_table : s.sameExcept s.startMap tableBlocks := .foldl startEntry_frame_table _ s
theorem startStray_frame_table (i) : s.sameExcept (s.startStray i) tableBlocks :=
  .ite (fun _ => .trans (.trans ((setSlot_frame ..).mono (by simp)) ((markDirty_frame ..).mono (by simp)))
    ((reporting_frame ..).mono (by simp))) (fun _ => .refl _ _)
theorem startStrays_frame_table : s.sameExcept ((List.finRange 20).foldl State.startStray s) tableBlocks :=
  .foldl startStray_frame_table _ s

theorem startGearSlot_frame_table : s.sameExcept s.startGearSlot tableBlocks := by
  unfold State.startGearSlot
  split
  · exact .ite (fun _ => .refl _ _) (fun _ => (resizeSlot_frame ..).mono (by simp))
  · exact .refl _ _

theorem startReconcile_frame_table : s.sameExcept s.startReconcile tableBlocks :=
  (startStrays_frame_table s).trans (startGearSlot_frame_table _)

/-- What step 7 can change. -/
abbrev orphanBlocks : List Block := [.tally, .ctl, .sup]

theorem startOrphan_frame_tally (p) : s.sameExcept (s.startOrphan p) orphanBlocks := by
  unfold State.startOrphan
  split
  · exact (setOrphan_frame ..).mono (by simp)
  · exact .trans (.trans ((setOrphan_frame ..).mono (by simp)) ((markDirty_frame ..).mono (by simp)))
      ((reporting_frame ..).mono (by simp))
theorem startGearOrphan_frame_tally : s.sameExcept s.startGearOrphan orphanBlocks :=
  .ite (fun _ => .refl _ _) (fun _ => .trans ((setOrphan_frame ..).mono (by simp)) ((markDirty_frame ..).mono (by simp)))
theorem startOrphans_frame_tally : s.sameExcept s.startOrphans orphanBlocks :=
  .trans (.foldl startOrphan_frame_tally _ s) (startGearOrphan_frame_tally _)

/-- What step 8 can change. -/
abbrev bookBlocks : List Block := [.book, .ctl, .sup]

theorem startPlace_frame_book (run p) : s.sameExcept (State.startPlace run s p) bookBlocks := by
  unfold State.startPlace
  split
  · exact (setPlace_frame ..).mono (by simp)
  · exact .trans ((setPlace_frame ..).mono (by simp)) ((markAll_frame ..).mono (by simp))
theorem noteDamaged_frame_book (q) : s.sameExcept (s.noteDamaged q) bookBlocks :=
  .ite (fun _ => .trans ((markAll_frame ..).mono (by simp)) ((reporting_frame ..).mono (by simp))) (fun _ => .refl _ _)
theorem recoverOpen_frame_book (q) : s.sameExcept (s.recoverOpen q) bookBlocks := by
  simp only [State.recoverOpen]
  (repeat' split) <;> first
    | exact .refl _ _
    | exact .trans (.trans ((setPlace_frame ..).mono (by simp)) ((markDirty_frame ..).mono (by simp)))
        ((reporting_frame ..).mono (by simp))
theorem recoverClosed_frame_book (t h) : s.sameExcept (s.recoverClosed t h) bookBlocks :=
  .ite (fun _ => .trans ((openRecord_frame ..).mono (by simp)) ((noteOpening_frame ..).mono (by simp)))
    (fun _ => .trans (.trans ((setPlace_frame ..).mono (by simp)) ((markDirty_frame ..).mono (by simp)))
      ((noteOpening_frame ..).mono (by simp)))
theorem recoverTop_frame_book (t) : s.sameExcept (s.recoverTop t) bookBlocks := by
  unfold State.recoverTop
  refine .ite (fun _ => .trans ((formRecord_frame ..).mono (by simp)) ((noteOpening_frame ..).mono (by simp))) (fun _ => ?_)
  split
  · exact .ite (fun _ => recoverClosed_frame_book ..) (fun _ => .refl _ _)
  · exact .refl _ _
theorem recoverBook_frame_book (run) : s.sameExcept (s.recoverBook run) bookBlocks := by
  cases run with
  | nil =>
    exact .trans (.trans ((openRecord_frame s (openedHeader 1 .idle none 0 .cleared none)).mono (by simp))
      ((setBook_frame _ _).mono (by simp))) ((noteOpening_frame ..).mono (by simp))
  | cons t older =>
    exact .trans (.trans (.trans ((setBook_frame s _).mono (by simp)) (.foldl noteDamaged_frame_book older _))
      (.foldl recoverOpen_frame_book older _)) (recoverTop_frame_book ..)
theorem startBook_frame_book : s.sameExcept s.startBook bookBlocks :=
  .trans (.trans (.foldl (startPlace_frame_book (run := bookRun s.store)) (List.finRange 24) s) (recoverBook_frame_book ..))
    ((startBounds_frame _).mono (by simp))

/-! ## The slots and the map -/

/-- The slots agree with the map after steps 4 to 6 (R101 to R103). -/
theorem startReconcile_agrees (closed : s.fitment = none) : s.startSlots.startMap.startReconcile.table.agrees := by
  obtain ⟨slots, -⟩ := startSlots_spec s
  obtain ⟨⟨kept, map⟩, -⟩ := startMap_spec s.startSlots
  obtain ⟨strays, -⟩ := startStrays_spec s.startSlots.startMap
  generalize s.startSlots.store = st at map
  have fitment : ((List.finRange 20).foldl State.startStray s.startSlots.startMap).fitment = none :=
    (((startSlots_frame_table s).trans (startMap_frame_table _)).trans (startStrays_frame_table _)).fitment (by simp) |>.trans closed
  have agrees : ((List.finRange 20).foldl State.startStray s.startSlots.startMap).table.agrees := by
    rw [strays]
    exact reconciled_agrees (st := st) (fun p => by rw [kept]; exact map p)
  exact ((startGearSlot_steady _).table (tableOk_of_closed agrees fitment)).agrees

theorem rebuild_fitment : s.rebuild.fitment = s.fitment :=
  calc s.rebuild.fitment
      = s.startRead.startConfig.startMark.startSlots.startMap.startReconcile.startOrphans.startBook.fitment :=
        (startCount_frame _).fitment (by simp)
    _ = s.startRead.startConfig.startMark.startSlots.startMap.startReconcile.startOrphans.fitment := (startBook_frame_book _).fitment (by simp)
    _ = s.startRead.startConfig.startMark.startSlots.startMap.startReconcile.fitment := (startOrphans_frame_tally _).fitment (by simp)
    _ = s.startRead.startConfig.startMark.startSlots.startMap.fitment := (startReconcile_frame_table _).fitment (by simp)
    _ = s.startRead.startConfig.startMark.startSlots.fitment := (startMap_frame_table _).fitment (by simp)
    _ = s.startRead.startConfig.startMark.fitment := (startSlots_frame_table _).fitment (by simp)
    _ = s.startRead.startConfig.fitment := (startMark_frame_ctl _).fitment (by simp)
    _ = s.startRead.fitment := (startConfig_frame_config _).fitment (by simp)
    _ = s.fitment := rfl

theorem rebuild_table : s.rebuild.table = s.startRead.startConfig.startMark.startSlots.startMap.startReconcile.table :=
  ((startCount_frame _).table (by simp)).trans (((startBook_frame_book _).table (by simp)).trans ((startOrphans_frame_tally _).table (by simp)))

/-- Steps 1 to 9 keep every invariant (R170). -/
theorem startUp_preserves : s.Preserves s.startUp := by
  have core := (rebuild_core s).trans (setSup_core s.blank.rebuild { s.blank.rebuild.sup with unread := false })
  have closed : s.startUp.fitment = none := ((setRead_frame s.blank.rebuild).fitment (by simp)).trans (rebuild_fitment s.blank)
  have book : s.startUp.book.Consecutive := by
    rw [State.startUp, (setRead_frame _).book (by simp)]
    exact startCount_consecutive _ (startBook_consecutive _)
  have read : s.startUp.sup.unread = false := rfl
  have blank := blank_preserves s
  refine ⟨fun ok => core.store (blank.store ok), fun ok => ?_, fun ok => core.counts (blank.counts ok), fun _ => tableOk_of_closed ?_ closed,
    fun _ => bookOk_of_consecutive book read⟩
  · obtain ⟨intake, replies, records⟩ := core.link
    have := blank.link ok
    unfold State.linkBounds State.reserved at this ⊢
    show s.startUp.link.intake.length ≤ _ ∧ _
    have intake' : s.startUp.link.intake = s.blank.link.intake := intake
    have replies' : s.startUp.link.replies = s.blank.link.replies := replies
    have records' : s.startUp.ctl.records = s.blank.ctl.records := records
    rw [intake', replies', records']
    exact this
  · rw [State.startUp, (setRead_frame _).table (by simp), rebuild_table]
    refine startReconcile_agrees _ ?_
    have read : s.blank.startRead.fitment = none := rfl
    rw [(startMark_frame_ctl _).fitment (by simp), (startConfig_frame_config _).fitment (by simp), read]

end
end Sys2Proof.Machine
end

section
/-! Every command keeps the invariants of the machine: the store, the link, the counts, the slots and the book. -/
namespace Sys2Proof.Machine

/-- The outcome is a next state in which every invariant of s is kept. -/
def Preserving (o : Host.Outcome State Fault Refusal) (s : State) : Prop := ∃ t, o = .next t ∧ s.Preserves t

theorem preserving {s t : State} (h : s.Preserves t) : Preserving (.next t) s := ⟨t, rfl, h⟩

theorem preserving_ite {s a b : State} {c : Prop} [Decidable c] (h : c → s.Preserves a) (k : ¬c → s.Preserves b) :
    Preserving (.next (if c then a else b)) s := preserving (.ite h k)

section
variable (s : State)

/-! ## The link -/

theorem unknownKind_preserving (k t p) : Preserving (execUnknownKind k t p s) s :=
  preserving_ite (fun _ => .refl s) (fun _ => serveUnknown_preserves ..)

theorem frameArrival_preserving (b c) : Preserving (execFrameArrival b c s) s :=
  preserving_ite (fun _ => judgeFrame_preserves ..) (fun _ => .refl s)

theorem gapTimer_preserving : Preserving (execGapTimerExpiry s) s := by
  unfold execGapTimerExpiry
  split
  · exact preserving ((reach_steady ..).preserves.trans (discardFrame_preserves _))
  · exact preserving (.refl s)

theorem break_preserving (b) : Preserving (execBreakReceived b s) s :=
  preserving_ite (fun _ => takeBreak_preserves ..) (fun _ => .refl s)

theorem replySent_preserving : Preserving (execReplySent s) s := by
  refine preserving_ite (fun _ => setLink_preserves s _ fun ⟨intake, records, replies⟩ => ⟨intake, records, ?_⟩) (fun _ => .refl s)
  show s.link.replies.tail.length + s.reserved ≤ _
  rw [List.length_tail]
  omega

theorem character_preserving (b stop) : Preserving (execCharacterReceived b stop s) s :=
  preserving_ite (fun _ => .ite (fun _ => takeByte_preserves ..) (fun _ => badCharacter_preserves s)) (fun _ => .refl s)

/-! ## Sensing and its timers -/

theorem wallClock_preserving : Preserving (execWallClockTick s) s := by
  unfold execWallClockTick
  split
  · exact preserving (wallClock_steady ..).preserves
  · exact preserving (.refl s)

theorem activeEdge_preserving (i r w) : Preserving (execActiveEdge i r w s) s := by
  unfold execActiveEdge
  dsimp only
  split
  · exact preserving ((pass_steady ..).trans (takeEdge_steady ..)).preserves
  · exact preserving (pass_steady ..).preserves

theorem stall_preserving (i) : Preserving (execStallTimerExpiry i s) s := by
  unfold execStallTimerExpiry
  split
  · split
    · exact preserving (.refl s)
    · exact preserving ((reach_steady ..).trans (takeStall_steady ..)).preserves
  · exact preserving (.refl s)

theorem lineLevel_preserving (l h w) : Preserving (execLineLevelChange l h w s) s := by
  unfold execLineLevelChange
  dsimp only
  split
  · exact preserving (pass_steady ..).preserves
  · split
    · exact preserving (((pass_steady ..).trans (setLineRecord_steady ..)).trans (filterLevel_steady ..)).preserves
    · exact preserving ((pass_steady ..).trans (setLineRecord_steady ..)).preserves

theorem lineFilter_preserving (l) : Preserving (execLineFilterExpiry l s) s := by
  unfold execLineFilterExpiry
  dsimp only
  split
  · split
    · exact preserving ((reach_steady ..).trans (setLineRecord_steady ..)).preserves
    · exact preserving ((reach_steady ..).trans (lineTransition_steady ..)).preserves
  · exact preserving (.refl s)

theorem runConfirm_preserving : Preserving (execRunConfirmExpiry s) s := by
  unfold execRunConfirmExpiry
  split
  · rename_i due _
    have expired := runTimer_steady s due { s.run with runTimer := none } rfl
    exact preserving_ite (fun _ => (expired.trans ((runConfirmed_steady _).trans (supervise_steady _))).preserves) (fun _ => expired.preserves)
  · exact preserving (.refl s)

theorem stopConfirm_preserving : Preserving (execStopConfirmExpiry s) s := by
  unfold execStopConfirmExpiry
  split
  · rename_i due _
    have expired := runTimer_steady s due { s.run with stopTimer := none } rfl
    exact preserving_ite (fun _ => (expired.trans ((stopConfirmed_steady _).trans (supervise_steady _))).preserves) (fun _ => expired.preserves)
  · exact preserving (.refl s)

theorem settle_preserving : Preserving (execSettleTimerExpiry s) s := by
  unfold execSettleTimerExpiry
  split
  · exact preserving ((reach_steady ..).trans (engageGear_steady ..)).preserves
  · exact preserving (.refl s)

theorem launch_preserving : Preserving (execLaunchWindowExpiry s) s := by
  unfold execLaunchWindowExpiry
  split
  · exact preserving ((reach_steady ..).trans (clutchEngaged_steady _)).preserves
  · exact preserving (.refl s)

theorem stale_preserving : Preserving (execStaleTimerExpiry s) s := by
  unfold execStaleTimerExpiry
  split
  · rename_i due _
    exact preserving (((reach_steady s due).trans (setDriveline_steady _ { s.driveline with fresh := false, staleTimer := none })).trans
      (raise_steady ..)).preserves
  · exact preserving (.refl s)

theorem quiet_preserving : Preserving (execQuietTimerExpiry s) s := by
  unfold execQuietTimerExpiry
  split
  · rename_i due _
    exact preserving (((reach_steady s due).trans (setDriveline_steady _ { s.driveline with quietTimer := none })).trans
      ((setTow_steady ..).trans (supervise_steady _))).preserves
  · exact preserving (.refl s)

theorem accrual_preserving : Preserving (execAccrualTimerExpiry s) s := by
  unfold execAccrualTimerExpiry
  split
  · rename_i due _
    exact preserving ((accrual_steady s due { s.tally with accrual := (s.reach due).startIn Config.second }).trans
      (routeAll_steady ..)).preserves
  · exact preserving (.refl s)

theorem deadline_preserving : Preserving (execFitmentDeadlineExpiry s) s := by
  unfold execFitmentDeadlineExpiry
  split
  · exact preserving ((reach_steady ..).trans ((endContext_steady ..).trans ((raise_steady ..).trans (supervise_steady _)))).preserves
  · exact preserving (.refl s)

/-! ## The store and the dormancy timer -/

theorem checkpoint_preserving : Preserving (execCheckpointTimerExpiry s) s := by
  unfold execCheckpointTimerExpiry
  split
  · rename_i due _
    exact preserving ((reach_steady s due).trans ((setCtl_steady _ { s.ctl with
      checkpointTimer := (s.reach due).nextCheckpoint }).trans (checkpoint_steady _))).preserves
  · exact preserving (.refl s)

theorem scrub_preserving (d) : Preserving (execScrubTimerExpiry d s) s := by
  unfold execScrubTimerExpiry
  split
  · rename_i due _
    have timed : s.Preserves { ({ s.reach due with store := decayed s.store d } : State) with
        ctl := { s.ctl with scrubTimer := ({ s.reach due with store := decayed s.store d } : State).startIn (s.ctl.timing.step * Config.second) } } :=
      (reach_steady s due).preserves.trans ((decay_preserves _ d).trans (setCtl_steady _ { s.ctl with
        scrubTimer := ({ s.reach due with store := decayed s.store d } : State).startIn (s.ctl.timing.step * Config.second) }).preserves)
    exact preserving_ite (fun _ => timed.trans (scrubStep_preserves _)) (fun _ => timed)
  · exact preserving (.refl s)

theorem writeComplete_preserving (w) : Preserving (execWriteComplete w s) s := by
  unfold execWriteComplete
  split
  · exact preserving ((endWrite_preserves s ‹_› w).trans (supervise_steady _).preserves)
  · exact preserving (.refl s)

theorem dormancy_preserving : Preserving (execDormancyTimerExpiry s) s := by
  unfold execDormancyTimerExpiry
  split
  · rename_i due timer
    have read (ok : (s.reach due).bookOk) : (s.reach due).sup.unread = false := by
      by_contra unread
      have := (ok.1 (by simpa using unread)).2
      exact nomatch this.symm.trans timer
    exact preserving ((reach_steady s due).preserves.trans (drain_preserves _ read))
  · exact preserving (.refl s)

/-! ## Supply, RESET, POWER_WARN, the end of start-up -/

theorem supplyLoss_preserving (w) : Preserving (execSupplyLoss w s) s :=
  preserving_ite (fun _ => (cutWrite_preserves s w).trans ((atRest_preserves _).trans (setPins_steady ..).preserves)) (fun _ => .refl s)

theorem powerUp_preserving (w d) : Preserving (execPowerUp w d s) s :=
  preserving ((cutWrite_preserves s w).trans ((decay_preserves _ d).trans ((setPins_steady ..).preserves.trans (atRest_preserves _))))

theorem resetAsserted_preserving (w) : Preserving (execResetAsserted w s) s :=
  preserving_ite (fun _ => .refl s) (fun _ => (cutWrite_preserves s w).trans ((atRest_preserves _).trans (setPins_steady ..).preserves))

theorem resetReleased_preserving (d) : Preserving (execResetReleased d s) s := by
  have released := (decay_preserves s d).trans (setPins_steady (s.decay d) { s.pins with reset := false }).preserves
  exact preserving_ite (fun _ => .ite (fun _ => released.trans (atRest_preserves _)) (fun _ => released)) (fun _ => .refl s)

theorem powerWarnAsserted_preserving : Preserving (execPowerWarnAsserted s) s :=
  preserving_ite (fun _ => .refl s) (fun _ => (setPins_steady ..).preserves.trans (warned_preserves _))

theorem powerWarnCleared_preserving : Preserving (execPowerWarnCleared s) s := by
  have cleared := (setPins_steady s { s.pins with powerWarn := false }).preserves
  refine preserving_ite (fun _ => .ite (fun leaves => cleared.trans (leaveHoldup_preserves _ ?_)) (fun _ => cleared)) (fun _ => .refl s)
  simp only [Bool.and_eq_true, decide_eq_true_eq] at leaves
  exact leaves.2

theorem tick_preserves : s.Preserves s.tick := .ite (fun _ => startUp_preserves s) (fun _ => .refl s)

theorem endOfStartUp_preserving : Preserving (execEndOfStartUp s) s := by
  refine preserving_ite (fun starting => (tick_preserves s).trans (finishStart_preserves _ ?_)) (fun _ => .refl s)
  unfold State.tick
  rw [starting]
  cases unread : s.sup.unread
  · exact unread
  · rfl

end

/-! ## Every command -/

/-- No command breaks an invariant. -/
theorem exec_preserving (c : Instr) (s : State) : Preserving (exec c s) s := by
  cases c with
  | setChannel t p => exact preserving (serve_preserves s _ setChannel_sound)
  | setLines t p => exact preserving (serve_preserves s _ setLines_sound)
  | setTime t p => exact preserving (serve_preserves s _ setTime_sound)
  | setEngineThresholds t p => exact preserving (serve_preserves s _ setEngine_sound)
  | setGearTable t p => exact preserving (serve_preserves s _ setGearTable_sound)
  | setDriveline t p => exact preserving (serve_preserves s _ setDriveline_sound)
  | loadSample t p => exact preserving (serve_preserves s _ loadSample_sound)
  | readLive t p => exact preserving (serve_preserves s _ readLive_sound)
  | setWearWeights t p => exact preserving (serve_preserves s _ setWeights_sound)
  | readOrphans t p => exact preserving (serve_preserves s _ readOrphans_sound)
  | clearOrphans t p => exact preserving (serve_preserves s _ clearOrphans_sound)
  | rearmService t p => exact preserving (serve_preserves s _ rearm_sound)
  | readSlot t p => exact preserving (serve_preserves s _ readSlot_sound)
  | readPosition t p => exact preserving (serve_preserves s _ readPosition_sound)
  | discardSlot t p => exact preserving (serve_preserves s _ discard_sound)
  | beginFitment t p => exact preserving (serve_preserves s _ begin_sound)
  | stageComponent t p => exact preserving (serve_preserves s _ stage_sound)
  | exportOutgoing t p => exact preserving (serve_preserves s _ export_sound)
  | readFitment t p => exact preserving (serve_preserves s _ readFitment_sound)
  | commitFitment t p => exact preserving (serve_preserves s _ commit_sound)
  | abortFitment t p => exact preserving (serve_preserves s _ abort_sound)
  | openRental t p => exact preserving (serve_preserves s _ openRental_sound)
  | closeRental t p => exact preserving (serve_preserves s _ closeRental_sound)
  | listPeriods t p => exact preserving (serve_preserves s _ listPeriods_sound)
  | readPeriod t p => exact preserving (serve_preserves s _ readPeriod_sound)
  | releasePeriods t p => exact preserving (serve_preserves s _ release_sound)
  | setStoreTiming t p => exact preserving (serve_preserves s _ setTiming_sound)
  | readStoreStatus t p => exact preserving (serve_preserves s _ storeStatus_sound)
  | setDormancy t p => exact preserving (serve_preserves s _ setDormancy_sound)
  | factoryClear t p => exact preserving (serve_preserves s _ factoryClear_sound)
  | identify t p => exact preserving (serve_preserves s _ identify_sound)
  | readStatus t p => exact preserving (serve_preserves s _ readStatus_sound)
  | takeNotice t p => exact preserving (serve_preserves s _ takeNotice_sound)
  | setNoticeLevels t p => exact preserving (serve_preserves s _ setNotices_sound)
  | unknownKind k t p => exact unknownKind_preserving ..
  | frameArrival b c => exact frameArrival_preserving ..
  | gapTimerExpiry => exact gapTimer_preserving s
  | breakReceived b => exact break_preserving ..
  | replySent => exact replySent_preserving s
  | powerUp w d => exact powerUp_preserving ..
  | resetAsserted w => exact resetAsserted_preserving ..
  | resetReleased d => exact resetReleased_preserving ..
  | supplyLoss w => exact supplyLoss_preserving ..
  | powerWarnAsserted => exact powerWarnAsserted_preserving s
  | powerWarnCleared => exact powerWarnCleared_preserving s
  | wallClockTick => exact wallClock_preserving s
  | activeEdge i r w => exact activeEdge_preserving ..
  | stallTimerExpiry i => exact stall_preserving ..
  | lineLevelChange l h w => exact lineLevel_preserving ..
  | lineFilterExpiry l => exact lineFilter_preserving ..
  | runConfirmExpiry => exact runConfirm_preserving s
  | stopConfirmExpiry => exact stopConfirm_preserving s
  | settleTimerExpiry => exact settle_preserving s
  | launchWindowExpiry => exact launch_preserving s
  | staleTimerExpiry => exact stale_preserving s
  | quietTimerExpiry => exact quiet_preserving s
  | accrualTimerExpiry => exact accrual_preserving s
  | fitmentDeadlineExpiry => exact deadline_preserving s
  | checkpointTimerExpiry => exact checkpoint_preserving s
  | scrubTimerExpiry d => exact scrub_preserving ..
  | writeComplete w => exact writeComplete_preserving ..
  | dormancyTimerExpiry => exact dormancy_preserving s
  | characterReceived b stop => exact character_preserving ..
  | endOfStartUp => exact endOfStartUp_preserving s

/-- A step keeps every invariant: the front command is taken from the queue of commands, which none reads. -/
theorem step_preserves {s t : State} (next : step s = .next t) : s.Preserves t := by
  unfold step at next
  split at next
  · obtain rfl := Host.Outcome.next.inj next
    exact tick_preserves s
  · rename_i c rest _
    obtain ⟨u, run, kept⟩ := exec_preserving c { s with pending := rest }
    obtain rfl := Host.Outcome.next.inj (next.symm.trans run)
    exact .trans (t := { s with pending := rest }) ⟨id, id, id, id, id⟩ kept

/-! ## The obligations -/

/-- Settles O3. -/
theorem storeInvariantKept : Obligations.StoreInvariantKept := fun _ _ ok next => (step_preserves next).store ok

/-- Settles O4. -/
theorem linkBoundsKept : Obligations.LinkBoundsKept := fun _ _ ok next => (step_preserves next).link ok

/-- Settles O5. -/
theorem countsStayWithinMaxima : Obligations.CountsStayWithinMaxima := fun _ _ ok next => (step_preserves next).counts ok

/-- Settles O6. -/
theorem slotsMatchMap : Obligations.SlotsMatchMap := fun _ _ ok next => (step_preserves next).table ok

/-- Settles O7. -/
theorem bookStaysConsecutive : Obligations.BookStaysConsecutive := fun _ _ ok next => (step_preserves next).book ok

end Sys2Proof.Machine
end


section
/-! Settings requests and single instants (02 R18, R19, R39, 03 R42, 04 R66, R73, 05 R87, 09 R160, 10 R178, 11 R193): each refusal is a
branch of the request's meaning, and each taken request replaces its settings and awaits its configuration line. -/

namespace Sys2Proof.Machine

/-! ## Configuration requests -/

section
variable {s : State} {c : Instr} {r : Request} {m : Meaning}

/-- A ready request that leaves `u d` and is answered DEFERRED for one configuration line (R149, R156, R186). -/
theorem ready_configured {u : Timer → State} {n : Nat} {bs : List Block} (ready : s.ready r) (run : exec c s = .next (s.serve r m))
    (judged : ∀ d, m r.payload (s.taking d) = (u d).configured n) (frame : ∀ d, (s.taking d).sameExcept (u d) bs)
    (out : ∀ b ∈ [Block.link, .sup, .nextId, .ctl], b ∉ bs := by decide) :
    ∃ d t, exec c s = .next t ∧ s.answered t (.deferred r.tag []) ∧ s.samePower t ∧ s.awaiting t r [n] ∧
      s.ctl.sameSettings t.ctl ∧ (u d).sameExcept t [.nextId, .ctl, .link, .sup] ∧
      s.sameExcept t (.nextId :: .ctl :: .link :: .sup :: bs) := by
  have ctl (d) : (u d).ctl = s.ctl := (frame d).ctl (out _ (by simp))
  have marked (d) : (s.taking d).sameExcept ((u d).markDirty n) (.ctl :: bs) :=
    ((frame d).mono (by simp +contextual)).trans ((markDirty_frame ..).mono (by simp))
  obtain ⟨d, t, next, link, power, awaits, settings, after, kept⟩ := ready_awaits ready run judged marked
    (by simpa using out .sup (by simp)) (by simpa using out .nextId (by simp))
    (fun d => congrArg (·.records) (ctl d)) (fun d n => by rw [← ctl d]; rfl) (fun d => by rw [← ctl d]; exact .refl _)
  refine ⟨d, t, next, ?_, power, awaits, settings, ?_, kept.mono (by simp +contextual)⟩
  · have linked : ((u d).markDirty n).link = (s.taking d).link := (frame d).link (out _ (by simp))
    rw [linked] at link
    exact link
  · exact .trans ((markDirty_frame (u d) n).mono (by simp)) after

/-- A meaning with a length check, at the length it asks for. -/
theorem sized_eq {n : Nat} {m : Meaning} {payload : List Byte} (len : payload.length = n) (s : State) :
    sized n m payload s = m payload s := if_pos len

end

/-! ## Notices -/

theorem NoticeKind.all_index (k : NoticeKind) : NoticeKind.all[k.index.val]? = some k := by cases k <;> rfl

theorem NoticeKind.index_val_ne {j k : NoticeKind} (h : j ≠ k) : k.index.val ≠ j.index.val := fun e =>
  h (Option.some.inj ((NoticeKind.all_index j).symm.trans (e ▸ NoticeKind.all_index k)))

section
variable (s : State) (k : NoticeKind)

@[simp] theorem dropNotice_notice_self : (s.dropNotice k).notice k = none := by simp [State.notice]

variable {k}
theorem dropNotice_notice_ne {j : NoticeKind} (h : j ≠ k) : (s.dropNotice k).notice j = s.notice j := by
  simp [State.notice, Vector.getElem_set_ne _ _ (NoticeKind.index_val_ne h)]

end

/-! ## The clock (R18, R19) -/

theorem exec_wallClockTick {s : State} {due : Nat} (running : s.clock.tick = some due) :
    exec .wallClockTick s = .next { s.reach due with clock := { s.clock with
      value := min 4294967295 (s.clock.value + 1), tick := some (max s.now due + 250000) } } := by
  show execWallClockTick s = _
  unfold execWallClockTick
  rw [running]
  rfl

theorem exec_setTime (s : State) (tag : Byte) (payload : List Byte) :
    exec (.setTime tag payload) s = .next (s.serve ⟨0x03, tag, payload⟩ setTimeMeaning) := rfl

/-- Settles O17: the tick's successor state is written out, and SET_TIME is answered DONE in `setTime`. -/
theorem clockCountsAndIsSet : Obligations.ClockCountsAndIsSet := by
  unfold Obligations.ClockCountsAndIsSet
  refine fun s => ⟨fun due running => ?_, fun tag payload ready len => ?_⟩
  · exact ⟨_, exec_wallClockTick running, rfl, rfl, rfl, rfl, by simp [State.sameExcept]⟩
  · obtain ⟨d, t, served, link, power, frame⟩ := ready_done (m := setTimeMeaning) ready fun d => sized_eq len (s.taking d)
    have dropped : ((s.taking d).setTime (field payload 0 4)).link = ((s.taking d).dropNotice .clockUnset).link := rfl
    have notices (j) : t.notice j = ((s.taking d).dropNotice .clockUnset).notice j := by rw [State.notice, link]; rfl
    refine ⟨t, (exec_setTime ..).trans (congrArg _ served), ?_, power, frame.clock (by simp), ?_, fun j other => ?_, ?_⟩
    · rw [State.replied, link]; rfl
    · rw [notices, dropNotice_notice_self]
    · rw [notices, dropNotice_notice_ne _ other]; rfl
    · refine .trans ?_ (frame.mono (by simp))
      exact .trans ((taking_frame s d).mono (by simp)) (by simp [State.sameExcept, State.setTime])

/-! ## The load (R66) -/

theorem exec_loadSample (s : State) (tag : Byte) (payload : List Byte) :
    exec (.loadSample tag payload) s = .next (s.serve ⟨0x07, tag, payload⟩ loadSampleMeaning) := rfl

theorem loadSampleMeaning_eq (b : Byte) (s : State) : loadSampleMeaning [b] s =
    if b.toNat ≤ 100 then .done [] (s.takeLoad b.toNat) else .refused .outOfRange s := by
  rw [loadSampleMeaning, sized_eq List.length_singleton, field_one _ _ (by simp)]
  rfl

/-- Settles O22: the range of the load decides between `takeLoad` and the refusal. -/
theorem loadSampleTaken : Obligations.LoadSampleTaken := by
  unfold Obligations.LoadSampleTaken
  refine fun s tag b ready => ⟨fun low => ?_, fun high => ready_refused ready (exec_loadSample ..) fun d => ?_⟩
  · obtain ⟨d, t, served, link, power, frame⟩ := ready_done (m := loadSampleMeaning) ready
      fun d => (loadSampleMeaning_eq b (s.taking d)).trans (if_pos low)
    refine ⟨t, (exec_loadSample ..).trans (congrArg _ served), link, power, frame.driveline (by simp), ?_⟩
    refine .trans ?_ (frame.mono (by simp))
    exact .trans ((taking_frame s d).mono (by simp)) (by simp [State.sameExcept, State.takeLoad])
  · exact (loadSampleMeaning_eq b (s.taking d)).trans (if_neg (Nat.not_le.2 high))

/-! ## Lines (R39) -/

theorem exists_polarityOfCode (n : Nat) : (∃ a, polarityOfCode n = some a) ↔ n ≤ 1 :=
  (exists_getElem?_iff ..).trans Nat.lt_succ_iff

theorem polarityOfCode_eq {n : Nat} (h : n ≤ 1) : polarityOfCode n = some (decide (n = 0)) := by
  match n, h with
  | 0, _ => rfl
  | 1, _ => rfl

/-- The setting that line k of the payload carries, where its polarity code is one. -/
def lineSetting (payload : List Byte) (k : Nat) : LineSetting :=
  { filter := field payload (2 * k) 1, activeHigh := decide (field payload (2 * k + 1) 1 = 0) }

theorem readLineSetting_eq {payload : List Byte} {k : Nat} (h : field payload (2 * k + 1) 1 ≤ 1) :
    readLineSetting payload k = some (lineSetting payload k) := by
  rw [readLineSetting, polarityOfCode_eq h]
  rfl

theorem readLineSetting_eq_none {payload : List Byte} {k : Nat} (h : 1 < field payload (2 * k + 1) 1) :
    readLineSetting payload k = none := by
  have bad : polarityOfCode (field payload (2 * k + 1) 1) = none :=
    Option.eq_none_iff_forall_ne_some.2 fun a e => Nat.not_le.2 h ((exists_polarityOfCode _).1 ⟨a, e⟩)
  rw [readLineSetting, bad]
  rfl

theorem readLines_eq {payload : List Byte} (h : ∀ k : Fin 5, field payload (2 * k.val + 1) 1 ≤ 1) :
    readLines payload = some (tabulate 5 fun k => lineSetting payload k.val) := by
  have read (k : Nat) (lt : k < 5) : readLineSetting payload k = some (lineSetting payload k) := readLineSetting_eq (h ⟨k, lt⟩)
  rw [readLines, read 0 (by decide), read 1 (by decide), read 2 (by decide), read 3 (by decide), read 4 (by decide)]
  rfl

theorem readLines_eq_none {payload : List Byte} (h : ∃ k : Fin 5, 1 < field payload (2 * k.val + 1) 1) :
    readLines payload = none := by
  obtain ⟨k, bad⟩ := h
  have none : readLineSetting payload k.val = none := readLineSetting_eq_none bad
  unfold readLines
  split
  · rename_i e0 e1 e2 e3 e4
    match k, none with
    | 0, none => exact nomatch e0.symm.trans none
    | 1, none => exact nomatch e1.symm.trans none
    | 2, none => exact nomatch e2.symm.trans none
    | 3, none => exact nomatch e3.symm.trans none
    | 4, none => exact nomatch e4.symm.trans none
  · rfl

theorem exec_setLines (s : State) (tag : Byte) (payload : List Byte) :
    exec (.setLines tag payload) s = .next (s.serve ⟨0x02, tag, payload⟩ setLinesMeaning) := rfl

theorem setLines_frame (s : State) (v) : s.sameExcept (s.setLines v) [.lines] := by simp [State.sameExcept, State.setLines]

/-- A line under a new setting: its filter timer runs where its level now means another state (R39). -/
theorem inputLine_reset_eq (x : InputLine) (y : LineSetting) (now : Nat) : x.reset y now = { x with
    setting := y, timer := if (x.level == y.activeHigh) = x.filtered then none else some (now + y.filter * 250) } := by
  by_cases same : (x.level == y.activeHigh) = x.filtered
  · rw [if_pos same]
    exact if_pos same
  · rw [if_neg same]
    exact if_neg same

/-- Settles O29: a polarity code above 1 gives no settings, and the others give the five lines of `setLines`. -/
theorem linesSet : Obligations.LinesSet := by
  unfold Obligations.LinesSet
  intro s tag payload r ready len
  have run : exec (.setLines tag payload) s = .next (s.serve r setLinesMeaning) := exec_setLines ..
  refine ⟨fun bad => ready_refused ready run fun d => ?_, fun good => ?_⟩
  · rw [setLinesMeaning, sized_eq len, readLines_eq_none bad]
  · obtain ⟨d, t, next, answered, power, awaits, settings, after, frame⟩ := ready_configured
      (u := fun d => (s.taking d).setLines (tabulate 5 fun k => lineSetting payload k.val)) (n := 3) ready run
      (fun d => by rw [setLinesMeaning, sized_eq len, readLines_eq good]) (fun d => setLines_frame ..)
    refine ⟨t, next, answered, power, ?_, awaits, settings, frame.mono (by simp)⟩
    intro l x filter high
    rw [after.lines (by simp)]
    have line : ((s.taking d).setLines (tabulate 5 fun k => lineSetting payload k.val)).lines[l.index] =
        x.reset (lineSetting payload l.index.val) s.now := by
      rw [State.setLines, tabulate_get, tabulate_get]; rfl
    rw [line, inputLine_reset_eq]
    rfl

/-! ## Engine thresholds (R42, R43) -/

theorem EngineSettings.ok_iff (e : EngineSettings) : e.ok = true ↔
    100 ≤ e.runThreshold ∧ e.runThreshold ≤ 3000 ∧ 50 ≤ e.stopThreshold ∧ e.stopThreshold + 50 ≤ e.runThreshold ∧
      100 ≤ e.confirm ∧ e.confirm ≤ 5000 := by
  simp [EngineSettings.ok, within, and_assoc]

theorem exec_setEngineThresholds (s : State) (tag : Byte) (payload : List Byte) :
    exec (.setEngineThresholds tag payload) s = .next (s.serve ⟨0x04, tag, payload⟩ setEngineMeaning) := rfl

theorem setEngine_frame (s : State) (e) : s.sameExcept (s.setEngine e) [.run] :=
  .trans (t := { s with run := { s.run with settings := e, runTimer := none, stopTimer := none } })
    (by simp [State.sameExcept]) (evalConfirm_frame _)

/-- Settles O30: the ranges decide between the refusal and `setEngine`. -/
theorem engineThresholdsSet : Obligations.EngineThresholdsSet := by
  unfold Obligations.EngineThresholdsSet
  intro s tag payload r e ok u ready len
  have run : exec (.setEngineThresholds tag payload) s = .next (s.serve r setEngineMeaning) := exec_setEngineThresholds ..
  have judged (d) : setEngineMeaning payload (s.taking d) =
      if e.ok then ((s.taking d).setEngine e).configured 3 else .refused .outOfRange (s.taking d) := sized_eq len _
  refine ⟨fun bad => ready_refused ready run fun d => (judged d).trans (if_neg (mt (EngineSettings.ok_iff e).1 bad)),
    fun good => ?_⟩
  obtain ⟨d, t, next, answered, power, awaits, settings, after, frame⟩ := ready_configured ready run
    (fun d => (judged d).trans (if_pos ((EngineSettings.ok_iff e).2 good))) (fun d => setEngine_frame ..)
  exact ⟨t, next, answered, power, after.run (by simp), awaits, settings, frame.mono (by simp)⟩

/-! ## The settings of line 3 (R73, R160, R178) -/

theorem DrivelineSettings.ok_iff (d : DrivelineSettings) : d.ok = true ↔
    5 ≤ d.launchThreshold ∧ d.launchThreshold ≤ 200 ∧ 1 ≤ d.launchWindow ∧ d.launchWindow ≤ 10 ∧ 10 ≤ d.slipTolerance ∧
      d.slipTolerance ≤ 1000 ∧ 500 ≤ d.staleTime ∧ d.staleTime ≤ 10000 ∧ d.defaultLoad ≤ 100 ∧ 5 ≤ d.towThreshold ∧
      d.towThreshold ≤ 500 ∧ 2 ≤ d.quietTime ∧ d.quietTime ≤ 60 := by
  simp [DrivelineSettings.ok, within, and_assoc]

theorem StoreTiming.ok_iff (x : StoreTiming) : x.ok = true ↔
    10 ≤ x.interval ∧ x.interval ≤ 600 ∧ 1 ≤ x.step ∧ x.step ≤ 60 := by
  simp [StoreTiming.ok, within, and_assoc]

theorem exec_setDriveline (s : State) (tag : Byte) (payload : List Byte) :
    exec (.setDriveline tag payload) s = .next (s.serve ⟨0x06, tag, payload⟩ setDrivelineMeaning) := rfl

theorem exec_setStoreTiming (s : State) (tag : Byte) (payload : List Byte) :
    exec (.setStoreTiming tag payload) s = .next (s.serve ⟨0x1B, tag, payload⟩ setTimingMeaning) := rfl

theorem exec_setDormancy (s : State) (tag : Byte) (payload : List Byte) :
    exec (.setDormancy tag payload) s = .next (s.serve ⟨0x1D, tag, payload⟩ setDormancyMeaning) := rfl

/-- While a deferred record exists the dormancy timer does not run (R178). -/
theorem supervise_dormancy {s : State} (some : s.ctl.records ≠ []) : s.supervise.sup.dormancy = none := by
  refine if_neg fun h => ?_
  simp [State.mayDoze, some] at h

theorem serve_dormancy {s : State} {r : Request} {m : Meaning} (ready : s.ready r) (some : (s.serve r m).ctl.records ≠ []) :
    (s.serve r m).sup.dormancy = none := by
  obtain ⟨d, served⟩ := serve_ready ready m
  rw [served] at some ⊢
  exact supervise_dormancy some

theorem setDriveline_frame (s : State) (d) : s.sameExcept (s.setDriveline d) [.driveline] := by
  simp [State.sameExcept, State.setDriveline]

/-- Settles O32: the ranges decide between the refusal and the settings replaced; the new record stops the dormancy timer. -/
theorem lineThreeSettingsReplaced : Obligations.LineThreeSettingsReplaced := by
  unfold Obligations.LineThreeSettingsReplaced
  intro s tag payload f
  refine ⟨?_, ?_, ?_⟩
  · intro r ok x ready len
    have judged (d) : setDrivelineMeaning payload (s.taking d) =
        if x.ok then ((s.taking d).setDriveline x).configured 3 else .refused .outOfRange (s.taking d) := sized_eq len _
    refine ⟨fun bad => ready_refused ready (exec_setDriveline ..) fun d =>
      (judged d).trans (if_neg (mt (DrivelineSettings.ok_iff x).1 bad)), fun good => ?_⟩
    obtain ⟨d, t, next, answered, power, awaits, settings, after, frame⟩ := ready_configured ready (exec_setDriveline ..)
      (fun d => (judged d).trans (if_pos ((DrivelineSettings.ok_iff x).2 good))) (fun d => setDriveline_frame ..)
    exact ⟨t, next, answered, power, after.driveline (by simp), awaits, settings, frame.mono (by simp)⟩
  · intro r ok ready len
    have judged (d) : setTimingMeaning payload (s.taking d) =
        if (readTiming payload).ok then ((s.taking d).setTiming (readTiming payload)).configured 3
        else .refused .outOfRange (s.taking d) := sized_eq len _
    refine ⟨fun bad => ready_refused ready (exec_setStoreTiming ..) fun d =>
      (judged d).trans (if_neg (mt (StoreTiming.ok_iff _).1 bad)), fun good => ?_⟩
    obtain ⟨d, t, served, link, sup, nextId, records, holds, settings, after⟩ := ready_deferred ready
      (fun d => (judged d).trans (if_pos ((StoreTiming.ok_iff _).2 good))) (fun d => ready.2.1)
    obtain ⟨-, -, -, -, checkpoint, scrub, pointer, timing, -⟩ := settings
    refine ⟨t, (exec_setStoreTiming ..).trans (congrArg _ served), link, sup, timing, checkpoint, scrub, pointer,
      ⟨records, nextId, holds⟩, ?_⟩
    refine .trans ?_ (after.mono (by simp))
    exact .trans ((taking_frame s d).mono (by simp)) (by simp [State.sameExcept, State.setTiming])
  · intro r ok ready len
    have inRange : delayOk (f 0 2) = true ↔ ok := within_iff ..
    have judged (d) : setDormancyMeaning payload (s.taking d) =
        if delayOk (f 0 2) then ((s.taking d).setDelay (f 0 2)).configured 3 else .refused .outOfRange (s.taking d) :=
      sized_eq len _
    refine ⟨fun bad => ready_refused ready (exec_setDormancy ..) fun d => (judged d).trans (if_neg (mt inRange.1 bad)),
      fun good => ?_⟩
    obtain ⟨d, t, served, link, sup, nextId, records, holds, settings, after⟩ := ready_deferred ready
      (fun d => (judged d).trans (if_pos (inRange.2 good))) (fun d => ready.2.1)
    have stopped : t.sup.dormancy = none := by
      rw [← served]
      refine serve_dormancy ready ?_
      rw [served, records]
      simp
    refine ⟨t, (exec_setDormancy ..).trans (congrArg _ served), link, ?_, ⟨records, nextId, holds⟩, settings, ?_⟩
    · rw [sup, stopped]; rfl
    · refine .trans ?_ (after.mono (by simp))
      exact .trans ((taking_frame s d).mono (by simp)) (by simp [State.sameExcept, State.setDelay])

/-! ## The settings of line 4 (R87, R193) -/

theorem exec_setWearWeights (s : State) (tag : Byte) (payload : List Byte) :
    exec (.setWearWeights tag payload) s = .next (s.serve ⟨0x09, tag, payload⟩ setWeightsMeaning) := rfl

theorem exec_setNoticeLevels (s : State) (tag : Byte) (payload : List Byte) :
    exec (.setNoticeLevels tag payload) s = .next (s.serve ⟨0x22, tag, payload⟩ setNoticesMeaning) := rfl

theorem tabulate_all {α : Type} {n : Nat} (f : Fin n → α) (p : α → Bool) :
    (tabulate n f).toList.all p = true ↔ ∀ k : Fin n, p (f k) = true := by
  simp [tabulate]

theorem weightsOk_iff (payload : List Byte) :
    weightsOk (readWeights payload) = true ↔ ∀ k : Fin 28, field payload (2 * k.val) 2 ≤ 400 := by
  rw [weightsOk, readWeights, tabulate_all]
  simp only [decide_eq_true_iff]

theorem NoticeKind.forall_iff {p : Fin 14 → Prop} : (∀ k : NoticeKind, p k.index) ↔ ∀ i, p i := by
  refine ⟨fun h i => ?_, fun h k => h _⟩
  have named : ∀ i : Fin 14, ∃ k ∈ NoticeKind.all, k.index = i := by decide
  obtain ⟨k, -, e⟩ := named i
  exact e ▸ h k

theorem noticesOk_iff (payload : List Byte) : (readNotices payload).ok = true ↔
    1 ≤ field payload 14 1 ∧ field payload 14 1 ≤ 7 ∧ ∀ k : NoticeKind, field payload k.index.val 1 ≤ 7 := by
  rw [NoticeSettings.ok, readNotices, Bool.and_eq_true, tabulate_all, within_iff,
    NoticeKind.forall_iff (p := fun i => field payload i.val 1 ≤ 7)]
  simp only [decide_eq_true_iff]
  exact ⟨fun ⟨levels, low, high⟩ => ⟨low, high, levels⟩, fun ⟨low, high, levels⟩ => ⟨levels, low, high⟩⟩

theorem setWeights_frame (s : State) (v) : s.sameExcept (s.setWeights v) [.tally] := by
  simp [State.sameExcept, State.setWeights]

/-- Settles O33: the ranges decide between the refusal and the table or the levels replaced. -/
theorem lineFourSettingsReplaced : Obligations.LineFourSettingsReplaced := by
  unfold Obligations.LineFourSettingsReplaced
  refine fun s tag payload => ⟨?_, ?_⟩
  · intro r ready len
    have judged (d) : setWeightsMeaning payload (s.taking d) =
        if weightsOk (readWeights payload) then ((s.taking d).setWeights (readWeights payload)).configured 4
        else .refused .outOfRange (s.taking d) := sized_eq len _
    refine ⟨fun ⟨k, bad⟩ => ready_refused ready (exec_setWearWeights ..) fun d =>
      (judged d).trans (if_neg fun ok => Nat.not_le.2 bad ((weightsOk_iff _).1 ok k)), fun good => ?_⟩
    obtain ⟨d, t, next, answered, power, awaits, settings, after, frame⟩ := ready_configured ready (exec_setWearWeights ..)
      (fun d => (judged d).trans (if_pos ((weightsOk_iff _).2 good))) (fun d => setWeights_frame ..)
    have tally : t.tally = { s.tally with weights := readWeights payload } := after.tally (by simp)
    refine ⟨t, next, answered, power, fun k => ?_, congrArg (·.orphans) tally, congrArg (·.accrual) tally, awaits, settings,
      frame.mono (by simp)⟩
    rw [tally]
    exact tabulate_get 28 (fun i : Fin 28 => field payload (2 * i.val) 2) k
  · intro r ok ready len
    have judged (d) : setNoticesMeaning payload (s.taking d) =
        if (readNotices payload).ok then ((s.taking d).setNotices (readNotices payload)).configured 4
        else .refused .outOfRange (s.taking d) := sized_eq len _
    refine ⟨fun bad => ready_refused ready (exec_setNoticeLevels ..) fun d =>
      (judged d).trans (if_neg (mt (noticesOk_iff _).1 bad)), fun good => ?_⟩
    obtain ⟨d, t, served, link, sup, nextId, records, holds, settings, after⟩ := ready_deferred ready
      (fun d => (judged d).trans (if_pos ((noticesOk_iff _).2 good))) (fun d => ready.2.1)
    have level (k : NoticeKind) : t.level k = field payload k.index.val 1 := by
      rw [State.level, link]
      exact tabulate_get 14 (fun i : Fin 14 => field payload i.val 1) k.index
    refine ⟨t, (exec_setNoticeLevels ..).trans (congrArg _ served), sup, ?_, ?_, level, fun k => ?_,
      ⟨records, nextId, holds⟩, settings, ?_⟩
    · rw [link]; rfl
    · rw [link]; rfl
    · have kept : t.notice k = if (readNotices payload).levels[k.index] = 0 then none else s.notice k := by
        rw [State.notice, link]
        exact tabulate_get 14 (fun i : Fin 14 => if (readNotices payload).levels[i] = 0 then none else s.link.notices[i]) k.index
      rw [kept, readNotices, tabulate_get]
    · refine .trans ?_ (after.mono (by simp))
      exact .trans ((taking_frame s d).mono (by simp)) (by simp [State.sameExcept, State.setNotices])

end Sys2Proof.Machine
end


section
/-! Reading requests (04 R74, 05 R89, 06 R104 to R107, 08 R142 to R144, 09 R166, 11 R194, R195): what each reports. -/

namespace Sys2Proof.Machine

/-! ## Requests that the executor takes in ACTIVE and in STARTING (R186) -/

/-- The request is, or at its arrival becomes, the head request, and the executor takes it, in ACTIVE or in STARTING. -/
structure State.Takeable (s : State) (r : Request) : Prop where
  live : s.live = true
  power : s.sup.power = .active ∨ s.sup.power = .starting
  head : s.link.intake = [] ∨ s.link.intake.head? = some r
  places : 2 ≤ s.freePlaces
  records : r.kind ∈ deferredKinds → s.ctl.records.length < Config.recordPlaces

theorem wake_eq {s : State} (power : s.sup.power ≠ .draining ∧ s.sup.power ≠ .dormant) : s.wake = s := by
  unfold State.wake
  cases h : s.sup.power
  case draining => exact absurd h power.1
  case dormant => exact absurd h power.2
  all_goals rfl

section
variable {s : State} {r : Request}

theorem State.Takeable.awake (h : s.Takeable r) : s.wake = s := wake_eq (by rcases h.power with p | p <;> simp [p])

theorem State.Takeable.taken_eq (h : s.Takeable r) : ∃ d, (s.accept r).canTake r = true ∧ (s.accept r).dropHead = s.taking d := by
  have free : r.kind ∉ deferredKinds ∨ s.ctl.records.length < Config.recordPlaces :=
    (Decidable.em _).elim (fun k => .inr (h.records k)) .inl
  by_cases k : s.link.intake.head? = some r
  · rw [State.accept, if_pos k]
    exact ⟨s.sup.dormancy, by simp [State.canTake, k, h.places, free], rfl⟩
  · have empty : s.link.intake = [] := h.head.resolve_right k
    have notHoldup : s.sup.power ≠ .holdup := by rcases h.power with p | p <;> simp [p]
    have arrived : s.accept r = (s.join r).supervise := by
      simp [State.accept, State.arrive, h.awake, notHoldup, empty, Config.intakePlaces]
    have link : (s.join r).supervise.link = { s.link with intake := [r] } := by simp [State.supervise, empty]
    have places : (s.join r).supervise.freePlaces = s.freePlaces := by
      simp [State.freePlaces, State.supervise, State.reserved]
    have ctl : (s.join r).supervise.ctl = s.ctl := rfl
    rw [arrived]
    refine ⟨(s.join r).supervise.sup.dormancy, ?_, ?_⟩
    · rw [State.canTake, link]
      simp [places, ctl, h.places, free]
    · simp [State.dropHead, State.taking, State.supervise, empty, State.join]

theorem serve_takeable (h : s.Takeable r) (m : Meaning) :
    ∃ d, s.serve r m = (((s.taking d).judge r m).give r).supervise := by
  obtain ⟨d, take, taken⟩ := h.taken_eq
  exact ⟨d, by rw [State.serve, if_pos h.live, if_pos take, State.takeHead, taken]⟩

theorem serveUnknown_takeable (h : s.Takeable r) :
    ∃ d, s.serveUnknown r = ((Answer.refused .unknownKind (s.taking d)).give r).supervise := by
  obtain ⟨d, take, taken⟩ := h.taken_eq
  exact ⟨d, by rw [State.serveUnknown, if_pos h.live, if_pos take, taken]⟩

theorem given_frame (d : Timer) (x : Reply) : s.sameExcept ((s.taking d).reply x).supervise [.link, .sup] :=
  (taking_frame s d).trans (.then (reply_frame ..) (supervise_frame _) (by simp) (by simp))

end

/-- IDENTIFY and READ_STATUS are judged by their own chapters in every power state (R186). -/
theorem judge_identity {s : State} {r : Request} (kind : r.kind = 0x1F ∨ r.kind = 0x20) (m : Meaning) :
    s.judge r m = m r.payload s := by
  rw [State.judge, if_neg]
  rcases kind with k | k <;> simp [State.startingRefuses, k]

/-! ## Bytes -/

/-- A meaning without payload, at an empty one. -/
theorem sized_nil (m : Meaning) (s : State) : sized 0 m [] s = m [] s := rfl

theorem exists_quantityOfCode (n : Nat) : (∃ q, Quantity.ofCode n = some q) ↔ n < 20 := exists_getElem?_iff ..

theorem positionOfCode_code (p : Position) : Position.ofCode p.code = some p := by cases p <;> rfl

theorem position_code_lt (p : Position) : p.code < 16 := by cases p <;> decide

theorem positionOfCode_eq_none {n : Nat} (h : 15 < n) : Position.ofCode n = none :=
  Option.eq_none_iff_forall_ne_some.2 fun p e => Nat.not_le.2 h ((exists_positionOfCode _).1 ⟨p, e⟩)

theorem leBytes_one (n : Nat) : leBytes 1 n = [BitVec.ofNat 8 n] := rfl

/-! ## Requests that carry a position -/

theorem atPosition_eq {m : Position → State → Answer} (p : Position) (s : State) :
    atPosition m [BitVec.ofNat 8 p.code] s = m p s := by
  rw [atPosition, sized_eq List.length_singleton, field_ofNat _ (Nat.lt_trans (position_code_lt p) (by decide)),
    positionOfCode_code]

theorem atPosition_eq_outOfRange {m : Position → State → Answer} {b : Byte} (high : 15 < b.toNat) (s : State) :
    atPosition m [b] s = .refused .outOfRange s := by
  have code : Position.ofCode (field [b] 0 1) = none := by
    rw [field_one _ _ (by simp)]
    exact positionOfCode_eq_none high
  rw [atPosition, sized_eq List.length_singleton, code]

/-! ## READ_POSITION -/

/-- A tally holds anything: a saturation mark or a value above 0 (R107). -/
theorem tally_present_iff (t : Tally) : t.present = true ↔
    (∃ x ∈ t.scalars, x.saturated = true ∨ ∃ v, x.value = some v ∧ 0 < v) ∨
    (∃ x ∈ t.hists, x.saturated = true ∨ ∃ v, some v ∈ x.values ∧ 0 < v) := by
  have above (v : Option Nat) : 0 < v.getD 0 ↔ ∃ n, v = some n ∧ 0 < n := by cases v <;> simp
  simp only [Tally.present, Bool.or_eq_true, List.any_eq_true, decide_eq_true_iff, above]
  refine or_congr_right (exists_congr fun x => and_congr_right fun _ => or_congr_right ⟨?_, ?_⟩)
  · rintro ⟨v, mem, n, rfl, pos⟩
    exact ⟨n, mem, pos⟩
  · rintro ⟨n, mem, pos⟩
    exact ⟨some n, mem, n, rfl, pos⟩

section
variable (s : State) (p : Position)

theorem hold_free (free : ∀ c, s.fitment = some c → c.position ≠ p) : s.hold p = 3 := by
  unfold State.hold
  split
  · rename_i c opened
    exact if_neg (free c opened)
  · rfl

theorem hold_held {c : Context} (opened : s.fitment = some c) (here : c.position = p) : s.hold p = c.action.code := by
  simp [State.hold, opened, here]

end

/-! ## The reading requests -/

theorem exec_readOrphans (s : State) (tag : Byte) (payload : List Byte) :
    exec (.readOrphans tag payload) s = .next (s.serve ⟨0x0A, tag, payload⟩ readOrphansMeaning) := rfl

theorem exec_readSlot (s : State) (tag : Byte) (payload : List Byte) :
    exec (.readSlot tag payload) s = .next (s.serve ⟨0x0D, tag, payload⟩ readSlotMeaning) := rfl

theorem exec_readPosition (s : State) (tag : Byte) (payload : List Byte) :
    exec (.readPosition tag payload) s = .next (s.serve ⟨0x0E, tag, payload⟩ readPositionMeaning) := rfl

theorem exec_listPeriods (s : State) (tag : Byte) (payload : List Byte) :
    exec (.listPeriods tag payload) s = .next (s.serve ⟨0x18, tag, payload⟩ listPeriodsMeaning) := rfl

theorem exec_readPeriod (s : State) (tag : Byte) (payload : List Byte) :
    exec (.readPeriod tag payload) s = .next (s.serve ⟨0x19, tag, payload⟩ readPeriodMeaning) := rfl

theorem exec_readStoreStatus (s : State) (tag : Byte) (payload : List Byte) :
    exec (.readStoreStatus tag payload) s = .next (s.serve ⟨0x1C, tag, payload⟩ storeStatusMeaning) := rfl

section
variable (s : State) {payload : List Byte}

theorem readSlotMeaning_eq {i : Fin 20} (len : payload.length = 2) (number : field payload 0 1 = i.val) :
    readSlotMeaning payload s = s.readSlot i (field payload 1 1) := by
  rw [readSlotMeaning, sized_eq len, dif_pos (number ▸ i.isLt)]
  exact congrArg (s.readSlot · _) (Fin.ext number)

theorem readSlotMeaning_eq_outOfRange (len : payload.length = 2) (high : 20 ≤ field payload 0 1) :
    readSlotMeaning payload s = .refused .outOfRange s := by
  rw [readSlotMeaning, sized_eq len, dif_neg (Nat.not_lt.2 high)]

theorem readPeriodMeaning_eq {first : Position} (len : payload.length = 5) (code : field payload 4 1 = first.code) :
    readPeriodMeaning payload s = s.readPeriod (field payload 0 4) first := by
  rw [readPeriodMeaning, sized_eq len, code, positionOfCode_code]

theorem readPeriodMeaning_eq_outOfRange (len : payload.length = 5) (high : 15 < field payload 4 1) :
    readPeriodMeaning payload s = .refused .outOfRange s := by
  rw [readPeriodMeaning, sized_eq len, positionOfCode_eq_none high]

end

/-- Settles O34: each request's meaning is evaluated for its operands; none of them changes the state. -/
theorem readsChangeNothing : Obligations.ReadsChangeNothing := by
  unfold Obligations.ReadsChangeNothing
  intro s tag
  refine ⟨fun b high => ⟨fun ready => ready_refused ready (exec_readOrphans ..) fun d => atPosition_eq_outOfRange high _,
      fun ready => ready_refused ready (exec_readPosition ..) fun d => atPosition_eq_outOfRange high _⟩,
    fun payload ready len high => ready_refused ready (exec_readSlot ..) fun d => readSlotMeaning_eq_outOfRange _ len high,
    fun payload ready len high => ready_refused ready (exec_readPeriod ..) fun d => readPeriodMeaning_eq_outOfRange _ len high,
    fun p ready => ready_reports ready (exec_readOrphans ..) fun d => atPosition_eq p _,
    fun i payload ready len number => ⟨fun low => ?_, fun high => ?_⟩, fun p ready => ?_,
    fun ready => ready_reports ready (exec_listPeriods ..) fun d => sized_nil _ _,
    fun payload first ready len code => ⟨fun h old new here => ?_, fun out => ?_⟩,
    fun ready => ready_reports ready (exec_readStoreStatus ..) fun d => sized_nil _ _⟩
  · exact ready_reports ready (exec_readSlot ..) fun d => (readSlotMeaning_eq (s.taking d) len number).trans (if_pos low)
  · exact ready_refused ready (exec_readSlot ..) fun d =>
      (readSlotMeaning_eq (s.taking d) len number).trans (if_neg (Nat.not_le.2 high))
  · refine ⟨BitVec.ofNat 8 ((s.table.map[p.index].map Fin.val).getD noneCode), BitVec.ofNat 8 (s.hold p),
      BitVec.ofNat 8 s.tally.orphans[p.index].present.toNat,
      ready_reports ready (exec_readPosition ..) fun d => atPosition_eq p _, ?_, fun free => ?_, fun c opened here => ?_, ?_⟩
    · cases s.table.map[p.index] <;> rfl
    · rw [hold_free s p free]
      rfl
    · rw [hold_held s p opened here]
      cases c.action <;> rfl
    · rw [← tally_present_iff]
      cases s.tally.orphans[p.index].present <;> simp
  · refine ready_reports ready (exec_readPeriod ..) fun d => (readPeriodMeaning_eq (s.taking d) len code).trans ?_
    have header : (s.taking d).book.header (field payload 0 4) = some h := here
    rw [State.readPeriod, if_pos ⟨old, new⟩, header]
    rfl
  · exact ready_refused ready (exec_readPeriod ..) fun d => (readPeriodMeaning_eq (s.taking d) len code).trans
      (if_neg fun inside => out.elim (Nat.not_lt.2 inside.1) (Nat.not_lt.2 inside.2))

/-! ## IDENTIFY, READ_STATUS -/

theorem exec_identify (s : State) (tag : Byte) (payload : List Byte) :
    exec (.identify tag payload) s = .next (s.serve ⟨0x1F, tag, payload⟩ identifyMeaning) := rfl

theorem exec_readStatus (s : State) (tag : Byte) (payload : List Byte) :
    exec (.readStatus tag payload) s = .next (s.serve ⟨0x20, tag, payload⟩ readStatusMeaning) := rfl

/-- A takeable IDENTIFY or READ_STATUS that is answered DONE and changes nothing (R186). -/
theorem takeable_reports {s : State} {r : Request} {c : Instr} {m : Meaning} {body : List Byte} (h : s.Takeable r)
    (kind : r.kind = 0x1F ∨ r.kind = 0x20) (run : exec c s = .next (s.serve r m))
    (judged : ∀ d, m r.payload (s.taking d) = .done body (s.taking d)) : s.reports c r.tag body := by
  obtain ⟨d, served⟩ := serve_takeable h m
  rw [judge_identity kind, judged] at served
  exact ⟨_, run.trans (congrArg _ served), rfl, rfl, given_frame d _⟩

/-- The status report of a recorder that is not in HOLDUP, DRAINING or DORMANT, in the words of R195. -/
theorem statusReport_eq {s : State} (power : s.sup.power = .active ∨ s.sup.power = .starting) : s.statusReport =
    leBytes 1 (if s.sup.power = .starting then 0 else 1) ++ leBytes 1 (if s.clock.isSet = true then 1 else 0) ++
     (if s.sup.power = .starting then leBytes 1 0 ++ leBytes 4 0 ++ leBytes 1 0xFF
      else leBytes 1 s.book.count ++ leBytes 4 s.book.newest ++ leBytes 1 (match s.fitment with
        | some c => (match c.action with
          | .remove => 0
          | .install => 1
          | .replace => 2)
        | none => 0xFF)) ++
     leBytes 1 s.pendingKinds.length ++ leBytes 1 s.link.intake.length ++ leBytes 1 s.ctl.records.length ++
     leBytes 2 s.link.frameErrors ++ leBytes 2 s.link.breaks ++ leBytes 2 s.link.dropped ++
     leBytes 1 (if s.ctl.failed = [] then 0 else 1) := by
  have code : s.sup.power.code = if s.sup.power = .starting then 0 else 1 := by
    rcases power with p | p <;> rw [p] <;> rfl
  have flag : s.clock.isSet.toNat = if s.clock.isSet = true then 1 else 0 := by cases s.clock.isSet <;> rfl
  have failed : (decide (s.ctl.failed ≠ [])).toNat = if s.ctl.failed = [] then 0 else 1 := by
    by_cases h : s.ctl.failed = [] <;> simp [h]
  have action : optCode (s.fitment.map fun c => c.action.code) = leBytes 1 (match s.fitment with
        | some c => (match c.action with
          | .remove => 0
          | .install => 1
          | .replace => 2)
        | none => 0xFF) := by
    cases s.fitment with
    | none => rfl
    | some c => cases h : c.action <;> simp [optCode, h] <;> rfl
  rw [State.statusReport, State.rebuiltStatus, code, flag, failed, action]
  rfl

/-- Settles O35: both requests are takeable in ACTIVE and in STARTING, and their reports are those of R194 and R195. -/
theorem identityAndStatusReported : Obligations.IdentityAndStatusReported := by
  unfold Obligations.IdentityAndStatusReported
  intro s tag live power places
  have immediate {r : Request} (kind : r.kind = 0x1F ∨ r.kind = 0x20) : r.kind ∈ deferredKinds →
      s.ctl.records.length < Config.recordPlaces := by
    rcases kind with k | k <;> rw [k] <;> exact fun mem => absurd mem (by decide)
  refine ⟨fun head => ?_, fun head => ?_⟩
  · exact takeable_reports ⟨live, power, head, places, immediate (.inl rfl)⟩ (.inl rfl) (exec_identify ..)
      fun d => (sized_nil _ _).trans (by simp [State.identityReport, State.taking, leBytes_one, Config.lineCount,
        Config.slotCount, Config.bookCapacity, Config.channelCount])
  · refine takeable_reports ⟨live, power, head, places, immediate (.inr rfl)⟩ (.inr rfl) (exec_readStatus ..)
      fun d => (sized_nil _ _).trans ?_
    have status := statusReport_eq (s := s.taking d) power
    rw [status]
    rfl

/-! ## READ_LIVE -/

theorem exec_readLive (s : State) (tag : Byte) (payload : List Byte) :
    exec (.readLive tag payload) s = .next (s.serve ⟨0x08, tag, payload⟩ readLiveMeaning) := rfl

/-- Pieces of one length stand at the multiples of that length. -/
theorem drop_flatMap {α β : Type} {f : α → List β} {n : Nat} (len : ∀ x, (f x).length = n) (l : List α) (k : Nat) :
    (l.flatMap f).drop (n * k) = (l.drop k).flatMap f := by
  induction k generalizing l with
  | zero => rfl
  | succ k ih =>
    cases l with
    | nil => simp
    | cons x xs =>
      have split : n * (k + 1) = (f x).length + n * k := by rw [len, Nat.mul_succ, Nat.add_comm]
      rw [List.flatMap_cons, split, ← List.drop_drop, List.drop_left, ih, List.drop_succ_cons]

section
variable (s : State) (i : Fin 10)

theorem liveChannel_length : (s.liveChannel i).length = 8 := by simp [State.liveChannel]

theorem liveTail_length : s.liveTail.length = 16 := by simp [State.liveTail, optCode]

theorem liveReport_length : s.liveReport.length = 96 := by
  rw [State.liveReport, List.length_append, liveTail_length, List.length_flatMap]
  simp [liveChannel_length]

theorem liveReport_channel : (s.liveReport.drop (8 * i.val)).take 8 = s.liveChannel i := by
  have len : i.val < (List.finRange 10).length := by simp
  have inside : 8 * i.val ≤ ((List.finRange 10).flatMap s.liveChannel).length := by
    rw [List.length_flatMap]
    simp [liveChannel_length]
    omega
  rw [State.liveReport, List.drop_append_of_le_length inside, drop_flatMap (liveChannel_length s),
    List.drop_eq_getElem_cons len, List.flatMap_cons, List.append_assoc, List.getElem_finRange]
  exact List.take_left' (liveChannel_length s i)

end

/-- Settles O36: READ_LIVE is answered with `liveReport`, whose channels stand at the multiples of 8. -/
theorem liveReported : Obligations.LiveReported := by
  unfold Obligations.LiveReported
  intro s tag ready
  refine ⟨?_, liveReport_length s, fun i v speed => ?_, fun i absent => ?_⟩
  · obtain ⟨d, t, served, link, power, frame⟩ := ready_done (m := readLiveMeaning) (body := s.liveReport)
      (g := fun d => { s.taking d with free := s.free + 10 }) ready fun d => rfl
    refine ⟨t, (exec_readLive ..).trans (congrArg _ served), link, power, ?_⟩
    refine .trans ?_ (frame.mono (by simp))
    exact .trans ((taking_frame s d).mono (by simp)) (by simp [State.sameExcept])
  · rw [liveReport_channel, State.liveChannel, speed]
    simp [leBytes]
  · have channel := liveReport_channel s i
    have first : (s.liveReport.drop (8 * i.val)).take 1 = (s.liveChannel i).take 1 := by
      rw [← channel, List.take_take, Nat.min_eq_left (by decide)]
    have last : (s.liveReport.drop (8 * i.val + 5)).take 3 = (s.liveChannel i).drop 5 := by
      rw [← channel, List.drop_take, List.drop_drop]
    rw [first, last, State.liveChannel, absent]
    simp [leBytes]

end Sys2Proof.Machine
end


section
/-! The Link Port (11 R181 to R188): where a request is taken, where it waits, the arrival of a frame, the framer and BREAK. -/

namespace Sys2Proof.Machine

/-! ## What a request row runs (12 R197) -/

/-- What a request of a wrong length leaves: a fitment request restarts an open deadline (R113, log 10). -/
def Request.badLengthLeaves (r : Request) (s : State) : State :=
  if 0x10 ≤ r.kind.toNat ∧ r.kind.toNat ≤ 0x15 then s.touchDeadline else s

/-- The row serves the request under a meaning of its kind, which refuses a payload of another length. -/
def RowServes (c : Instr) (r : Request) (m : Meaning) : Prop :=
  (1 ≤ r.kind.toNat ∧ r.kind.toNat ≤ 0x22) ∧ (∀ s, exec c s = .next (s.serve r m)) ∧
    ∀ s, r.payload.length ≠ requestLength r → m r.payload s = .refused .badLength (r.badLengthLeaves s)

section
variable {c : Instr} {k t : Byte} {p : List Byte} {m : Meaning} (run : ∀ s, exec c s = .next (s.serve ⟨k, t, p⟩ m))
include run

theorem RowServes.of_plain (plain : (1 ≤ k.toNat ∧ k.toNat ≤ 0x22) ∧ ¬ (0x10 ≤ k.toNat ∧ k.toNat ≤ 0x15))
    (judged : ∀ s, p.length ≠ requestLength ⟨k, t, p⟩ → m p s = .refused .badLength s) : RowServes c ⟨k, t, p⟩ m :=
  ⟨plain.1, run, fun s bad => (judged s bad).trans (congrArg _ (if_neg plain.2).symm)⟩

theorem RowServes.of_fitment (fitment : (1 ≤ k.toNat ∧ k.toNat ≤ 0x22) ∧ (0x10 ≤ k.toNat ∧ k.toNat ≤ 0x15))
    (judged : ∀ s, p.length ≠ requestLength ⟨k, t, p⟩ → m p s = .refused .badLength s.touchDeadline) : RowServes c ⟨k, t, p⟩ m :=
  ⟨fitment.1, run, fun s bad => (judged s bad).trans (congrArg _ (if_pos fitment.2).symm)⟩

end

theorem sized_badLength {n : Nat} {m : Meaning} {p : List Byte} (bad : p.length ≠ n) (s : State) :
    sized n m p s = .refused .badLength s := if_neg bad

theorem fitmentRequest_badLength {n : Nat} {m : Meaning} {p : List Byte} (bad : p.length ≠ n) (s : State) :
    fitmentRequest (sized n m) p s = .refused .badLength s.touchDeadline := by
  rw [fitmentRequest, sized_badLength bad]
  rfl

/-- A request row serves its request under a meaning of the kind, or refuses it as unknown. -/
theorem request_serves {c : Instr} {r : Request} (carried : c.request? = some r) :
    (∃ m, RowServes c r m) ∨ ((r.kind = 0 ∨ 0x22 < r.kind.toNat) ∧ ∀ s, exec c s = .next (s.serveUnknown r)) := by
  cases c
  case setGearTable t p =>
    obtain rfl := Option.some.inj carried
    exact .inl ⟨_, .of_plain (fun _ => rfl) (by decide) fun s bad => if_neg bad⟩
  case stageComponent t p =>
    obtain rfl := Option.some.inj carried
    exact .inl ⟨_, .of_fitment (fun _ => rfl) (by decide) fun s bad =>
      congrArg Answer.touched (if_neg bad)⟩
  case beginFitment t p | exportOutgoing t p | readFitment t p | commitFitment t p | abortFitment t p =>
    obtain rfl := Option.some.inj carried
    exact .inl ⟨_, .of_fitment (fun _ => rfl) (by decide) fun s bad => fitmentRequest_badLength bad s⟩
  case unknownKind k t p =>
    by_cases known : 1 ≤ k.toNat ∧ k.toNat ≤ 0x22
    · exact nomatch (if_pos known).symm.trans carried
    · obtain rfl := Option.some.inj ((if_neg known).symm.trans carried)
      refine .inr ⟨?_, fun s => congrArg Host.Outcome.next (if_neg known)⟩
      by_cases zero : k.toNat = 0
      · exact .inl (BitVec.eq_of_toNat_eq zero)
      · exact .inr (by simp only; omega)
  case setChannel t p | setLines t p | setTime t p | setEngineThresholds t p | setDriveline t p | loadSample t p | readLive t p |
      setWearWeights t p | readOrphans t p | clearOrphans t p | rearmService t p | readSlot t p | readPosition t p |
      discardSlot t p | openRental t p | closeRental t p | listPeriods t p | readPeriod t p | releasePeriods t p |
      setStoreTiming t p | readStoreStatus t p | setDormancy t p | factoryClear t p | identify t p | readStatus t p |
      takeNotice t p | setNoticeLevels t p =>
    obtain rfl := Option.some.inj carried
    exact .inl ⟨_, .of_plain (fun _ => rfl) (by decide) fun s bad => if_neg bad⟩
  all_goals exact nomatch carried

/-! ## The executor's checks (R186, R197) -/

section
variable {s : State} {c : Instr} {r : Request}

/-- A takeable request that the executor itself refuses. -/
theorem takeable_refused {m : Meaning} {reason : Reason} (h : s.Takeable r) (run : exec c s = .next (s.serve r m))
    (judged : ∀ d, (s.taking d).judge r m = .refused reason (s.taking d)) : s.refuses c r reason := by
  obtain ⟨d, served⟩ := serve_takeable h m
  rw [judged] at served
  exact ⟨_, run.trans (congrArg _ served), rfl, rfl, given_frame d _⟩

theorem takeable_unknown (h : s.Takeable r) (run : exec c s = .next (s.serveUnknown r)) : s.refuses c r .unknownKind := by
  obtain ⟨d, served⟩ := serveUnknown_takeable h
  exact ⟨_, run.trans (congrArg _ served), rfl, rfl, given_frame d _⟩

end

theorem badLengthLeaves_plain {r : Request} (plain : r.kind.toNat < 0x10 ∨ 0x15 < r.kind.toNat) (s : State) :
    r.badLengthLeaves s = s := if_neg fun h => plain.elim (Nat.not_lt.2 h.1) (Nat.not_lt.2 h.2)

theorem badLengthLeaves_fitment {r : Request} (low : 0x10 ≤ r.kind.toNat) (high : r.kind.toNat ≤ 0x15) (s : State) :
    r.badLengthLeaves s = s.touchDeadline := if_pos ⟨low, high⟩

/-- Settles O48: `request_serves` gives the meaning of the row, which the checks of `serve_takeable` come before. -/
theorem requestChecksInOrder : Obligations.RequestChecksInOrder := by
  unfold Obligations.RequestChecksInOrder
  intro s c r carried live places records head
  have takeable (power) : s.Takeable r := ⟨live, power, head, places, records⟩
  have ready (power : s.sup.power = .active) : s.ready r := ⟨live, power, head, places, records⟩
  rcases request_serves carried with ⟨m, known, run, badLength⟩ | ⟨unknown, run⟩
  · have notUnknown : ¬ (r.kind = 0 ∨ 0x22 < r.kind.toNat) := by
      rintro (zero | high)
      · rw [zero] at known
        exact absurd known.1 (by decide)
      · exact absurd known.2 (Nat.not_le.2 high)
    refine ⟨fun unknown _ => absurd unknown notUnknown, fun _ _ notIdentify notStatus starting => ?_,
      fun _ _ active bad => ⟨fun plain => ?_, fun low high => ?_⟩⟩
    · refine takeable_refused (takeable (.inr starting)) (run s) fun d => if_pos ?_
      have power : (s.taking d).sup.power = .starting := starting
      rw [State.startingRefuses, power, bne_iff_ne.2 notIdentify, bne_iff_ne.2 notStatus]
      rfl
    · refine ready_refused (ready active) (run s) fun d => ?_
      rw [badLength _ bad, badLengthLeaves_plain plain]
    · refine ready_turnedAway (ready active) (run s) fun d => ?_
      rw [badLength _ bad, badLengthLeaves_fitment low high]
  · refine ⟨fun _ power => takeable_unknown (takeable power) (run s), fun low high => ?_, fun low high => ?_⟩ <;>
    · rcases unknown with zero | above
      · rw [zero] at low
        exact absurd low (by decide)
      · exact absurd high (Nat.not_le.2 above)

/-! ## Arrivals (R185, R179) -/

section
variable {s : State} {r : Request}

theorem arrive_joins (power : s.sup.power = .active ∨ s.sup.power = .starting) (room : s.link.intake.length < 6) :
    s.arrive r = (s.join r).supervise := by
  have awake : s.wake = s := wake_eq (by rcases power with p | p <;> simp [p])
  have notHoldup : s.sup.power ≠ .holdup := by rcases power with p | p <;> simp [p]
  rw [State.arrive, awake]
  exact (if_neg notHoldup).trans (if_pos room)

theorem arrive_retry (power : s.sup.power = .active ∨ s.sup.power = .starting) (full : 6 ≤ s.link.intake.length) :
    s.arrive r = s.replyIfFree (.retry r.tag r.kind) := by
  have awake : s.wake = s := wake_eq (by rcases power with p | p <;> simp [p])
  have notHoldup : s.sup.power ≠ .holdup := by rcases power with p | p <;> simp [p]
  rw [State.arrive, awake]
  exact (if_neg notHoldup).trans (if_neg (Nat.not_lt.2 full))

theorem arrive_holdup (power : s.sup.power = .holdup) :
    s.arrive r = s.replyIfFree (.refused r.tag r.kind .powerFail) := by
  have awake : s.wake = s := wake_eq (by simp [power])
  rw [State.arrive, awake]
  exact if_pos power

theorem wake_power (power : s.sup.power = .draining ∨ s.sup.power = .dormant) : s.wake.sup.power = .active := by
  unfold State.wake
  rcases power with p | p <;> rw [p] <;> rfl

theorem wake_sup (power : s.sup.power = .draining ∨ s.sup.power = .dormant) :
    s.wake.sup = { s.sup with power := .active, dormancy := s.wake.sup.dormancy } := by
  unfold State.wake
  rcases power with p | p <;> rw [p] <;> rfl

theorem wake_draining (power : s.sup.power = .draining) : s.wake = (s.setPower .active).supervise := by
  unfold State.wake
  rw [power]

theorem wake_dormant (power : s.sup.power = .dormant) : s.wake = (s.startActivity.setPower .active).supervise := by
  unfold State.wake
  rw [power]

/-- In DRAINING and DORMANT an arrival wakes the recorder and is then the arrival of ACTIVE. -/
theorem arrive_wake (power : s.sup.power = .draining ∨ s.sup.power = .dormant) : s.arrive r = s.wake.arrive r := by
  have awake : s.wake.wake = s.wake := wake_eq (by simp [wake_power power])
  rw [State.arrive, State.arrive, awake]

theorem replyIfFree_eq (x : Reply) : s.replyIfFree x = { s with link :=
    if 1 ≤ s.freePlaces then { s.link with replies := s.link.replies ++ [x] }
    else { s.link with dropped := min 65535 (s.link.dropped + 1) } } := by
  unfold State.replyIfFree
  split <;> rfl

end

/-! ## A request that is not taken (R185, R186, R188) -/

/-- The request, unless it is the head request, arrives, and is handed on where the executor can take it. -/
def State.requested (s : State) (r : Request) (take : State → State) : State :=
  if s.live then if (s.accept r).canTake r then take (s.accept r) else s.accept r else s

/-- Every request row comes to `requested`, whatever its meaning. -/
theorem request_requested {c : Instr} {r : Request} (carried : c.request? = some r) :
    ∃ take, ∀ s, exec c s = .next (s.requested r take) := by
  rcases request_serves carried with ⟨m, -, run, -⟩ | ⟨-, run⟩
  · exact ⟨fun u => u.takeHead r m, fun s => (run s).trans rfl⟩
  · exact ⟨fun u => ((Answer.refused .unknownKind u.dropHead).give r).supervise, fun s => (run s).trans rfl⟩

section
variable {s : State} {r : Request} {take : State → State} (live : s.live = true)
include live

theorem requested_waits (blind : ¬ (s.accept r).canTake r = true) : s.requested r take = s.accept r := by
  rw [State.requested, if_pos live, if_neg blind]

/-- A request that has arrived and is not at the head is not taken. -/
theorem requested_arrived (other : s.link.intake.head? ≠ some r) (behind : (s.arrive r).link.intake.head? ≠ some r) :
    s.requested r take = s.arrive r := by
  have accepted : s.accept r = s.arrive r := if_neg other
  rw [requested_waits live (by rw [accepted, canTake_iff]; exact fun h => behind h.1), accepted]

/-- Waking first changes nothing of how the request is handled. -/
theorem requested_wake (other : s.link.intake.head? ≠ some r) (power : s.sup.power = .draining ∨ s.sup.power = .dormant) :
    s.requested r take = s.wake.requested r take := by
  have frame := wake_frame s
  have awake : s.wake.live = true := by rw [State.live, frame.pins (by simp)]; exact live
  have arrived : s.wake.accept r = s.accept r := by
    rw [State.accept, State.accept, frame.link (by simp), if_neg other, if_neg other, ← arrive_wake power]
  rw [State.requested, State.requested, if_pos live, if_pos awake, arrived]

end

theorem not_canTake_of_blocked {s : State} {r : Request} (blocked : s.blocked r) : ¬ s.canTake r = true := by
  rw [canTake_iff]
  rintro ⟨-, places, records⟩
  rcases blocked with few | ⟨deferred, full⟩
  · exact Nat.not_lt.2 places few
  · exact Nat.not_lt.2 full (records deferred)

/-- Settles O49: a request that is not taken leaves what `accept` makes of it; `arrive` is evaluated for each power state. -/
theorem requestWaitsOrWakes : Obligations.RequestWaitsOrWakes := by
  unfold Obligations.RequestWaitsOrWakes
  intro s c r carried live joined atOnce
  obtain ⟨take, run⟩ := request_requested carried
  refine ⟨fun head blocked => ?_, fun other => ⟨fun power room waits => ?_, fun power full => ?_, fun holdup => ?_,
    fun power => ?_⟩⟩
  · have accepted : s.accept r = s := if_pos head
    rw [run, requested_waits live (by rw [accepted]; exact not_canTake_of_blocked blocked), accepted]
  · have arrived : s.accept r = (s.join r).supervise := (if_neg other).trans (arrive_joins power room)
    have link : (s.join r).supervise.link = joined := rfl
    have stuck : ¬ (s.accept r).canTake r = true := by
      rw [arrived]
      rcases waits with some | blocked
      · rw [canTake_iff, link, List.head?_append_of_ne_nil _ some]
        exact fun h => other h.1
      · refine not_canTake_of_blocked ?_
        have places : (s.join r).supervise.freePlaces = s.freePlaces := rfl
        have ctl : (s.join r).supervise.ctl = s.ctl := rfl
        rw [State.blocked, places, ctl]
        exact blocked
    refine ⟨_, (run s).trans (congrArg _ ((requested_waits live stuck).trans arrived)), rfl, rfl, ?_⟩
    exact .then (join_frame ..) (supervise_frame _) (by simp) (by simp)
  · have arrived := (arrive_retry (r := r) power full).trans (replyIfFree_eq _)
    rw [run, requested_arrived live other ?_, arrived]
    rw [arrived]
    simp only
    split <;> exact other
  · have arrived := (arrive_holdup (r := r) holdup).trans (replyIfFree_eq _)
    rw [run, requested_arrived live other ?_, arrived]
    rw [arrived]
    simp only
    split <;> exact other
  · refine ⟨s.wake, ?_, wake_sup power, fun draining => ?_, fun dormant => ?_⟩
    · rw [run, run, requested_wake live other power]
    · rw [wake_draining draining]
      exact .trans (setPower_frame ..) (supervise_frame _)
    · rw [wake_dormant dormant]
      exact ⟨rfl, rfl, by simp [State.sameExcept, State.startActivity, State.setPower, State.supervise]⟩

end Sys2Proof.Machine
end


section
/-! The frame and its framer, BREAK and the reply queue (11 R181 to R185, R187, R188). -/

namespace Sys2Proof.Machine

/-! ## A frame arrives -/

section
variable {s : State}

theorem exec_frameArrival (live : s.live = true) (body : List Byte) (crc : BitVec 16) :
    exec (.frameArrival body crc) s = .next (s.judgeFrame body crc) := congrArg Host.Outcome.next (if_pos live)

theorem judgeFrame_eq_arrive {kind tag : Byte} {payload : List Byte} {crc : BitVec 16} (len : payload.length ≤ 248)
    (sum : frameCrc (kind :: tag :: payload) = crc) :
    s.judgeFrame (kind :: tag :: payload) crc = s.hunt.arrive ⟨kind, tag, payload⟩ :=
  if_pos ⟨Nat.add_le_add_right len 2, sum⟩

theorem judgeFrame_eq_error {body : List Byte} {crc : BitVec 16} (sum : frameCrc body ≠ crc) :
    s.judgeFrame body crc = s.hunt.frameError := if_neg fun h => sum h.2

/-- A request that joins the queue of a recorder just woken is the queue's newest, and the rest is as the wake left it. -/
theorem hunt_arrive_wake {r : Request} (power : s.sup.power = .draining ∨ s.sup.power = .dormant)
    (room : s.link.intake.length < 6) : s.hunt.arrive r = (s.hunt.wake.join r).supervise := by
  have link : s.hunt.wake.link = s.hunt.link := (wake_frame s.hunt).link (by simp)
  have active := wake_power (s := s.hunt) power
  rw [arrive_wake (s := s.hunt) power, arrive_joins (.inl active) (by rw [link]; exact room)]

end

/-- Settles O50: the CRC decides between the frame error and the arrival, which is evaluated for each power state. -/
theorem frameArrives : Obligations.FrameArrives := by
  unfold Obligations.FrameArrives
  intro s kind tag payload crc body c hunt joined atOnce live len
  have run := exec_frameArrival live body crc
  refine ⟨fun sum => ?_, fun sum => ?_⟩
  · refine ⟨_, run.trans (congrArg _ (judgeFrame_eq_error sum)), rfl, .trans (hunt_frame s) (frameError_frame _)⟩
  have arrives : exec c s = .next (s.hunt.arrive ⟨kind, tag, payload⟩) :=
    run.trans (congrArg _ (judgeFrame_eq_arrive len sum))
  have queued (x : Reply) (h : s.hunt.arrive ⟨kind, tag, payload⟩ = s.hunt.replyIfFree x) :
      ∃ t, exec c s = .next t ∧ t.link = atOnce x ∧ s.sameExcept t [.link] := by
    refine ⟨_, arrives.trans (congrArg _ h), ?_, .trans (hunt_frame s) (replyIfFree_frame ..)⟩
    rw [replyIfFree_eq]
    rfl
  refine ⟨fun room power => ?_, fun full power => queued _ (arrive_retry (s := s.hunt) power full),
    fun holdup => queued _ (arrive_holdup (s := s.hunt) holdup), fun room draining => ?_, fun room dormant => ?_⟩
  · refine ⟨_, arrives.trans (congrArg _ (arrive_joins (s := s.hunt) power room)), rfl, rfl, ?_⟩
    exact .trans ((hunt_frame s).mono (by simp)) (.then (join_frame ..) (supervise_frame _) (by simp) (by simp))
  · refine ⟨_, arrives.trans (congrArg _ (hunt_arrive_wake (.inl draining) room)), ?_, ?_, ?_⟩ <;>
      rw [wake_draining (s := s.hunt) draining]
    · rfl
    · rfl
    · exact .trans ((hunt_frame s).mono (by simp)) (.trans (.trans ((setPower_frame ..).mono (by simp))
        ((supervise_frame _).mono (by simp))) (.then (join_frame ..) (supervise_frame _) (by simp) (by simp)))
  · refine ⟨_, arrives.trans (congrArg _ (hunt_arrive_wake (.inr dormant) room)), ?_, ?_, ?_, ?_, ?_⟩ <;>
      rw [wake_dormant (s := s.hunt) dormant]
    · rfl
    · rfl
    · rfl
    · rfl
    · simp [State.sameExcept, State.startActivity, State.setPower, State.supervise, State.hunt, State.join]

/-! ## The framer (R181 to R183) -/

section
variable {s : State}

theorem exec_characterReceived (live : s.live = true) (b : Byte) (stop : Bool) :
    exec (.characterReceived b stop) s = .next (if stop then s.takeByte b else s.badCharacter) :=
  congrArg Host.Outcome.next (if_pos live)

/-- The characters of a byte list, each with its stop bit high. -/
def characters (bs : List Byte) : List Instr := bs.map fun b => .characterReceived b true

theorem execAll_characters_cons (live : s.live = true) (b : Byte) (bs : List Byte) :
    execAll (characters (b :: bs)) s = execAll (characters bs) (s.takeByte b) := by
  rw [characters, List.map_cons, execAll, exec_characterReceived live]
  rfl

variable (s)

/-- Between the bytes of a frame only the framer and the gap timer change. -/
@[simp] theorem framing_framing (f g : Framer) : (s.framing f).framing g = s.framing g := rfl

@[simp] theorem framing_hunt (f : Framer) : (s.framing f).hunt = s.hunt := rfl

theorem takeByte_hunt (hunting : s.link.framer = .hunt) (b : Byte) :
    s.takeByte b = if b = 0xC3 then s.framing .length else s := by rw [State.takeByte, hunting]

theorem takeByte_length {b : Byte} (low : 2 ≤ b.toNat) (high : b.toNat ≤ 250) :
    (s.framing .length).takeByte b = s.framing (.body b.toNat []) := if_pos ⟨low, high⟩

theorem takeByte_body (len : Nat) (got : List Byte) (b : Byte) : (s.framing (.body len got)).takeByte b =
    if (got ++ [b]).length < len then s.framing (.body len (got ++ [b])) else s.framing (.check (got ++ [b]) none) := rfl

variable {s} (live : s.live = true)
include live

/-- The rest of a body, byte by byte, and what follows it. -/
theorem execAll_body (got rest after : List Byte) (some : rest ≠ []) :
    execAll (characters (rest ++ after)) (s.framing (.body (got ++ rest).length got)) =
      execAll (characters after) (s.framing (.check (got ++ rest) none)) := by
  induction rest generalizing got with
  | nil => exact absurd rfl some
  | cons b bs ih =>
    have moved : got ++ b :: bs = (got ++ [b]) ++ bs := by simp
    rw [List.cons_append, execAll_characters_cons (s := s.framing _) live, takeByte_body]
    cases bs with
    | nil => rw [if_neg (by simp)]; rfl
    | cons b' bs' =>
      rw [moved, if_pos (by simp), ih (got ++ [b]) (by simp)]

theorem execAll_check (body : List Byte) (low high : Byte) :
    execAll (characters [low, high]) (s.framing (.check body none)) = .next (s.judgeFrame body (high ++ low)) := by
  rw [execAll_characters_cons (s := s.framing _) live]
  have second : (s.framing (.check body none)).takeByte low = s.framing (.check body (some low)) := rfl
  rw [second, execAll_characters_cons (s := s.framing _) live]
  rfl

omit live in
/-- The two bytes of a CRC, low byte first, give it back. -/
theorem crc_bytes (crc : BitVec 16) : leBytes 2 crc.toNat = [crc.setWidth 8, (crc >>> 8).setWidth 8] ∧
    ((crc >>> 8).setWidth 8 ++ crc.setWidth 8 : BitVec 16) = crc := by
  refine ⟨?_, ?_⟩
  · have shift : crc.toNat / 256 = crc.toNat >>> 8 := (Nat.shiftRight_eq_div_pow _ 8).symm
    simp only [leBytes, shift, List.cons.injEq, and_true]
    exact ⟨BitVec.eq_of_toNat_eq (by simp), BitVec.eq_of_toNat_eq (by simp)⟩
  · ext i h
    simp only [BitVec.getElem_append, BitVec.getElem_setWidth, BitVec.getLsbD_ushiftRight]
    split
    · exact (BitVec.getLsbD_eq_getElem h)
    · rename_i high
      rw [Nat.add_sub_cancel' (Nat.le_of_not_lt high)]
      exact BitVec.getLsbD_eq_getElem h

/-- The characters of a whole frame, received in HUNT, come to its arrival (R181, R182). -/
theorem execAll_frame (hunting : s.link.framer = .hunt) {body : List Byte} (low : 2 ≤ body.length) (high : body.length ≤ 250) :
    execAll (characters (frameBytes body)) s = exec (.frameArrival body (frameCrc body)) s := by
  have length : (BitVec.ofNat 8 body.length).toNat = body.length := by
    rw [BitVec.toNat_ofNat]; exact Nat.mod_eq_of_lt (by omega)
  have start : s.takeByte 0xC3 = s.framing .length := (takeByte_hunt s hunting _).trans (if_pos rfl)
  have counted : (s.framing .length).takeByte (BitVec.ofNat 8 body.length) = s.framing (.body body.length []) := by
    rw [takeByte_length s (length.symm ▸ low) (length.symm ▸ high), length]
  have some : body ≠ [] := by rintro rfl; exact absurd low (by decide)
  rw [frameBytes, execAll_characters_cons live, start, execAll_characters_cons (s := s.framing _) live, counted,
    (crc_bytes _).1]
  have read := execAll_body live [] body [(frameCrc body).setWidth 8, ((frameCrc body) >>> 8).setWidth 8] some
  rw [List.nil_append] at read
  rw [read, execAll_check live, (crc_bytes _).2, exec_frameArrival live]

end

/-- Settles O51: the framer is followed byte by byte through a frame; the other characters are branches of `takeByte`. -/
theorem framerReadsCharacters : Obligations.FramerReadsCharacters := by
  unfold Obligations.FramerReadsCharacters
  refine fun s live => ⟨fun body hunting low high => execAll_frame live hunting low high,
    fun b hunting => ⟨?_, ?_⟩, fun b away => ?_, fun due running => ?_⟩
  · exact (exec_characterReceived live b false).trans (congrArg _ (if_pos hunting))
  · exact (exec_characterReceived live b true).trans (congrArg _ (takeByte_hunt s hunting b))
  · exact (exec_characterReceived live b false).trans (congrArg _ (if_neg away))
  · show execGapTimerExpiry s = _
    rw [execGapTimerExpiry, running]
    rfl

/-! ## BREAK and REPLY_SENT (R184, R188) -/

/-- Settles O52: both commands' successor states are written out. -/
theorem breakAndReplySent : Obligations.BreakAndReplySent := by
  unfold Obligations.BreakAndReplySent
  refine fun s live => ⟨fun sending => ?_, fun reply rest queue => ?_⟩
  · refine ⟨s.takeBreak sending, congrArg Host.Outcome.next (if_pos live), rfl, rfl, rfl, ?_⟩
    simp [State.sameExcept, State.takeBreak, State.supervise]
  · have run : exec .replySent s = .next { s with link := { s.link with replies := s.link.replies.tail } } :=
      congrArg Host.Outcome.next (if_pos live)
    rw [run, queue]
    rfl

end Sys2Proof.Machine
end


section
/-! Requests that clear, release or close (05 R90, 08 R139, R145, 10 R180): what is left of the tallies and of the Period Book. -/

namespace Sys2Proof.Machine

/-! ## Operations that only mark lines -/

theorem State.marksOnly.refl (s : State) : s.marksOnly s := .of_ctl rfl

theorem State.marksOnly.foldl {α : Type} {f : State → α → State} (step : ∀ (s : State) x, s.marksOnly (f s x)) (xs : List α) (s : State) :
    s.marksOnly (xs.foldl f s) := by
  induction xs generalizing s with
  | nil => exact .refl s
  | cons x xs ih => exact (step s x).trans (ih _)

/-- A ready deferred request whose execution only marks lines in the Store Controller and leaves the link alone (R156, R186). -/
theorem ready_marks {s : State} {r : Request} {c : Instr} {m : Meaning} {body : List Byte} {lines : List Nat} {g : Timer → State}
    {bs : List Block} (ready : s.ready r) (run : exec c s = .next (s.serve r m))
    (judged : ∀ d, m r.payload (s.taking d) = .deferred body lines (g d)) (frame : ∀ d, (s.taking d).sameExcept (g d) bs)
    (marks : ∀ d, (s.taking d).marksOnly (g d)) (out : ∀ b ∈ [Block.link, .sup, .nextId], b ∉ bs := by decide) :
    ∃ d t, exec c s = .next t ∧ s.answered t (.deferred r.tag body) ∧ s.samePower t ∧ s.awaiting t r lines ∧
      s.ctl.sameSettings t.ctl ∧ (g d).sameExcept t [.nextId, .ctl, .link, .sup] ∧
      s.sameExcept t (.nextId :: .ctl :: .link :: .sup :: bs) := by
  obtain ⟨d, t, next, link, power, awaits, settings, after, kept⟩ := ready_awaits ready run judged frame
    (out _ (by simp)) (out _ (by simp)) (fun d => (marks d).records) (fun d => (marks d).holds) (fun d => (marks d).sameSettings)
  refine ⟨d, t, next, ?_, power, awaits, settings, after, kept⟩
  rw [(frame d).link (out _ (by simp))] at link
  exact link

/-! ## CLEAR_ORPHANS (R90) -/

/-- A tally with every value 0 and every mark clear. -/
def Tally.IsCleared (x : Tally) : Prop :=
  (∀ y ∈ x.scalars, y.value = some 0 ∧ y.saturated = false) ∧
  (∀ y ∈ x.hists, (∀ v ∈ y.values, v = some 0) ∧ y.saturated = false)

theorem cleared_isCleared (x : Tally) : x.cleared.IsCleared := by
  simp [Tally.IsCleared, Tally.cleared, Scalar.cleared, Hist.cleared]

theorem orphanLine_eq (p : Position) : orphanLine p = 66 + p.code := by cases p <;> rfl

section
variable (s : State) (p : Position)

theorem clearOrphan_tally : (s.clearOrphan p).tally =
    { s.tally with orphans := s.tally.orphans.set p.index s.tally.orphans[p.index].cleared } := rfl

theorem clearOrphan_marksOnly : s.marksOnly (s.clearOrphan p) := rfl

theorem clearOrphan_self : (s.clearOrphan p).tally.orphans[p.index] = s.tally.orphans[p.index].cleared := by
  simp [clearOrphan_tally]

theorem clearOrphan_other {q : Position} (h : q ≠ p) :
    (s.clearOrphan p).tally.orphans[q.index] = s.tally.orphans[q.index] := by
  simp [clearOrphan_tally, Vector.getElem_set_ne _ _ (index_val_ne h)]

end

theorem exec_clearOrphans (s : State) (tag : Byte) (payload : List Byte) :
    exec (.clearOrphans tag payload) s = .next (s.serve ⟨0x0B, tag, payload⟩ clearOrphansMeaning) := rfl

/-- Settles O26: an unknown position is refused, and another's orphan tally is cleared by `clearOrphan`. -/
theorem orphansCleared : Obligations.OrphansCleared := by
  unfold Obligations.OrphansCleared
  intro s tag
  refine ⟨fun b high ready => ready_refused ready (exec_clearOrphans ..) fun d => atPosition_eq_outOfRange high _, fun p => ?_⟩
  intro r ready
  obtain ⟨d, t, next, answered, power, awaits, settings, after, frame⟩ := ready_marks ready (exec_clearOrphans ..)
    (fun d => atPosition_eq p (s.taking d)) (fun d => clearOrphan_frame (s.taking d) p) (fun d => clearOrphan_marksOnly ..)
  have tally : t.tally = (s.clearOrphan p).tally := after.tally (by simp)
  have own : t.tally.orphans[p.index] = s.tally.orphans[p.index].cleared := by rw [tally, clearOrphan_self]
  obtain ⟨scalars, hists⟩ := cleared_isCleared s.tally.orphans[p.index]
  refine ⟨t, next, answered, power, ?_, ?_, ?_, fun q other => ?_, ?_, ?_, ?_, settings, frame.mono (by simp)⟩
  · rw [own]; exact scalars
  · rw [own]; exact hists
  · rw [own]; simp [Tally.cleared, Scalar.cleared]
  · rw [tally, clearOrphan_other s p other]
  · rw [tally]; rfl
  · rw [tally]; rfl
  · rw [← orphanLine_eq]; exact awaits

/-! ## CLOSE_RENTAL (R139) -/

section
variable {s : State} {info : PeriodInfo} (contract : Text)

theorem closeRental_eq_wrongState (other : s.openKind ≠ some .rental) : s.closeRental contract = .refused .wrongState s :=
  if_pos other

section
variable (rental : s.openKind = some .rental)
include rental

theorem closeRental_eq_contractMismatch (other : s.openContract ≠ some contract) :
    s.closeRental contract = .refused .contractMismatch s := by
  rw [State.closeRental, if_neg (not_not_intro rental), if_pos other]

variable {contract} (same : s.openContract = some contract)
include same

theorem closeRental_eq_fitmentOpen (fitting : s.fitment ≠ none) : s.closeRental contract = .refused .fitmentOpen s := by
  rw [State.closeRental, if_neg (not_not_intro rental), if_neg (not_not_intro same),
    if_pos (Option.isSome_iff_ne_none.2 fitting)]

/-- With the rental's own contract and no fitment context the room decides. -/
theorem closeRental_of_none (closed : s.fitment = none) : s.closeRental contract =
    if s.book.canOpen then s.closeAfter else .refused .bookFull s := by
  rw [State.closeRental, if_neg (not_not_intro rental), if_neg (not_not_intro same), closed]
  rfl

end

theorem openContract_eq (opened : s.openInfo = some info) : s.openContract = info.contract := by
  rw [State.openContract, opened, Option.bind_some]

end

theorem exec_closeRental (s : State) (tag : Byte) (payload : List Byte) :
    exec (.closeRental tag payload) s = .next (s.serve ⟨0x17, tag, payload⟩ closeRentalMeaning) := rfl

/-- Settles O44: each refusal is the branch of `closeRental` that its check takes; a rental that is closed turns the page
(`ready_turnsPage`). -/
theorem rentalClosed : Obligations.RentalClosed := by
  unfold Obligations.RentalClosed
  intro s tag payload r c n pl time ready len
  have run : exec c s = .next (s.serve r closeRentalMeaning) := exec_closeRental ..
  refine ⟨fun bad => ready_refused ready run fun d => withContract_eq_outOfRange _ _ len bad, ?_⟩
  intro contract h info text opened present room
  have answer : ∀ d, closeRentalMeaning r.payload (s.taking d) = (s.taking d).closeRental contract := fun d =>
    withContract_eq _ _ len text
  have current : s.openInfo = some info := openInfo_eq opened present
  have kind : s.openKind = some info.kind := openKind_eq current
  have agreed : s.openContract = info.contract := openContract_eq current
  have opens : s.book.canOpen = true ↔ room := canOpen_iff s.book
  rw [← opens, ← agreed]
  have rental_kind : info.kind = .rental → s.openKind = some .rental := fun rental => kind.trans (congrArg some rental)
  refine ⟨fun other => ready_refused ready run fun d => ?_, fun rental mismatch => ready_refused ready run fun d => ?_,
    fun rental same fitting => ready_refused ready run fun d => ?_,
    fun rental same closed full => ready_refused ready run fun d => ?_, fun rental same closed free => ?_⟩
  · exact (answer d).trans (closeRental_eq_wrongState (s := s.taking d) _ fun rental =>
      other (Option.some.inj (kind.symm.trans rental)))
  · exact (answer d).trans (closeRental_eq_contractMismatch (s := s.taking d) _ (rental_kind rental) mismatch)
  · exact (answer d).trans (closeRental_eq_fitmentOpen (s := s.taking d) (rental_kind rental) same fitting)
  · exact (answer d).trans ((closeRental_of_none (s := s.taking d) (rental_kind rental) same closed).trans (if_neg full))
  · have after : ∀ d, closeRentalMeaning r.payload (s.taking d) = (s.taking d).closeAfter := fun d =>
      (answer d).trans ((closeRental_of_none (s := s.taking d) (rental_kind rental) same closed).trans (if_pos free))
    obtain ⟨t, next, reply, power, book, awaits, -, -, settings, frame⟩ := ready_turnsPage
      (body := leBytes 4 n ++ leBytes 4 (n + 1)) (lines := turnLines n ++ [5]) ready run opened after
    exact ⟨t, next, reply, power, book.trans (turnPage_book _ _ _ _ _ opened), awaits, settings, frame⟩

/-! ## RELEASE_PERIODS (R145) -/

section
variable (s : State)

theorem freePlace_place (p q : Fin 24) : (s.freePlace p).book.places[q] =
    if p = q then { s.book.places[q] with header := none } else s.book.places[q] := by
  have places : (s.freePlace p).book.places = s.book.places.set p { s.book.places[p] with header := none } := rfl
  rw [places]
  by_cases h : p = q
  · subst h
    simp
  · have ne : p.val ≠ q.val := fun e => h (Fin.ext e)
    simp [h, ne]

theorem freePlace_marksOnly (p : Fin 24) : s.marksOnly (s.freePlace p) := rfl

/-- Freed places have lost their headers and keep their increment lines. -/
theorem freePlaces_place (qs : List Nat) (p : Fin 24) : (qs.foldl (fun s q => s.freePlace (placeOf q)) s).book.places[p] =
    if ∃ q ∈ qs, placeOf q = p then { s.book.places[p] with header := none } else s.book.places[p] := by
  induction qs generalizing s with
  | nil => simp
  | cons q qs ih =>
    rw [List.foldl_cons, ih, freePlace_place]
    by_cases later : ∃ x ∈ qs, placeOf x = p <;> by_cases now : placeOf q = p <;> simp [later, now]

theorem freePlaces_marksOnly (qs : List Nat) : s.marksOnly (qs.foldl (fun s q => s.freePlace (placeOf q)) s) :=
  .foldl (fun s q => freePlace_marksOnly s (placeOf q)) qs s

theorem removeRecords_marksOnly (qs : List Nat) : s.marksOnly (s.removeRecords qs) :=
  (freePlaces_marksOnly s qs).trans rfl

theorem removeRecords_place (qs : List Nat) (p : Fin 24) : (s.removeRecords qs).book.places[p] =
    if ∃ q ∈ qs, placeOf q = p then { s.book.places[p] with header := none } else s.book.places[p] :=
  freePlaces_place s qs p

end

theorem release_eq (s : State) (upTo : Nat) : s.release upTo =
    .deferred (leBytes 1 (s.book.released upTo).length ++ leBytes 4 (s.book.oldest + (s.book.released upTo).length))
      (headerLines (s.book.released upTo) ++ [5]) (s.removeRecords (s.book.released upTo)) := by
  obtain ⟨-, oldest, -⟩ := removeRecords_book s (s.book.released upTo) 0
  rw [← oldest]
  rfl

theorem exec_releasePeriods (s : State) (tag : Byte) (payload : List Byte) :
    exec (.releasePeriods tag payload) s = .next (s.serve ⟨0x1A, tag, payload⟩ releaseMeaning) := rfl

/-- Settles O45: the records released are the oldest ones (`released_eq`), and `removeRecords` frees their places. -/
theorem periodsReleased : Obligations.PeriodsReleased := by
  unfold Obligations.PeriodsReleased
  intro s tag payload r b k ready len order
  have gone : b.released (field payload 0 4) = (List.range k).map (b.oldest + ·) := by
    have inside : k ≤ b.count :=
      Nat.sub_le_sub_right (Nat.le_trans (Nat.min_le_right _ _) (Nat.le_succ _)) _
    exact (released_eq ..).trans (congrArg (fun n => (List.range n).map (b.oldest + ·)) (Nat.min_eq_right inside))
  have length : (b.released (field payload 0 4)).length = k := by rw [gone]; simp
  have freed (pl : Fin 24) : (∃ q ∈ b.released (field payload 0 4), placeOf q = pl) ↔ ∃ j, j < k ∧ placeOf (b.oldest + j) = pl := by
    rw [gone]
    simp
  obtain ⟨d, t, next, answered, power, awaits, settings, after, frame⟩ := ready_marks
    (body := leBytes 1 (b.released (field payload 0 4)).length ++ leBytes 4 (b.oldest + (b.released (field payload 0 4)).length))
    (lines := headerLines (b.released (field payload 0 4)) ++ [5]) ready (exec_releasePeriods ..)
    (fun d => (sized_eq len (s.taking d)).trans (release_eq (s.taking d) _)) (fun d => removeRecords_frame (s.taking d) (b.released (field payload 0 4)))
    (fun d => removeRecords_marksOnly ..)
  have book : t.book = ((s.taking d).removeRecords (b.released (field payload 0 4))).book := after.book (by simp)
  obtain ⟨-, oldest, newest⟩ := removeRecords_book (s.taking d) (b.released (field payload 0 4)) 0
  have place (pl : Fin 24) : t.book.places[pl] =
      if ∃ j, j < k ∧ placeOf (b.oldest + j) = pl then { b.places[pl] with header := none } else b.places[pl] := by
    rw [book, removeRecords_place]
    exact if_congr (freed pl) rfl rfl
  have moved : t.book.oldest = b.oldest + k := by rw [book, oldest, length]; rfl
  have reply : s.answered t (.deferred tag (leBytes 1 (b.released (field payload 0 4)).length ++
    leBytes 4 (b.oldest + (b.released (field payload 0 4)).length))) := answered
  refine ⟨t, next, by rw [length] at reply; exact reply, power, moved, by rw [book, newest]; rfl, fun pl => ?_, fun j inside => ?_, fun pl out => ?_, ?_,
    settings, frame.mono (by simp)⟩
  · rw [place]; split <;> rfl
  · rw [place, if_pos ⟨j, inside, rfl⟩]
  · rw [place, if_neg fun ⟨j, inside, e⟩ => out j inside e]
  · have lines : headerLines (b.released (field payload 0 4)) = (List.range k).map fun j => 82 + 4 * ((b.oldest + j) % 24) := by
      rw [headerLines, gone, List.map_map]
      rfl
    have awaited : s.awaiting t r (headerLines (b.released (field payload 0 4)) ++ [5]) := awaits
    rw [lines] at awaited
    exact awaited

/-! ## FACTORY_CLEAR (R180) -/

section
variable (s : State)

theorem allEmpty_iff : s.allEmpty = true ↔ ∀ i : Fin 20, s.table.slots[i].ident.state = .empty := by
  simp only [State.allEmpty, List.all_eq_true, decide_eq_true_eq, Vector.mem_toList_iff, Vector.mem_iff_getElem]
  refine ⟨fun h i => h _ ⟨i.val, i.isLt, rfl⟩, ?_⟩
  rintro h _ ⟨i, lt, rfl⟩
  exact h ⟨i, lt⟩

theorem clearOrphans_marksOnly (ps : List Position) : s.marksOnly (ps.foldl State.clearOrphan s) :=
  .foldl clearOrphan_marksOnly ps s

theorem clearOrphans_tally (ps : List Position) :
    (ps.foldl State.clearOrphan s).tally.weights = s.tally.weights ∧
    (ps.foldl State.clearOrphan s).tally.accrual = s.tally.accrual ∧
    ∀ p, p ∈ ps ∨ s.tally.orphans[p.index].IsCleared → (ps.foldl State.clearOrphan s).tally.orphans[p.index].IsCleared := by
  induction ps generalizing s with
  | nil => exact ⟨rfl, rfl, fun p h => h.resolve_left (by simp)⟩
  | cons q qs ih =>
    obtain ⟨weights, accrual, clear⟩ := ih (s.clearOrphan q)
    refine ⟨weights, accrual, fun p h => clear p ?_⟩
    by_cases e : p = q
    · subst e
      exact .inr (by rw [clearOrphan_self]; exact cleared_isCleared _)
    · rw [clearOrphan_other s q e]
      exact h.imp_left fun mem => (List.mem_cons.1 mem).resolve_left e

theorem resetBook_marksOnly : s.marksOnly s.resetBook :=
  .trans (u := s.reopened) ((freePlaces_marksOnly s s.book.seqs.reverse).trans (openRecord_marksOnly _ _))
    (.of_ctl (by rw [resetBook_eq]))

theorem resetBook_first : s.resetBook.book.places[placeOf 1] = openedPlace (openedHeader 1 .idle none 0 .cleared s.timeField) := by
  have place : s.resetBook.book.places[placeOf 1] = s.reopened.book.places[placeOf 1] := by rw [resetBook_eq]
  rw [place, State.reopened, openRecord_bookAt]
  exact if_pos rfl

theorem placeOf_eq_one (q : Nat) : placeOf q = 1 ↔ q % 24 = 1 := by
  rw [Fin.ext_iff]
  rfl

end

theorem exec_factoryClear (s : State) (tag : Byte) (payload : List Byte) :
    exec (.factoryClear tag payload) s = .next (s.serve ⟨0x1E, tag, payload⟩ factoryClearMeaning) := rfl

theorem factoryClearMeaning_eq (s : State) : factoryClearMeaning [] s =
    if !s.allEmpty then .refused .slotsOccupied s
    else if s.fitment.isSome then .refused .fitmentOpen s
    else .deferred [] s.clearLines s.clearAllOrphans.resetBook := sized_nil ..

theorem orphanLines_eq : orphanLines = (List.range 16).map (66 + ·) := by decide

/-- Settles O46: `clearAllOrphans` leaves every orphan tally cleared, and `resetBook` the record of place 1 alone. -/
theorem partCleared : Obligations.PartCleared := by
  unfold Obligations.PartCleared
  intro s tag r time ready
  refine ⟨fun ⟨i, held⟩ => ready_refused ready (exec_factoryClear ..) fun d => ?_, fun empty => ?_⟩
  · have occupied : ¬ (s.taking d).allEmpty = true := fun h => held ((allEmpty_iff _).1 h i)
    exact (factoryClearMeaning_eq _).trans (if_pos (by simpa using occupied))
  have free (d) : ¬ (!(s.taking d).allEmpty) = true := by simpa using (allEmpty_iff (s.taking d)).2 empty
  refine ⟨fun opened => ready_refused ready (exec_factoryClear ..) fun d => ?_, fun closed => ?_⟩
  · exact (factoryClearMeaning_eq _).trans ((if_neg (free d)).trans (if_pos (Option.isSome_iff_ne_none.2 opened)))
  have none (d) : ¬ (s.taking d).fitment.isSome = true := by
    have : (s.taking d).fitment = none := closed
    simp [this]
  obtain ⟨d, t, next, answered, power, awaits, settings, after, frame⟩ := ready_marks (body := []) (lines := s.clearLines)
    (bs := [.tally, .book, .ctl]) ready
    (exec_factoryClear ..) (fun d => (factoryClearMeaning_eq _).trans ((if_neg (free d)).trans (if_neg (none d))))
    (fun d => .trans ((clearAllOrphans_frame _).mono (by simp)) ((resetBook_frame _).mono (by simp)))
    (fun d => (clearOrphans_marksOnly _ Position.all).trans (resetBook_marksOnly _))
  let u := (s.taking d).clearAllOrphans
  have tally : t.tally = u.tally := (after.tally (by simp)).trans ((resetBook_frame u).tally (by simp))
  have book : t.book = u.resetBook.book := after.book (by simp)
  have before : u.book = s.book := (clearAllOrphans_frame (s.taking d)).book (by simp)
  have clock : u.clock = s.clock := (clearAllOrphans_frame (s.taking d)).clock (by simp)
  obtain ⟨weights, accrual, clear⟩ := clearOrphans_tally (s.taking d) Position.all
  refine ⟨t, next, answered, power, fun p => ?_, by rw [tally]; exact weights, by rw [tally]; exact accrual,
    by rw [book, resetBook_oldest], by rw [book, resetBook_newest], ?_, fun q old new other => ?_, ?_, settings, frame.mono (by simp)⟩
  · rw [tally]
    exact clear p (.inl (mem_all p))
  · have first : t.book.places[1] = openedPlace (openedHeader 1 .idle Option.none 0 .cleared u.timeField) := by
      rw [book]; exact resetBook_first u
    rw [first, State.timeField, clock]
    rfl
  · have member : ∃ x ∈ u.book.seqs.reverse, placeOf x = placeOf q :=
      ⟨q, by rw [before, List.mem_reverse, mem_seqs]; exact ⟨old, new⟩, rfl⟩
    have away : placeOf q ≠ placeOf 1 := fun e => other ((placeOf_eq_one q).1 e)
    rw [book, resetBook_place, if_neg away, if_pos member]
  · have lines : s.clearLines = ((s.book.seqs.reverse.filter fun q => decide (q % 24 ≠ 1)).map fun q =>
        82 + 4 * (q % 24)) ++ [86, 87, 88, 89] ++ (List.range 16).map (66 + ·) ++ [5] := by
      rw [State.clearLines, orphanLines_eq]
      simp only [ne_eq, placeOf_eq_one]
      rfl
    have awaited : s.awaiting t r s.clearLines := awaits
    rw [lines] at awaited
    exact awaited

end Sys2Proof.Machine
end


section
/-! Notices (11 R190 to R193) and the two thresholds of a slot (05 R91 to R93): what a raise and what a test leave. -/

namespace Sys2Proof.Machine

/-! ## A raise (R190) -/

section
variable (s : State) (k : NoticeKind) (d : Detail)

theorem raise_notice_self : (s.raise k d).notice k = s.noticeAfter k d (s.notice k) := by
  unfold State.raise State.noticeAfter
  split
  · rfl
  · cases h : s.link.notices[k.index] with
    | none => simp [State.notice, h, Notice.raised]
    | some x => simp [State.notice, h, Notice.raised, bump, Config.max8]

variable {k} in
theorem raise_notice_ne {j : NoticeKind} (h : j ≠ k) : (s.raise k d).notice j = s.notice j := by
  unfold State.raise
  split
  · rfl
  · simp [State.notice, Vector.getElem_set_ne _ _ (NoticeKind.index_val_ne h)]

theorem raise_link : (s.raise k d).link = { s.link with notices := (s.raise k d).link.notices } := by
  unfold State.raise
  split <;> rfl

theorem raise_level (j : NoticeKind) : (s.raise k d).level j = s.level j := by
  rw [State.level, raise_link]
  rfl

theorem raise_of_off (off : s.level k = 0) : s.raise k d = s := if_pos off

theorem raise_ctl : (s.raise k d).ctl = s.ctl := (raise_frame s k d).ctl (by simp)

theorem noticeAfter_none (on : s.level k ≠ 0) : s.noticeAfter k d none = some { detail := d, repeats := 0 } := if_neg on

theorem noticeAfter_ne_none (on : s.level k ≠ 0) (n : Option Notice) : s.noticeAfter k d n ≠ none := by
  unfold State.noticeAfter
  rw [if_neg on]
  exact Option.some_ne_none _

end

theorem notice_of_link {s t : State} (h : t.link = s.link) (k : NoticeKind) : t.notice k = s.notice k := by
  rw [State.notice, State.notice, h]

theorem level_of_settings {s t : State} (h : t.link.settings = s.link.settings) (k : NoticeKind) : t.level k = s.level k := by
  rw [State.level, State.level, h]

theorem noticeAfter_congr {s t : State} (h : t.link.settings = s.link.settings) (k : NoticeKind) (d : Detail) (n : Option Notice) :
    t.noticeAfter k d n = s.noticeAfter k d n := by
  unfold State.noticeAfter
  rw [level_of_settings h]

/-! ## The service threshold (R91) -/

/-- The service threshold after its test against a tally. -/
def serviceTested (x : Tally) (l : Service × Life) : Service × Life :=
  ({ l.1 with armed := l.1.armed && (match l.1.quantity with
      | some q => decide ((x.value q).getD 0 < l.1.due)
      | none => true) }, l.2)

/-- The life limit after its test against a tally (R93). -/
def lifeTested (x : Tally) (l : Service × Life) : Service × Life :=
  (l.1, { l.2 with overLife := l.2.overLife || decide (0 < l.2.limit ∧ l.2.limit ≤ (x.value l.2.quantity).getD 0) })

/-- The armed flag of a slot, false without thresholds. -/
def Slot.isArmed (x : Slot) : Bool := (x.ident.limits.map fun l => l.1.armed).getD false

/-- OVER_LIFE of a slot, false without thresholds. -/
def Slot.isOver (x : Slot) : Bool := (x.ident.limits.map fun l => l.2.overLife).getD false

/-- The slot after the test of its service threshold. -/
def Slot.serviced (x : Slot) : Slot := x.withLimits (serviceTested x.tally)

/-- The slot after the test of its life limit. -/
def Slot.aged (x : Slot) : Slot := x.withLimits (lifeTested x.tally)

/-- A service threshold reached: armed before the test and disarmed by it. -/
def Slot.falls (x : Slot) : Bool := x.isArmed && !x.serviced.isArmed

/-- A life limit reached: OVER_LIFE clear before the test and set by it. -/
def Slot.expires (x : Slot) : Bool := !x.isOver && x.aged.isOver

section
variable {x : Slot} {sv : Service} {lf : Life}

theorem serviced_of_limits (limits : x.ident.limits = some (sv, lf)) :
    x.serviced = { x with ident := { x.ident with limits := some (serviceTested x.tally (sv, lf)) } } := by
  rw [Slot.serviced, Slot.withLimits, limits]
  rfl

theorem aged_of_limits (limits : x.ident.limits = some (sv, lf)) :
    x.aged = { x with ident := { x.ident with limits := some (lifeTested x.tally (sv, lf)) } } := by
  rw [Slot.aged, Slot.withLimits, limits]
  rfl

theorem serviced_of_none (limits : x.ident.limits = none) : x.serviced = x :=
  withLimits_id fun l h => by rw [limits] at h; exact nomatch h

theorem aged_of_none (limits : x.ident.limits = none) : x.aged = x :=
  withLimits_id fun l h => by rw [limits] at h; exact nomatch h

theorem falls_of_limits (limits : x.ident.limits = some (sv, lf)) :
    x.falls = (sv.armed && !(serviceTested x.tally (sv, lf)).1.armed) := by
  rw [Slot.falls, serviced_of_limits limits]
  simp [Slot.isArmed, limits]

theorem expires_of_limits (limits : x.ident.limits = some (sv, lf)) :
    x.expires = (!lf.overLife && (lifeTested x.tally (sv, lf)).2.overLife) := by
  rw [Slot.expires, aged_of_limits limits]
  simp [Slot.isOver, limits]

end

section
variable (s : State) (i : Fin 20)

/-- The test of a service threshold, in one line: where it falls, the slot changes, its line is marked and SERVICE_DUE is raised. -/
theorem testService_eq : s.testService i = if s.table.slots[i].falls then
    ((s.setSlot i s.table.slots[i].serviced).markDirty (identLine i)).raise .serviceDue (.slot i) else s := by
  unfold State.testService
  generalize hx : s.table.slots[i] = x
  dsimp only
  split
  · rename_i limits
    rw [if_neg (by simp [Slot.falls, serviced_of_none limits])]
  · rename_i sv lf limits
    rw [falls_of_limits limits, serviced_of_limits limits]
    obtain ⟨_ | q, due, armed⟩ := sv
    · simp [serviceTested]
    · cases armed with
      | false => simp [serviceTested]
      | true => by_cases low : due ≤ (x.tally.value q).getD 0 <;> simp [serviceTested, low, Nat.not_lt.2]

theorem testLife_eq : s.testLife i = if s.table.slots[i].expires then
    ((s.setSlot i s.table.slots[i].aged).markDirty (identLine i)).raise .lifeLimit (.slot i) else s := by
  unfold State.testLife
  generalize hx : s.table.slots[i] = x
  dsimp only
  split
  · rename_i limits
    rw [if_neg (by simp [Slot.expires, aged_of_none limits, Slot.isOver])]
  · rename_i sv lf limits
    rw [expires_of_limits limits, aged_of_limits limits]
    obtain ⟨q, limit, past⟩ := lf
    cases past with
    | true => simp [lifeTested]
    | false =>
      by_cases low : 0 < limit ∧ limit ≤ (x.tally.value q).getD 0
      · simp [lifeTested, low]
      · simp [lifeTested, low]

theorem serviced_of_not_falls {x : Slot} (h : ¬ x.falls = true) : x.serviced = x := by
  cases limits : x.ident.limits with
  | none => exact serviced_of_none limits
  | some l =>
    obtain ⟨sv, lf⟩ := l
    rw [falls_of_limits limits] at h
    refine withLimits_id fun l e => ?_
    obtain rfl := Option.some.inj (limits.symm.trans e)
    obtain ⟨q, due, armed⟩ := sv
    cases armed with
    | false => rfl
    | true => simp [serviceTested] at h ⊢; exact h

theorem aged_of_not_expires {x : Slot} (h : ¬ x.expires = true) : x.aged = x := by
  cases limits : x.ident.limits with
  | none => exact aged_of_none limits
  | some l =>
    obtain ⟨sv, lf⟩ := l
    rw [expires_of_limits limits] at h
    refine withLimits_id fun l e => ?_
    obtain rfl := Option.some.inj (limits.symm.trans e)
    obtain ⟨q, limit, past⟩ := lf
    cases past with
    | true => rfl
    | false => simp [lifeTested] at h ⊢; exact h

theorem testService_slots : (s.testService i).table = { s.table with slots := s.table.slots.set i s.table.slots[i].serviced } := by
  rw [testService_eq]
  split
  · exact (raise_frame ..).table (by simp)
  · rename_i calm
    rw [serviced_of_not_falls calm]
    simp

theorem testLife_slots : (s.testLife i).table = { s.table with slots := s.table.slots.set i s.table.slots[i].aged } := by
  rw [testLife_eq]
  split
  · exact (raise_frame ..).table (by simp)
  · rename_i calm
    rw [aged_of_not_expires calm]
    simp

/-- Both tests, one after the other, leave the slot with its thresholds tested once (R91, R93). -/
theorem testBoth_slots : ((s.testService i).testLife i).table = { s.table with
    slots := s.table.slots.set i (s.table.slots[i].withLimits (testedLimits s.table.slots[i].tally)) } := by
  have slot : (s.testService i).table.slots[i] = s.table.slots[i].serviced := by simp [testService_slots]
  have both : s.table.slots[i].serviced.aged = s.table.slots[i].withLimits (testedLimits s.table.slots[i].tally) := by
    rw [Slot.aged, Slot.serviced, withLimits_withLimits]
    rfl
  rw [testLife_slots, slot, testService_slots, both]
  simp only [Fin.getElem_fin, Vector.set_set]

theorem testService_marksOnly : s.marksOnly (s.testService i) := by
  rw [testService_eq]
  split
  · rw [State.marksOnly, raise_ctl]
    rfl
  · exact .refl s

theorem testLife_marksOnly : s.marksOnly (s.testLife i) := by
  rw [testLife_eq]
  split
  · rw [State.marksOnly, raise_ctl]
    rfl
  · exact .refl s

/-- What the link gets from the test of a service threshold (R91). -/
theorem testService_notice : (s.testService i).link = { s.link with notices := (s.testService i).link.notices } ∧
    (s.testService i).notice .serviceDue = (if s.table.slots[i].falls = true then
      s.noticeAfter .serviceDue (.slot i) (s.notice .serviceDue) else s.notice .serviceDue) ∧
    ∀ k, k ≠ .serviceDue → (s.testService i).notice k = s.notice k := by
  rw [testService_eq]
  split
  · exact ⟨raise_link .., raise_notice_self .., fun k other => raise_notice_ne _ _ other⟩
  · exact ⟨rfl, rfl, fun _ _ => rfl⟩

theorem testLife_notice : (s.testLife i).link = { s.link with notices := (s.testLife i).link.notices } ∧
    (s.testLife i).notice .lifeLimit = (if s.table.slots[i].expires = true then
      s.noticeAfter .lifeLimit (.slot i) (s.notice .lifeLimit) else s.notice .lifeLimit) ∧
    ∀ k, k ≠ .lifeLimit → (s.testLife i).notice k = s.notice k := by
  rw [testLife_eq]
  split
  · exact ⟨raise_link .., raise_notice_self .., fun k other => raise_notice_ne _ _ other⟩
  · exact ⟨rfl, rfl, fun _ _ => rfl⟩

theorem testService_of_calm (calm : ¬ s.table.slots[i].falls = true) : s.testService i = s := by
  rw [testService_eq, if_neg calm]

end

/-! ## REARM_SERVICE (R92) -/

section
variable (s : State) {i : Fin 20} {q : Quantity} (due : Nat) {payload : List Byte}

theorem quantityOfCode_code (q : Quantity) : Quantity.ofCode q.code = some q := by cases q <;> rfl

theorem rearmMeaning_eq (len : payload.length = 8) (slot : field payload 0 1 = i.val) (quantity : field payload 1 1 = q.code) :
    rearmMeaning payload s = s.rearmChecked i q (field payload 2 6) := by
  rw [rearmMeaning, sized_eq len, dif_pos (slot ▸ i.isLt), quantity, quantityOfCode_code]
  exact congrArg (s.rearmChecked · q (field payload 2 6)) (Fin.ext slot)

theorem rearmMeaning_eq_outOfRange (len : payload.length = 8) (bad : 20 ≤ field payload 0 1 ∨ 20 ≤ field payload 1 1) :
    rearmMeaning payload s = .refused .outOfRange s := by
  rw [rearmMeaning, sized_eq len]
  split
  · rename_i slot
    have code : Quantity.ofCode (field payload 1 1) = none := Option.eq_none_iff_forall_ne_some.2 fun q e =>
      bad.elim (Nat.not_le.2 slot) (Nat.not_le.2 ((exists_quantityOfCode _).1 ⟨q, e⟩))
    rw [code]
  · rfl

variable (i q)

theorem rearmChecked_eq_slotEmpty (empty : s.table.slots[i].ident.state = .empty) :
    s.rearmChecked i q due = .refused .slotEmpty s := if_pos empty

theorem rearmChecked_eq_wrongState (out : s.table.slots[i].ident.state = .damaged ∨ s.table.slots[i].ident.state = .stray) :
    s.rearmChecked i q due = .refused .wrongState s := by
  obtain ⟨notEmpty, notFitted⟩ : s.table.slots[i].ident.state ≠ .empty ∧ s.table.slots[i].ident.state ≠ .fitted := by
    rcases out with h | h <;> exact h ▸ by decide
  exact (if_neg notEmpty).trans (if_pos notFitted)

section
variable {i} (fitted : s.table.slots[i].ident.state = .fitted)
include fitted

theorem rearmChecked_eq_positionHeld (held : s.isOutgoing i = true) : s.rearmChecked i q due = .refused .positionHeld s :=
  (if_neg (fitted ▸ by decide)).trans ((if_neg (not_not_intro fitted)).trans (if_pos held))

variable {p : Position} (free : s.isOutgoing i = false) (position : s.table.slots[i].ident.position = some p)
include free position

/-- A FITTED slot that is not the outgoing one: the profile of its position decides (R92). -/
theorem rearmChecked_of_fitted : s.rearmChecked i q due =
    if p.scalarProfile.contains q then s.rearm i q due else .refused .notInProfile s := by
  have notHeld : ¬ s.isOutgoing i = true := by simp [free]
  refine (if_neg (fitted ▸ by decide)).trans ((if_neg (not_not_intro fitted)).trans ((if_neg notHeld).trans ?_))
  rw [position]

end

end

/-- The slot that REARM_SERVICE leaves: the threshold given, and armed unless its value is reached already (R92, R91). -/
theorem rearm_serviced {x : Slot} {l : Service × Life} (limits : x.ident.limits = some l) (q : Quantity) (due : Nat) :
    (x.rearm q due).serviced = { x with ident := { x.ident with
      limits := some ({ quantity := some q, due := due, armed := decide ((x.tally.value q).getD 0 < due) }, l.2) } } ∧
    ((x.rearm q due).falls = true ↔ due ≤ (x.tally.value q).getD 0) := by
  have given : (x.rearm q due).ident.limits = some ({ quantity := some q, due := due, armed := true }, l.2) := by
    simp [Slot.rearm, limits]
  refine ⟨?_, ?_⟩
  · rw [serviced_of_limits given]
    rfl
  · rw [falls_of_limits given]
    have tested : (!decide ((x.tally.value q).getD 0 < due)) = true ↔ due ≤ (x.tally.value q).getD 0 := by simp
    exact tested

theorem exec_rearmService (s : State) (tag : Byte) (payload : List Byte) :
    exec (.rearmService tag payload) s = .next (s.serve ⟨0x0C, tag, payload⟩ rearmMeaning) := rfl

/-- The state REARM_SERVICE tests: the threshold given, and its line marked. -/
def State.rearmed (s : State) (i : Fin 20) (q : Quantity) (due : Nat) : State :=
  (s.setSlot i (s.table.slots[i].rearm q due)).markDirty (identLine i)

/-- Settles O27: each refusal is the branch of `rearmChecked` that its check takes; the threshold given is tested by `testService`. -/
theorem serviceRearmed : Obligations.ServiceRearmed := by
  unfold Obligations.ServiceRearmed
  intro s tag payload r c due ready len
  have run : exec c s = .next (s.serve r rearmMeaning) := exec_rearmService ..
  refine ⟨fun bad => ready_refused ready run fun d => rearmMeaning_eq_outOfRange _ len bad, fun i q slot quantity => ?_⟩
  intro old
  have checked (d) : rearmMeaning r.payload (s.taking d) = (s.taking d).rearmChecked i q due :=
    rearmMeaning_eq _ len slot quantity
  refine ⟨fun empty => ready_refused ready run fun d => (checked d).trans (rearmChecked_eq_slotEmpty (s.taking d) i q due empty),
    fun out => ready_refused ready run fun d => (checked d).trans (rearmChecked_eq_wrongState (s.taking d) i q due out),
    fun fitted held => ready_refused ready run fun d =>
      (checked d).trans (rearmChecked_eq_positionHeld (s.taking d) q due fitted held), fun p fitted free position => ?_⟩
  have judged (d) : rearmMeaning r.payload (s.taking d) =
      if p.scalarProfile.contains q then (s.taking d).rearm i q due else .refused .notInProfile (s.taking d) :=
    (checked d).trans (rearmChecked_of_fitted (s.taking d) q due fitted free position)
  refine ⟨fun out => ready_refused ready run fun d => (judged d).trans (if_neg (by simpa using out)), fun l inProfile limits => ?_⟩
  intro armed
  let v (d : Timer) : State := (s.taking d).rearmed i q due
  have taken (d) : rearmMeaning r.payload (s.taking d) = .deferred [] [identLine i] ((v d).testService i) :=
    (judged d).trans (if_pos (by simpa using inProfile))
  have frame (d) : (s.taking d).sameExcept ((v d).testService i) [.table, .ctl, .link] :=
    .trans (.trans ((setSlot_frame ..).mono (by simp)) ((markDirty_frame ..).mono (by simp))) ((testService_frame ..).mono (by simp))
  have marks (d) : s.marksOnly ((v d).testService i) := .trans (u := v d) rfl (testService_marksOnly ..)
  obtain ⟨d, t, next, link, power, awaits, settings, after, kept⟩ := ready_awaits ready run taken frame (by simp) (by simp)
    (fun d => (marks d).records) (fun d => (marks d).holds) (fun d => (marks d).sameSettings)
  have given : (v d).table = { s.table with slots := s.table.slots.set i (old.rearm q due) } := rfl
  have slotGiven : (v d).table.slots[i] = old.rearm q due := by simp [given]
  obtain ⟨serviced, falls⟩ := rearm_serviced limits q due
  let new : Slot := { old with ident := { old.ident with limits := some (armed, l.2) } }
  have table : t.table = { s.table with slots := s.table.slots.set i new } := by
    have became : (old.rearm q due).serviced = new := serviced
    rw [after.table (by simp), testService_slots, slotGiven, became, given]
    simp only [Vector.set_set]
  obtain ⟨linkFrame, serviceDue, -⟩ := testService_notice (v d) i
  have linkBefore : (v d).link = (s.taking d).link := rfl
  refine ⟨t, next, ?_, power, ?_, fun j other => ?_, by rw [table], fun reached on => ?_, fun below => ?_, awaits, settings,
    kept.mono (by simp)⟩
  · rw [State.replied, link, linkFrame]
    rfl
  · rw [table]
    exact Vector.getElem_set_self ..
  · have ne : i.val ≠ j.val := fun e => other (Fin.ext e.symm)
    simp [table, ne]
  · have notice : t.notice .serviceDue = ((v d).testService i).notice .serviceDue := by rw [State.notice, link]; rfl
    rw [notice, serviceDue, slotGiven, if_pos (falls.2 reached)]
    exact noticeAfter_ne_none (v d) _ _ on _
  · have calm : ¬ (v d).table.slots[i].falls = true := by
      rw [slotGiven, falls]
      exact Nat.not_le.2 below
    rw [link, testService_of_calm _ _ calm]
    rfl

/-! ## TAKE_NOTICE (R192) -/

/-- Kind w comes before kind j: a higher level, or an equal one and no later in tie order. -/
def State.precedes (s : State) (w j : NoticeKind) : Prop :=
  s.level j < s.level w ∨ s.level j = s.level w ∧ w.index ≤ j.index

section
variable {s : State} {a b c : NoticeKind}

theorem State.precedes.refl (s : State) (k : NoticeKind) : s.precedes k k := .inr ⟨rfl, le_refl _⟩

theorem State.precedes.trans (h : s.precedes a b) (k : s.precedes b c) : s.precedes a c := by
  rcases h with h | ⟨h, i⟩ <;> rcases k with k | ⟨k, j⟩
  · exact .inl (k.trans h)
  · exact .inl (k ▸ h)
  · exact .inl (h ▸ k)
  · exact .inr ⟨k.trans h, i.trans j⟩

/-- Of two kinds each coming before the other, both are one. -/
theorem State.precedes.antisymm (h : s.precedes a b) (k : s.precedes b a) : a = b := by
  refine Decidable.byContradiction fun other => NoticeKind.index_val_ne other ?_
  unfold State.precedes at h k
  simp only [Fin.le_def] at h k
  omega

theorem better_precedes (before : a.index < b.index) : (s.better a b = a ∨ s.better a b = b) ∧
    s.precedes (s.better a b) a ∧ s.precedes (s.better a b) b := by
  unfold State.better
  split
  · rename_i higher
    exact ⟨.inr rfl, .inl higher, .refl s b⟩
  · rename_i low
    refine ⟨.inl rfl, .refl s a, ?_⟩
    rcases Nat.lt_or_eq_of_le (Nat.not_lt.1 low) with lower | same
    · exact .inl lower
    · exact .inr ⟨same, Nat.le_of_lt before⟩

/-- The winner of kinds in tie order is one of them and comes before each. -/
theorem foldl_better_precedes (ks : List NoticeKind) (a : NoticeKind)
    (sorted : (a :: ks).Pairwise fun j k => j.index < k.index) :
    ks.foldl s.better a ∈ a :: ks ∧ ∀ j ∈ a :: ks, s.precedes (ks.foldl s.better a) j := by
  induction ks generalizing a with
  | nil => exact ⟨by simp, fun j h => by simp at h; exact h ▸ .refl s a⟩
  | cons b bs ih =>
    obtain ⟨first, rest⟩ := List.pairwise_cons.1 sorted
    obtain ⟨second, rest'⟩ := List.pairwise_cons.1 rest
    obtain ⟨one, overA, overB⟩ := better_precedes (s := s) (first b (by simp))
    have sorted' : (s.better a b :: bs).Pairwise fun j k => j.index < k.index := by
      refine List.pairwise_cons.2 ⟨fun j h => ?_, rest'⟩
      rcases one with e | e <;> rw [e]
      · exact first j (by simp [h])
      · exact second j h
    obtain ⟨member, before⟩ := ih (s.better a b) sorted'
    have most := before _ (List.mem_cons_self ..)
    refine ⟨?_, fun j h => ?_⟩
    · rcases List.mem_cons.1 member with e | later
      · rw [List.foldl_cons, e]
        rcases one with e | e <;> rw [e] <;> simp
      · exact List.mem_cons_of_mem _ (List.mem_cons_of_mem _ later)
    · rcases List.mem_cons.1 h with rfl | h
      · exact most.trans overA
      · rcases List.mem_cons.1 h with rfl | h
        · exact most.trans overB
        · exact before j (List.mem_cons_of_mem _ h)

variable (s)

theorem mem_pendingKinds (k : NoticeKind) : k ∈ s.pendingKinds ↔ s.notice k ≠ none := by
  have all : k ∈ NoticeKind.all := by cases k <;> decide
  simp [State.pendingKinds, all, Option.isSome_iff_ne_none]

theorem winner_of_none (none : ∀ k, s.notice k = Option.none) : s.winner = Option.none := by
  have empty : s.pendingKinds = [] := List.eq_nil_iff_forall_not_mem.2 fun k h => (mem_pendingKinds s k).1 h (none k)
  rw [State.winner, empty]

/-- The winner is the pending kind that comes before every other pending one. -/
theorem winner_eq {k : NoticeKind} (pending : s.notice k ≠ none) (first : ∀ j, s.notice j ≠ none → s.precedes k j) :
    s.winner = some k := by
  have sorted : s.pendingKinds.Pairwise fun j k => j.index < k.index :=
    List.Pairwise.sublist List.filter_sublist (by decide)
  have member : k ∈ s.pendingKinds := (mem_pendingKinds s k).2 pending
  unfold State.winner
  cases kinds : s.pendingKinds with
  | nil => rw [kinds] at member; exact absurd member (by simp)
  | cons a ks =>
    rw [kinds] at sorted member
    obtain ⟨won, before⟩ := foldl_better_precedes (s := s) ks a sorted
    have wonPending : s.notice (ks.foldl s.better a) ≠ none := (mem_pendingKinds s _).1 (kinds ▸ won)
    exact congrArg some ((before k member).antisymm (first _ wonPending))

end

theorem attn_iff (s : State) : s.attn = true ↔ s.pins.supply = true ∧ s.pins.reset = false ∧
    ∃ k, s.notice k ≠ none ∧ s.link.settings.attention ≤ s.level k := by
  simp only [State.attn, State.live, Bool.and_eq_true, Bool.not_eq_true', List.any_eq_true, mem_pendingKinds, decide_eq_true_eq,
    and_assoc]

theorem exec_takeNotice (s : State) (tag : Byte) (payload : List Byte) :
    exec (.takeNotice tag payload) s = .next (s.serve ⟨0x21, tag, payload⟩ takeNoticeMeaning) := rfl

theorem takeNotice_of_none {s : State} (none : ∀ k, s.notice k = Option.none) : s.takeNotice = .done [] s := by
  rw [State.takeNotice, winner_of_none s none]

theorem takeNotice_eq {s : State} {k : NoticeKind} {x : Notice} (won : s.winner = some k) (pending : s.notice k = some x) :
    s.takeNotice = .done (s.noticeReport k x) (s.dropNotice k) := by
  rw [State.takeNotice, won]
  simp only
  rw [pending]

/-- Settles O47: the winner is the kind of the hypotheses (`winner_eq`), and it leaves the set; ATTN is `attn_iff`. -/
theorem noticeTakenAttnFollows : Obligations.NoticeTakenAttnFollows := by
  unfold Obligations.NoticeTakenAttnFollows
  refine ⟨fun s tag ready => ⟨fun none => ?_, fun k x pending first => ?_⟩, attn_iff⟩
  · exact ready_reports ready (exec_takeNotice ..) fun d => (sized_nil ..).trans (takeNotice_of_none (s := s.taking d) none)
  · have won (d) : (s.taking d).winner = some k :=
      winner_eq (s.taking d) (fun h => nomatch (show s.notice k = none from h).symm.trans pending) first
    obtain ⟨d, t, served, link, power, frame⟩ := ready_done (m := takeNoticeMeaning) (body := s.noticeReport k x)
      (g := fun d => (s.taking d).dropNotice k) ready
      fun d => (sized_nil ..).trans (takeNotice_eq (s := s.taking d) (won d) pending)
    have notices (j) : t.notice j = ((s.taking d).dropNotice k).notice j := by rw [State.notice, link]; rfl
    have gone : t.notice k = none := by rw [notices, dropNotice_notice_self]
    have level (j) : t.level j = s.level j := by rw [State.level, link]; rfl
    refine ⟨t, (exec_takeNotice ..).trans (congrArg _ served), ?_, power, gone, fun j other => ?_, fun e on => ?_, ?_⟩
    · rw [State.replied, link]
      rfl
    · rw [notices, dropNotice_notice_ne _ other]
      rfl
    · rw [raise_notice_self, gone, noticeAfter_none _ _ _ (by rw [level]; exact on)]
    · refine .trans ?_ (frame.mono (by simp))
      exact (taking_frame s d).trans ((dropNotice_frame ..).mono (by simp))

end Sys2Proof.Machine
end


section
/-! The accrual second (05 R81 to R86): what it reads for each quantity, and that exactly its quanta are routed. -/

namespace Sys2Proof.Machine

section
variable (s : State)

/-! ## What the second reads -/

/-- The function of an option is held by a TURNING channel. -/
def State.turns (f : Option ChannelFunction) : Prop := ∃ g, f = some g ∧ s.shaft g = some .turning

theorem turns_iff (f : Option ChannelFunction) : (match f with
    | some g => s.isTurning g
    | none => false) = true ↔ s.turns f := by
  cases f <;> simp [State.turns, State.isTurning]

theorem turns_some (g : ChannelFunction) : s.turns (some g) ↔ s.isTurning g = true := (turns_iff s (some g)).symm

theorem weight_eq (g : WearGroup) (col : Fin 7) :
    s.weight g col = s.tally.weights.toList.getD (7 * g.row.val + col.val) 0 := by
  have inside : 7 * g.row.val + col.val < s.tally.weights.toList.length := by
    have row := g.row.isLt
    have column := col.isLt
    rw [Vector.length_toList]
    omega
  rw [List.getD_eq_getElem _ _ inside, Vector.getElem_toList]
  simp only [State.weight, Nat.mul_comm]

theorem loadBin_val : s.loadBin.val = (let v := s.driveline.load.getD 0
    if s.driveline.fresh = false then 0
      else if v < 20 then 1 else if v < 40 then 2 else if v < 60 then 3 else if v < 80 then 4 else 5) := by
  unfold State.loadBin
  cases s.driveline.fresh
  · rfl
  · simp only [if_true, Bool.true_eq_false, if_false]
    repeat' split
    all_goals rfl

theorem slipSpeed_eq : s.slipSpeed = (max (s.shaftSpeed .engineSpeed) (s.shaftSpeed .gearIn) -
    min (s.shaftSpeed .engineSpeed) (s.shaftSpeed .gearIn)) / 10 := by
  simp only [State.slipSpeed]
  split <;> congr 1 <;> omega

/-- The clutch can slip (R65): RUNNING, the clutch engaged, GEAR_IN TURNING or STOPPED. -/
def State.slips : Prop := s.run.state = .running ∧ s.lineActive .clutch = true ∧
  (s.shaft .gearIn = some .turning ∨ s.shaft .gearIn = some .stopped)

theorem slips_iff : (decide (s.run.state = .running) && s.lineActive .clutch &&
    (s.isTurning .gearIn || decide (s.shaft .gearIn = some .stopped))) = true ↔ s.slips := by
  simp [State.slips, State.isTurning, and_assoc]

theorem slipAmount_of_slips (slips : s.slips) (past : s.driveline.settings.slipTolerance < s.slipSpeed) :
    s.slipAmount = s.slipSpeed * s.slipLoad / 100 := by
  rw [State.slipAmount, if_pos ((slips_iff s).2 slips), if_pos past]

theorem slipAmount_of_not (calm : ¬ (s.slips ∧ s.driveline.settings.slipTolerance < s.slipSpeed)) : s.slipAmount = 0 := by
  unfold State.slipAmount
  split
  · rename_i slips
    exact if_neg fun past => calm ⟨(slips_iff s).1 slips, past⟩
  · rfl

/-! ## Wear (R84, R86) -/

section
variable {s} {p : Position} {g : WearGroup}

theorem wearAmount_of_still (still : ¬ s.wears p = true) : s.wearAmount p = 0 := by
  unfold State.wearAmount
  split
  · exact if_neg still
  · rfl

theorem wearAmount_of_none (none : p.wearGroup = Option.none) : s.wearAmount p = 0 := by rw [State.wearAmount, none]

theorem wearAmount_of_wears (group : p.wearGroup = some g) (other : p ≠ .pto) (wears : s.wears p = true) :
    s.wearAmount p = s.weight g s.wearColumn := by
  rw [State.wearAmount, group]
  simp only [if_pos wears, if_neg other]

theorem wearAmount_pto (wears : s.wears .pto = true) : s.wearAmount .pto = s.weight .engine s.loadBin.castSucc :=
  if_pos wears

theorem wearColumn_running (running : s.run.state = .running) : s.wearColumn = s.loadBin.castSucc := if_pos running

theorem wearColumn_towed (still : s.run.state ≠ .running) : s.wearColumn = 6 := if_neg still

/-- A driveline or hub position wears while its towed source turns (R8). -/
theorem wears_towed (group : p.wearGroup = some g) (towed : g = .driveline ∨ g = .hub) : s.wears p = true ↔ s.turns p.towedSource := by
  have source : s.wears p = (match p.towedSource with
      | some f => s.isTurning f
      | none => false) := by
    cases p <;> first
      | rfl
      | (obtain rfl := Option.some.inj group; exact absurd towed (by decide))
  rw [source, turns_iff]

end

end

theorem wearColumn_val (s : State) : s.wearColumn.val = if s.run.state = .running then s.loadBin.val else 6 := by
  unfold State.wearColumn
  split <;> rfl

/-- Settles O24: each quantity's amount is the branch of `secondAmount`, `wearAmount` or `slipAmount` that its condition takes. -/
theorem accrualAmounts : Obligations.AccrualAmounts := by
  unfold Obligations.AccrualAmounts
  intro s p running v bin turns weight diff load slips
  have loadBin : s.loadBin.val = bin := loadBin_val s
  have weighed (g : WearGroup) (col : Fin 7) : s.weight g col = weight g.row.val col.val := weight_eq s g col
  have flag (b : Prop) [Decidable b] : (decide b).toNat = if b then 1 else 0 := by by_cases h : b <;> simp [h]
  have wear : s.secondAmount p .wearUnits = (s.wearAmount p, 0) := rfl
  have still (h : ¬ s.wears p = true) : (s.secondAmount p .wearUnits).1 = 0 := wearAmount_of_still h
  have atBin (h : running) : s.wearColumn.val = bin := by rw [wearColumn_running h, ← loadBin]; rfl
  refine ⟨?_, ?_, ?_, fun g engaged => ?_, fun none => ?_, fun on => ?_, fun off => ?_, fun i held => ?_, fun absent => ?_,
    fun tow => ?_, fun free => ?_, ?_, ?_, ?_, ?_, ?_, ?_, ?_, ?_, ?_, fun slipping past => ?_, fun calm => ?_⟩
  · exact congrArg (·, 0) (flag _)
  · refine congrArg (·, 0) ?_
    rw [← flag]
    simp
  · exact congrArg (·, 0) (flag _)
  · rw [State.secondAmount, engaged]
  · rw [State.secondAmount]
    split
    · rename_i g engaged
      exact absurd engaged (none g)
    · rfl
  · have amount : s.secondAmount p .loadSeconds = ((decide (s.run.state = .running)).toNat, s.loadBin.val) := rfl
    rw [amount, loadBin, flag, if_pos on]
  · exact (flag _).trans (if_neg off)
  · have episode : s.inEpisode (if p = .engine then .engineSpeed else .gearIn) = s.channels[i].episode := by
      rw [State.inEpisode, held]
    have amount : s.secondAmount p .overspeedSeconds = (s.channels[i].episode.toNat, 0) := by rw [← episode]; rfl
    rw [amount]
    cases s.channels[i].episode <;> rfl
  · have episode : s.inEpisode (if p = .engine then .engineSpeed else .gearIn) = false := by rw [State.inEpisode, absent]
    have amount : s.secondAmount p .overspeedSeconds = ((false : Bool).toNat, 0) := by rw [← episode]; rfl
    rw [amount]
    rfl
  · refine congrArg (fun b : Bool => (b.toNat, 0)) (a₂ := true) ?_
    rw [Bool.and_eq_true, decide_eq_true_iff]
    exact ⟨tow.1, (turns_iff s _).2 tow.2⟩
  · refine congrArg (fun b : Bool => (b.toNat, 0)) (a₂ := false) ?_
    rw [← Bool.not_eq_true, Bool.and_eq_true, decide_eq_true_iff]
    exact fun h => free ⟨h.1, (turns_iff s _).1 h.2⟩
  · rintro rfl on
    rw [wear, wearAmount_of_wears (p := .engine) rfl (by decide) (decide_eq_true on), weighed, atBin on]
    rfl
  · rintro rfl off
    exact still fun h => off (of_decide_eq_true h)
  · rintro rfl on
    have wears : s.wears .gearbox = true := Bool.or_eq_true_iff.2 (.inl (decide_eq_true on))
    rw [wear, wearAmount_of_wears rfl (by decide) wears, weighed, atBin on]
    rfl
  · rintro rfl off towed
    have wears : s.wears .gearbox = true := Bool.or_eq_true_iff.2 (.inr ((turns_some s _).1 towed))
    rw [wear, wearAmount_of_wears rfl (by decide) wears, weighed, wearColumn_towed off]
    rfl
  · rintro rfl off parked
    refine still fun h => ?_
    rcases Bool.or_eq_true_iff.1 h with on | turning
    · exact off (of_decide_eq_true on)
    · exact parked ((turns_some s _).2 turning)
  · intro g group towed
    have notPto : p ≠ .pto := by
      rintro rfl
      obtain rfl := Option.some.inj group
      exact absurd towed (by decide)
    refine ⟨fun turning => ?_, fun parked => still (mt (wears_towed group towed).1 parked)⟩
    rw [wear, wearAmount_of_wears group notPto ((wears_towed group towed).2 turning), weighed, wearColumn_val, loadBin]
  · rintro rfl working
    rw [wear, wearAmount_pto (decide_eq_true working), weighed, ← loadBin]
    rfl
  · rintro rfl idle
    exact still fun h => idle (of_decide_eq_true h)
  · intro other
    have none : p.wearGroup = none := by rcases other with rfl | rfl | rfl | rfl <;> rfl
    rw [wear, wearAmount_of_none none]
  · have amount : s.secondAmount p .slipUnits = (s.slipAmount, 0) := rfl
    have speed : s.slipSpeed = diff := slipSpeed_eq s
    rw [amount, slipAmount_of_slips s slipping (speed ▸ past), speed]
    rfl
  · have amount : s.secondAmount p .slipUnits = (s.slipAmount, 0) := rfl
    have speed : s.slipSpeed = diff := slipSpeed_eq s
    rw [amount, slipAmount_of_not s (by rw [speed]; exact calm)]

/-! ## The quanta routed (R85) -/

section
variable (s : State)

theorem bearing_header (b : Book) (p : Position) (q : Quantity) (n : Nat) (pl : Fin 24) :
    (b.bearing p q n).places[pl].header = b.places[pl].header := by
  have places : (b.bearing p q n).places = b.places.set b.openPlace (b.places[b.openPlace].add p q n) := rfl
  rw [places]
  by_cases h : b.openPlace = pl
  · subst h
    simp [Place.add]
  · have ne : b.openPlace.val ≠ pl.val := fun e => h (Fin.ext e)
    simp [ne]

/-- A quantum adds to increments: no header of the book changes. -/
theorem route_header (x : Quantum) (pl : Fin 24) : (s.route x).book.places[pl].header = s.book.places[pl].header := by
  unfold State.route
  split
  · rfl
  · refine (congrArg (fun b : Book => b.places[pl].header) (deliver_book s x)).trans ?_
    split
    · rfl
    · exact bearing_header ..

theorem routeAll_header (xs : List Quantum) (pl : Fin 24) :
    (s.routeAll xs).book.places[pl].header = s.book.places[pl].header := by
  unfold State.routeAll
  induction xs generalizing s with
  | nil => rfl
  | cons x xs ih => exact (ih _).trans (route_header ..)

theorem route_accrual (x : Quantum) : (s.route x).tally.accrual = s.tally.accrual := by
  unfold State.route
  split
  · rfl
  · rw [deliver_tally]
    split <;> rfl

theorem routeAll_accrual (xs : List Quantum) : (s.routeAll xs).tally.accrual = s.tally.accrual := by
  unfold State.routeAll
  induction xs generalizing s with
  | nil => rfl
  | cons x xs ih => exact (ih _).trans (route_accrual ..)

/-- The state in which the accrual second reads: the accrual timer has started again. -/
def State.accruing (due : Nat) : State :=
  { s.reach due with tally := { s.tally with accrual := some (max s.now due + 250000) } }

theorem exec_accrualTimerExpiry {s : State} {due : Nat} (running : s.tally.accrual = some due) :
    exec .accrualTimerExpiry s = .next ((s.accruing due).routeAll (s.accruing due).secondQuanta) := by
  show execAccrualTimerExpiry s = _
  rw [execAccrualTimerExpiry, running]
  rfl

theorem accruing_frame (due : Nat) : s.sameExcept (s.accruing due) [.time, .tally] := by
  simp [State.sameExcept, State.accruing]

theorem accruing_secondAmount (due : Nat) (p : Position) (q : Quantity) :
    (s.accruing due).secondAmount p q = s.secondAmount p q := by cases q <;> rfl

end

/-- What a state with other accrual timer routes is what the state itself routes. -/
theorem routed_accruing {s t : State} {due : Nat} {xs : List Quantum} (h : (s.accruing due).routed t xs) : s.routed t xs := by
  have holder (p) : (s.accruing due).holder p = s.holder p := rfl
  have tallyOf (p h) : (s.accruing due).tallyOf p h = s.tallyOf p h := by cases h <;> rfl
  unfold State.routed State.ownHolder at *
  simp only [holder, tallyOf] at h
  exact h

/-- Settles O23: the second's quanta are routed by `routeAll`, from the reading of the state before. -/
theorem accrualSecondRoutesQuanta : Obligations.AccrualSecondRoutesQuanta := by
  unfold Obligations.AccrualSecondRoutesQuanta
  intro s due running
  have quanta : (s.accruing due).secondQuanta = Position.all.flatMap fun p => p.profile.map fun q =>
      { position := p, quantity := q, entry := (s.secondAmount p q).2, amount := (s.secondAmount p q).1 } := by
    simp only [State.secondQuanta, accruing_secondAmount]
  have frame := routeAll_frame (s.accruing due) (s.accruing due).secondQuanta
  have now : ((s.accruing due).routeAll (s.accruing due).secondQuanta).now = max s.now due := frame.now (by simp)
  refine ⟨_, exec_accrualTimerExpiry running, now, ?_, ?_, routeAll_header .., ?_⟩
  · rw [routeAll_accrual, now]
    rfl
  · rw [← quanta]
    exact routed_accruing (routeAll_routed _ _).1
  · exact ((accruing_frame s due).mono (by simp)).trans (frame.mono (by simp))

end Sys2Proof.Machine
end


section
/-! The fitment requests (07 R113, R116 to R120): what EXPORT_OUTGOING, READ_FITMENT and STAGE_COMPONENT report and keep. -/

namespace Sys2Proof.Machine

/-! ## Requests in a context (R113) -/

section
variable {s : State} {r : Request} {c : Instr} {m : Meaning}

/-- A ready fitment request answered DONE in a state with the deadline restarted, the rest being as the execution left it. -/
theorem ready_done_touched {body : List Byte} {x : Option Context} (ready : s.ready r) (run : exec c s = .next (s.serve r m))
    (judged : ∀ d, m r.payload (s.taking d) = .done body { s.taking d with fitment := x }.touchDeadline) :
    ∃ t, exec c s = .next t ∧ s.answered t (.done r.tag body) ∧ s.samePower t ∧
      t.fitment = x.map (fun c => { c with deadline := s.now + c.timeout * 250000 }) ∧
      s.sameExcept t [.fitment, .link, .sup] := by
  obtain ⟨d, t, served, link, power, frame⟩ := ready_done ready judged
  refine ⟨t, run.trans (congrArg _ served), link, power, frame.fitment (by simp), ?_⟩
  refine .trans ?_ (frame.mono (by simp))
  exact ((taking_frame s d).mono (by simp)).trans (by simp [State.sameExcept, State.touchDeadline])

/-- A request refused for want of a context: there is no deadline to restart. -/
theorem ready_noFitment {reason : Reason} (ready : s.ready r) (run : exec c s = .next (s.serve r m)) (closed : s.fitment = none)
    (judged : ∀ d, m r.payload (s.taking d) = .refused reason (s.taking d).touchDeadline) : s.refuses c r reason :=
  ready_refused ready run fun d => by rw [judged, touchDeadline_of_none (s := s.taking d) closed]

theorem withContext_some {x : Context} {f : Context → Answer} (opened : s.fitment = some x) : s.withContext f = f x := by
  rw [State.withContext, opened]

theorem withContext_none {f : Context → Answer} (closed : s.fitment = none) : s.withContext f = .refused .noFitment s := by
  rw [State.withContext, closed]

end

/-! ## EXPORT_OUTGOING (R118, R119) -/

theorem exec_exportOutgoing (s : State) (tag : Byte) (payload : List Byte) :
    exec (.exportOutgoing tag payload) s = .next (s.serve ⟨0x12, tag, payload⟩ exportMeaning) := rfl

section
variable (s : State) {payload : List Byte} (len : payload.length = 2)
include len

theorem exportMeaning_eq_outOfRange (bad : 1 < field payload 1 1) :
    exportMeaning payload s = .refused .outOfRange s.touchDeadline := by
  have part : ExportPart.ofCode (field payload 1 1) = none := List.getElem?_eq_none bad
  rw [exportMeaning, fitmentRequest, sized_eq len, part]
  rfl

theorem exportMeaning_eq_record (part : field payload 1 1 = 0) :
    exportMeaning payload s = (s.withContext fun c => s.exportRecord c (field payload 0 1)).touched := by
  rw [exportMeaning, fitmentRequest, sized_eq len, part]
  rfl

theorem exportMeaning_eq_interim (part : field payload 1 1 = 1) :
    exportMeaning payload s = (s.withContext fun c => s.exportInterim c (field payload 0 1)).touched := by
  rw [exportMeaning, fitmentRequest, sized_eq len, part]
  rfl

end

/-! ## READ_FITMENT (R120) -/

theorem exec_readFitment (s : State) (tag : Byte) (payload : List Byte) :
    exec (.readFitment tag payload) s = .next (s.serve ⟨0x13, tag, payload⟩ readFitmentMeaning) := rfl

theorem stagedBytes_length (x : Option Staged) : (stagedBytes x).length = 37 := by
  cases x with
  | none => rfl
  | some x =>
    simp only [stagedBytes, textBytes, optQuantity, optCode, List.length_append, leBytes_length, List.length_take,
      List.length_replicate]
    omega

/-- The staged record in the words of R198. -/
theorem stagedBytes_eq (x : Option Staged) : stagedBytes x = match x with
    | some x => leBytes 1 x.kind.code ++ leBytes 1 x.serial.length ++ x.serial.take 20 ++
        List.replicate (20 - x.serial.length) (0 : Byte) ++ leBytes 1 x.carried.length ++
        leBytes 1 (match x.serviceQuantity with
          | some q => q.code
          | none => 0xFF) ++
        leBytes 6 x.due ++ leBytes 1 x.lifeQuantity.code ++ leBytes 6 x.limit
    | none => List.replicate 37 (0 : Byte) := by
  cases x with
  | none => rfl
  | some x =>
    have quantity : optQuantity x.serviceQuantity = leBytes 1 (match x.serviceQuantity with
        | some q => q.code
        | none => 0xFF) := by cases x.serviceQuantity <;> rfl
    simp only [stagedBytes, textBytes, quantity, List.append_assoc]

theorem fitmentReport_of_none {s : State} (closed : s.fitment = none) : s.fitmentReport = [0] := by
  rw [State.fitmentReport, closed]
  rfl

theorem fitmentReport_of_some {s : State} {c : Context} (opened : s.fitment = some c) : s.fitmentReport =
    leBytes 1 1 ++ leBytes 1 c.action.code ++ leBytes 1 c.position.code ++
      leBytes 1 (match c.outgoing with
        | some o => o.1.val
        | none => 0xFF) ++
      leBytes 1 (if c.exported = true then 1 else 0) ++ leBytes 1 (if c.staged = none then 0 else 1) ++ stagedBytes c.staged ++
      leBytes 2 c.timeout ++ leBytes 2 ((c.deadline - s.now) / 250000) ++ leBytes 1 c.interim.items.length := by
  have outgoing : optCode (c.outgoing.map fun o => o.1.val) = leBytes 1 (match c.outgoing with
      | some o => o.1.val
      | none => 0xFF) := by cases c.outgoing <;> rfl
  have exported : c.exported.toNat = if c.exported = true then 1 else 0 := by cases c.exported <;> rfl
  have staged : c.staged.isSome.toNat = if c.staged = none then 0 else 1 := by cases c.staged <;> rfl
  rw [State.fitmentReport, opened]
  simp only [outgoing, exported, staged]
  rfl

/-- Settles O40: the branches of `exportMeaning` and `readFitmentMeaning`, each with the deadline restarted. -/
theorem fitmentRead : Obligations.FitmentRead := by
  unfold Obligations.FitmentRead
  refine fun s tag => ⟨?_, fun ready => ?_⟩
  · intro payload r first part ready len
    have run := exec_exportOutgoing s tag payload
    have refuse {reason : Reason} (judged : ∀ d, exportMeaning payload (s.taking d) = .refused reason (s.taking d).touchDeadline) :=
      ready_turnedAway ready run judged
    refine ⟨fun bad => refuse fun d => exportMeaning_eq_outOfRange _ len bad, fun valid closed => ?_, fun c opened => ?_⟩
    · refine ready_noFitment ready run closed fun d => ?_
      rcases Nat.le_one_iff_eq_zero_or_eq_one.1 valid with h | h
      · rw [exportMeaning_eq_record _ len h, withContext_none (s := s.taking d) closed]
        rfl
      · rw [exportMeaning_eq_interim _ len h, withContext_none (s := s.taking d) closed]
        rfl
    have record (h : part = 0) (d) : exportMeaning payload (s.taking d) = ((s.taking d).exportRecord c first).touched := by
      rw [exportMeaning_eq_record _ len h, withContext_some (s := s.taking d) opened]
    have interim (h : part = 1) (d) : exportMeaning payload (s.taking d) = ((s.taking d).exportInterim c first).touched := by
      rw [exportMeaning_eq_interim _ len h, withContext_some (s := s.taking d) opened]
    refine ⟨fun h none => refuse fun d => ?_, fun o h out => ⟨fun high => refuse fun d => ?_, fun low => ?_⟩,
      fun h => ⟨fun high => refuse fun d => ?_, fun low => ?_⟩⟩
    · rw [record h, State.exportRecord, none]
      rfl
    · rw [record h, State.exportRecord, out]
      exact congrArg Answer.touched (if_neg (Nat.not_le.2 high))
    · refine ready_done_touched (x := some { c with exported := true }) ready run fun d => ?_
      show exportMeaning payload (s.taking d) = _
      rw [record h, State.exportRecord, out]
      exact congrArg Answer.touched (if_pos low)
    · rw [interim h, State.exportInterim, if_neg (Nat.not_le.2 high)]
      rfl
    · refine ready_done_touched (x := s.fitment) ready run fun d => ?_
      show exportMeaning payload (s.taking d) = _
      rw [interim h, State.exportInterim, if_pos low]
      rfl
  · obtain ⟨t, next, answered, power, restarted, frame⟩ := ready_done_touched (m := readFitmentMeaning) (x := s.fitment)
      (body := s.fitmentReport) ready (exec_readFitment ..) fun d => rfl
    refine ⟨t, s.fitmentReport, next, answered, power, restarted, frame, fitmentReport_of_none, fun c opened => ?_⟩
    intro staged
    have bytes : stagedBytes c.staged = staged := stagedBytes_eq c.staged
    rw [← bytes]
    exact ⟨stagedBytes_length _, fitmentReport_of_some opened⟩

end Sys2Proof.Machine
end


section
/-! STAGE_COMPONENT (07 R116, R117): the record a payload carries, the checks in their order, and the entries in order. -/

namespace Sys2Proof.Machine

/-! ## The record a payload carries (R116 check 3) -/

theorem allSome_map {α : Type} {f : Nat → Option α} {xs : List α} (h : ∀ (k : Nat) (lt : k < xs.length), f k = some xs[k]) :
    allSome ((List.range xs.length).map f) = some xs := by
  have values : (List.range xs.length).map f = xs.map some :=
    List.ext_getElem (by simp) fun k _ lt => by simpa using h k (by simpa using lt)
  rw [values]
  clear h values
  induction xs with
  | nil => rfl
  | cons x xs ih => rw [List.map_cons, allSome, ih]; rfl

theorem allSome_isSome {α : Type} {xs : List (Option α)} {ys : List α} (h : allSome xs = some ys) : ∀ x ∈ xs, x ≠ none := by
  induction xs generalizing ys with
  | nil => simp
  | cons x xs ih =>
    cases x with
    | none => exact nomatch h
    | some x =>
      obtain ⟨zs, rest, -⟩ := Option.map_eq_some_iff.1 h
      exact List.forall_mem_cons.2 ⟨Option.some_ne_none x, ih rest⟩

theorem exists_kindOfCode (n : Nat) : (∃ k, Kind.ofCode n = some k) ↔ n ≤ 9 :=
  (exists_getElem?_iff ..).trans Nat.lt_succ_iff

theorem quantityOfCode_none : Quantity.ofCode 0xFF = none := rfl

theorem quantityOrNone_eq {n : Nat} {q : Option Quantity}
    (h : q = none ∧ n = 0xFF ∨ q ≠ none ∧ Quantity.ofCode n = q) : quantityOrNone n = some q := by
  rcases h with ⟨rfl, rfl⟩ | ⟨some, code⟩
  · rfl
  · have notNone : n ≠ noneCode := by
      rintro rfl
      exact some (code.symm.trans quantityOfCode_none)
    rw [quantityOrNone, if_neg notNone, code]
    cases q with
    | none => exact absurd rfl some
    | some q => rfl

theorem quantityOrNone_range {n : Nat} {q : Option Quantity} (h : quantityOrNone n = some q) : n = 0xFF ∨ n < 20 := by
  unfold quantityOrNone at h
  split at h
  · exact .inl ‹_›
  · obtain ⟨q, code, -⟩ := Option.map_eq_some_iff.1 h
    exact .inr ((exists_quantityOfCode n).1 ⟨q, code⟩)

/-- Every field of the payload lies in its range. -/
def stagedInRange (p : List Byte) : Prop :=
  field p 0 1 ≤ 9 ∧ textField 20 p 1 ≠ none ∧ (field p 22 1 = 0xFF ∨ field p 22 1 < 20) ∧ field p 29 1 < 20 ∧ field p 36 1 ≤ 26 ∧
    ∀ k, k < field p 36 1 → field p (37 + 8 * k) 1 < 20

theorem readStaged_inRange {p : List Byte} {x : Staged} (h : readStaged p = some x) : stagedInRange p := by
  unfold readStaged at h
  split at h
  · rename_i k text sq lq cs kind serial service life carried
    split at h
    · rename_i count
      refine ⟨(exists_kindOfCode _).1 ⟨_, kind⟩, by rw [serial]; exact Option.some_ne_none _, quantityOrNone_range service,
        (exists_quantityOfCode _).1 ⟨_, life⟩, count, fun j lt => ?_⟩
      have read : readCarried p j ≠ none :=
        allSome_isSome carried _ (List.mem_map.2 ⟨j, List.mem_range.2 lt, rfl⟩)
      obtain ⟨q, code⟩ := Option.ne_none_iff_exists'.1 read
      obtain ⟨q, code, -⟩ := Option.map_eq_some_iff.1 code
      exact (exists_quantityOfCode _).1 ⟨q, code⟩
    · exact nomatch h
  · exact nomatch h

/-- A payload whose fields are those of a staged record carries that record. -/
theorem readStaged_eq {p : List Byte} {x : Staged} (count : field p 36 1 = x.carried.length) (small : x.carried.length ≤ 26)
    (kind : Kind.ofCode (field p 0 1) = some x.kind) (serial : textField 20 p 1 = some x.serial)
    (service : x.serviceQuantity = none ∧ field p 22 1 = 0xFF ∨
      x.serviceQuantity ≠ none ∧ Quantity.ofCode (field p 22 1) = x.serviceQuantity)
    (due : field p 23 6 = x.due) (life : Quantity.ofCode (field p 29 1) = some x.lifeQuantity) (limit : field p 30 6 = x.limit)
    (carried : ∀ (k : Nat) (h : k < x.carried.length), Quantity.ofCode (field p (37 + 8 * k) 1) = some x.carried[k].quantity ∧
      field p (38 + 8 * k) 1 = x.carried[k].index ∧ field p (39 + 8 * k) 6 = x.carried[k].value) :
    readStaged p = some x := by
  have entries : allSome ((List.range x.carried.length).map (readCarried p)) = some x.carried := by
    refine allSome_map fun k lt => ?_
    obtain ⟨quantity, index, value⟩ := carried k lt
    rw [readCarried, quantity, index, value]
    rfl
  rw [readStaged, kind, serial, quantityOrNone_eq service, life, count, entries, due, limit]
  exact if_pos small

/-! ## The profile and the indices (R116 checks 5 and 6) -/

theorem staged_inProfile_iff (x : Staged) (p : Position) : x.inProfile p = true ↔
    (∀ e ∈ x.carried, e.quantity ∈ p.profile) ∧ (∀ q, x.serviceQuantity = some q → q ∈ p.scalarProfile) ∧
      (x.limit = 0 ∨ x.lifeQuantity ∈ p.scalarProfile) := by
  simp only [Staged.inProfile, Bool.and_eq_true, List.all_eq_true, Bool.or_eq_true, decide_eq_true_eq, List.contains_eq_mem, and_assoc]
  cases x.serviceQuantity <;> simp

theorem indexOk_iff (e : Carried) (gears : Nat) : e.indexOk gears = true ↔
    e.index < (if e.quantity = .loadSeconds then 6 else if e.quantity = .gearSeconds then gears else 1) := by
  unfold Carried.indexOk
  split
  · rw [decide_eq_true_iff]
  · split
    · rw [decide_eq_true_iff]
    · rw [decide_eq_true_iff, Nat.lt_one_iff]

theorem distinctCarried_iff (xs : List Carried) :
    distinctCarried xs = true ↔ xs.Pairwise fun a b => a.quantity ≠ b.quantity ∨ a.index ≠ b.index := by
  induction xs with
  | nil => simp [distinctCarried]
  | cons x xs ih =>
    rw [distinctCarried, Bool.and_eq_true, ih, List.pairwise_cons, List.all_eq_true]
    refine and_congr_left fun _ => forall₂_congr fun y _ => ?_
    simp only [Bool.not_eq_true', Bool.and_eq_false_iff, decide_eq_false_iff_not]
    exact or_congr ne_comm ne_comm

/-! ## The order of the entries (R117) -/

/-- The model's insertion sort is the library's. -/
theorem sortCarried_eq (xs : List Carried) : sortCarried xs = xs.insertionSort fun a b => a.before b = true := by
  have insert (a : Carried) (ys : List Carried) : insertCarried a ys = ys.orderedInsert (fun a b => a.before b = true) a := by
    induction ys with
    | nil => rfl
    | cons y ys ih => rw [insertCarried, List.orderedInsert_cons, ih]
  induction xs with
  | nil => rfl
  | cons x xs ih =>
    rw [List.insertionSort_cons, ← ih, ← insert]
    rfl

theorem quantity_code_inj {p q : Quantity} (h : p.code = q.code) : p = q :=
  Option.some.inj ((quantityOfCode_code p).symm.trans (h ▸ quantityOfCode_code q))

theorem before_iff (a b : Carried) : a.before b = true ↔
    a.quantity.code < b.quantity.code ∨ a.quantity.code = b.quantity.code ∧ a.index ≤ b.index := by
  have same : a.quantity = b.quantity ↔ a.quantity.code = b.quantity.code := ⟨congrArg _, quantity_code_inj⟩
  simp [Carried.before, same]

theorem sortCarried_perm (xs : List Carried) : (sortCarried xs).Perm xs := sortCarried_eq xs ▸ List.perm_insertionSort _ xs

theorem sortCarried_pairwise (xs : List Carried) : (sortCarried xs).Pairwise fun a b => a.before b = true := by
  have total : Std.Total fun a b : Carried => a.before b = true := ⟨fun a b => by
    simp only [before_iff]
    omega⟩
  have transitive : IsTrans Carried fun a b => a.before b = true := ⟨fun a b c h k => by
    simp only [before_iff] at h k ⊢
    omega⟩
  rw [sortCarried_eq]
  exact List.pairwise_insertionSort _ xs

/-- Entries that name no quantity and index twice stand in strict order. -/
theorem sortCarried_strict {xs : List Carried} (distinct : xs.Pairwise fun a b => a.quantity ≠ b.quantity ∨ a.index ≠ b.index) :
    (sortCarried xs).Pairwise fun a b => a.quantity.code < b.quantity.code ∨ a.quantity = b.quantity ∧ a.index < b.index := by
  have apart : (sortCarried xs).Pairwise fun a b => a.quantity ≠ b.quantity ∨ a.index ≠ b.index :=
    ((sortCarried_perm xs).pairwise_iff fun h => h.imp Ne.symm Ne.symm).2 distinct
  refine ((sortCarried_pairwise xs).and apart).imp fun {a b} h => ?_
  obtain ⟨ordered, other⟩ := h
  rcases (before_iff a b).1 ordered with lower | ⟨same, index⟩
  · exact .inl lower
  · have quantity := quantity_code_inj same
    exact .inr ⟨quantity, Nat.lt_of_le_of_ne index (other.resolve_left (not_not_intro quantity))⟩

/-! ## The checks -/

section
variable {s : State} {c : Context} {x : Staged}

theorem stageMeaning_eq {payload : List Byte} (len : payload.length = 37 + 8 * field payload 36 1) (s : State) :
    stageMeaning payload s = (stageInContext payload s).touched := congrArg Answer.touched (if_pos len)

theorem stageInContext_of_none {payload : List Byte} (closed : s.fitment = none) :
    stageInContext payload s = .refused .noFitment s := withContext_none closed

theorem stageInContext_of_some {payload : List Byte} (opened : s.fitment = some c) : stageInContext payload s =
    if c.action = .remove then .refused .wrongState s
    else match readStaged payload with
      | some x => s.stageChecked c x
      | none => .refused .outOfRange s :=
  (withContext_some opened).trans rfl

theorem stageChecked_eq_kindMismatch (unfit : c.position ∉ x.kind.fits) : s.stageChecked c x = .refused .kindMismatch s :=
  if_pos (by simpa using unfit)

section
variable (fits : c.position ∈ x.kind.fits)
include fits

theorem stageChecked_eq_notInProfile (out : ¬ x.inProfile c.position = true) : s.stageChecked c x = .refused .notInProfile s :=
  (if_neg (by simpa using fits)).trans (if_pos (by simpa using out))

theorem stageChecked_of_inProfile (inProfile : x.inProfile c.position = true) : s.stageChecked c x =
    if x.carried.all (fun e => e.indexOk s.gearCount) && distinctCarried x.carried then s.stage c x else .refused .outOfRange s :=
  (if_neg (by simpa using fits)).trans (if_neg (by simpa using inProfile))

end

end

theorem exec_stageComponent (s : State) (tag : Byte) (payload : List Byte) :
    exec (.stageComponent tag payload) s = .next (s.serve ⟨0x11, tag, payload⟩ stageMeaning) := rfl

/-- Settles O39: the payload carries the record (`readStaged_eq`), the checks are the branches of `stageChecked`, and the entries kept
are those of `sortCarried`. -/
theorem componentStaged : Obligations.ComponentStaged := by
  unfold Obligations.ComponentStaged
  intro s tag payload r f refused inRange ready len
  have run := exec_stageComponent s tag payload
  have refuse {c : Context} (opened : s.fitment = some c) {reason : Reason}
      (judged : ∀ d, stageInContext payload (s.taking d) = .refused reason (s.taking d)) : refused reason :=
    ready_turnedAway ready run fun d => by rw [stageMeaning_eq len, judged]; rfl
  refine ⟨fun closed => ?_, fun c opened => ⟨fun remove => ?_, fun action bad => ?_⟩, ?_⟩
  · refine ready_noFitment ready run closed fun d => ?_
    rw [stageMeaning_eq len, stageInContext_of_none (s := s.taking d) closed]
    rfl
  · exact refuse opened fun d => (stageInContext_of_some (s := s.taking d) opened).trans (if_pos remove)
  · refine refuse opened fun d => (stageInContext_of_some (s := s.taking d) opened).trans ((if_neg action).trans ?_)
    have unread : readStaged payload = none :=
      Option.eq_none_iff_forall_ne_some.2 fun x h => bad (readStaged_inRange h)
    rw [unread]
  intro x c n count small kind serial service due life limit carried opened action inProfile indexed
  have read : readStaged payload = some x := readStaged_eq count small kind serial service due life limit carried
  have checked (d) : stageInContext payload (s.taking d) = (s.taking d).stageChecked c x := by
    refine (stageInContext_of_some (s := s.taking d) opened).trans ((if_neg action).trans ?_)
    rw [read]
  have profile : x.inProfile c.position = true ↔ inProfile := staged_inProfile_iff x c.position
  have indices (d) : (x.carried.all (fun e => e.indexOk (s.taking d).gearCount) && distinctCarried x.carried) = true ↔ indexed := by
    rw [Bool.and_eq_true, List.all_eq_true, distinctCarried_iff]
    simp only [indexOk_iff]
    rfl
  refine ⟨fun unfit => ?_, fun fits out => ?_, fun fits within bad => ?_, fun fits within good => ?_⟩
  · exact refuse opened fun d => (checked d).trans (stageChecked_eq_kindMismatch unfit)
  · exact refuse opened fun d => (checked d).trans (stageChecked_eq_notInProfile fits (mt profile.1 out))
  · exact refuse opened fun d => (checked d).trans ((stageChecked_of_inProfile fits (profile.2 within)).trans
      (if_neg (mt (indices d).1 bad)))
  · have staged (d) : stageMeaning payload (s.taking d) = ((s.taking d).stage c x).touched := by
      rw [stageMeaning_eq len, checked, stageChecked_of_inProfile fits (profile.2 within), if_pos ((indices d).2 good)]
    obtain ⟨t, next, answered, power, context, frame⟩ := ready_done_touched ready run
      (x := some { c with staged := some { x with carried := sortCarried x.carried } }) staged
    exact ⟨t, sortCarried x.carried, next, answered, power, context, sortCarried_perm _, sortCarried_strict good.2, frame⟩

end Sys2Proof.Machine
end


section
/-! The end of a fitment (07 R125, R126): the interim accumulator moves back, and only dirty marks and some notices change beside it. -/

namespace Sys2Proof.Machine

/-! ## What only marks lines and raises notices -/

/-- From s to t the Store Controller changes in its dirty marks only, and the link in pending notices of the kinds ks only. -/
structure State.Mild (s t : State) (ks : List NoticeKind) : Prop where
  ctl    : s.marksOnly t
  link   : t.link = { s.link with notices := t.link.notices }
  others : ∀ k, k ∉ ks → t.notice k = s.notice k

namespace State.Mild

variable {s t u : State} {ks : List NoticeKind}

theorem refl (s : State) (ks : List NoticeKind) : s.Mild s ks := ⟨.refl s, rfl, fun _ _ => rfl⟩

theorem mono {js : List NoticeKind} (h : s.Mild t js) (sub : js ⊆ ks) : s.Mild t ks :=
  ⟨h.ctl, h.link, fun k out => h.others k fun mem => out (sub mem)⟩

theorem trans (h : s.Mild t ks) (k : t.Mild u ks) : s.Mild u ks where
  ctl := h.ctl.trans k.ctl
  link := by rw [k.link, h.link]
  others j out := (k.others j out).trans (h.others j out)

theorem of_frame {bs : List Block} (h : s.sameExcept t bs) (marks : s.marksOnly t) (out : .link ∉ bs := by decide) : s.Mild t ks :=
  ⟨marks, by rw [h.link out], fun _ _ => by rw [State.notice, h.link out]; rfl⟩

theorem foldl {α : Type} {f : State → α → State} (step : ∀ (s : State) x, s.Mild (f s x) ks) (xs : List α) (s : State) :
    s.Mild (xs.foldl f s) ks := by
  induction xs generalizing s with
  | nil => exact .refl s ks
  | cons x xs ih => exact (step s x).trans (ih _)

theorem level (h : s.Mild t ks) (k : NoticeKind) : t.level k = s.level k := by rw [State.level, h.link]; rfl

end State.Mild

section
variable (s : State)

theorem raise_mild (k d) : s.Mild (s.raise k d) [k] :=
  ⟨.of_ctl (raise_ctl ..), raise_link .., fun _ out => raise_notice_ne s d fun e => out (by simp [e])⟩

theorem raiseSaturated_mild (h p b a q e) : s.Mild (s.raiseSaturated h p b a q e) [.saturated] := by
  unfold State.raiseSaturated
  split
  · exact raise_mild ..
  · exact .refl ..

theorem markDirty_mild (n) : s.Mild (s.markDirty n) [] := .of_frame (markDirty_frame s n) rfl

theorem markIf_mild (b n) : s.Mild (s.markIf b n) [] := by
  unfold State.markIf
  split
  · exact markDirty_mild ..
  · exact .refl ..

theorem markAll_mild (ns) : s.Mild (s.markAll ns) [] := .foldl markDirty_mild ns s

theorem setTally_mild (p h x) : s.Mild (s.setTally p h x) [] := by
  cases h with
  | slot i => exact .trans (.trans (.of_frame (setSlot_frame ..) (.of_ctl rfl)) (markIf_mild ..)) (markIf_mild ..)
  | interim => exact .of_frame (setFitment_frame ..) (.of_ctl rfl)
  | orphan => exact .trans (.of_frame (setOrphan_frame ..) (.of_ctl rfl)) (markIf_mild ..)

theorem testService_mild (i) : s.Mild (s.testService i) [.serviceDue] :=
  have ⟨link, _, others⟩ := testService_notice s i
  ⟨testService_marksOnly s i, link, fun k out => others k (by simpa using out)⟩

theorem testLife_mild (i) : s.Mild (s.testLife i) [.lifeLimit] :=
  have ⟨link, _, others⟩ := testLife_notice s i
  ⟨testLife_marksOnly s i, link, fun k out => others k (by simpa using out)⟩

theorem noteMerges_mild (p h src before after) (qs : List Quantity) :
    s.Mild (qs.foldl (State.noteMerge p h src before after) s) [.saturated] :=
  .foldl (fun s q => raiseSaturated_mild s _ _ _ _ q _) qs s

theorem noteMerges_frame (p h src before after) (qs : List Quantity) :
    s.sameExcept (qs.foldl (State.noteMerge p h src before after) s) [.link] :=
  .foldl (fun s q => raiseSaturated_frame s _ _ _ _ q _) qs s

theorem mergeInto_mild (p h src) : s.Mild (s.mergeInto p h src) [.saturated] :=
  .trans ((setTally_mild ..).mono (by simp)) (noteMerges_mild ..)

/-! ## The interim accumulator moved (R15) -/

theorem mergeInto_slot_table (p : Position) (i : Fin 20) (src : Tally) : (s.mergeInto p (.slot i) src).table =
    { s.table with slots := s.table.slots.set i { s.table.slots[i] with tally := src.merge s.table.slots[i].tally } } :=
  ((noteMerges_frame ..).table (by simp)).trans (setTally_slot_table ..)

theorem mergeInto_slot_frame (p : Position) (i : Fin 20) (src : Tally) :
    s.sameExcept (s.mergeInto p (.slot i) src) [.table, .ctl, .link] :=
  .trans (.trans ((setSlot_frame ..).mono (by simp)) (.trans ((markIf_frame ..).mono (by simp)) ((markIf_frame ..).mono (by simp))))
    ((noteMerges_frame ..).mono (by simp))

theorem mergeOrphan_tally (c : Context) : (s.mergeOrphan c).tally = { s.tally with
    orphans := s.tally.orphans.set c.position.index (c.interim.merge s.tally.orphans[c.position.index]) } := by
  have set : (s.setTally c.position .orphan (c.interim.merge (s.tallyOf c.position .orphan))).tally = { s.tally with
      orphans := s.tally.orphans.set c.position.index (c.interim.merge s.tally.orphans[c.position.index]) } :=
    (markIf_frame ..).tally (by simp)
  exact ((noteMerges_frame ..).tally (by simp)).trans set

theorem mergeOrphan_mild (c : Context) : s.Mild (s.mergeOrphan c) [.saturated] :=
  .trans (mergeInto_mild ..) ((markDirty_mild ..).mono (by simp))

/-! ## The context ended (R125) -/

/-- What ends with a context: the outgoing slot's thresholds are tested, or without one nothing is. -/
theorem endContext_of_outgoing {c : Context} {o : Fin 20 × Slot} (out : c.outgoing = some o) : s.endContext c =
    ({ s.mergeInto c.position (.slot o.1) c.interim with fitment := none }.testService o.1).testLife o.1 := by
  rw [State.endContext, out]

theorem endContext_of_none {c : Context} (out : c.outgoing = none) : s.endContext c = { s.mergeOrphan c with fitment := none } := by
  rw [State.endContext, out]

/-- The notice kinds that the end of a context can raise. -/
abbrev endKinds : List NoticeKind := [.saturated, .serviceDue, .lifeLimit]

theorem endContext_mild (c : Context) : s.Mild (s.endContext c) endKinds := by
  cases out : c.outgoing with
  | some o =>
    rw [endContext_of_outgoing s out]
    have merged := (mergeInto_mild s c.position (.slot o.1) c.interim).mono (ks := endKinds) (by simp)
    have closed : (s.mergeInto c.position (.slot o.1) c.interim).Mild
      { s.mergeInto c.position (.slot o.1) c.interim with fitment := none } endKinds := .of_frame (setFitment_frame ..) (.of_ctl rfl)
    exact ((merged.trans closed).trans ((testService_mild ..).mono (by simp))).trans ((testLife_mild ..).mono (by simp))
  | none =>
    rw [endContext_of_none s out]
    exact .trans ((mergeOrphan_mild s c).mono (by simp)) (.of_frame (setFitment_frame ..) (.of_ctl rfl))

theorem endContext_blocks (c : Context) : s.sameExcept (s.endContext c) [.tally, .table, .fitment, .ctl, .link] := by
  cases out : c.outgoing with
  | some o =>
    rw [endContext_of_outgoing s out]
    exact .trans (.trans (.trans ((mergeInto_slot_frame ..).mono (by simp)) ((setFitment_frame ..).mono (by simp)))
      ((testService_frame ..).mono (by simp))) ((testLife_frame ..).mono (by simp))
  | none =>
    rw [endContext_of_none s out]
    exact .trans ((mergeOrphan_frame_tally ..).mono (by simp)) ((setFitment_frame ..).mono (by simp))

theorem endContext_fitment (c : Context) : (s.endContext c).fitment = none := by
  cases out : c.outgoing with
  | some o =>
    rw [endContext_of_outgoing s out, (testLife_frame ..).fitment (by simp), (testService_frame ..).fitment (by simp)]
  | none => rw [endContext_of_none s out]

/-- The outgoing slot once its tallies are back and its thresholds are tested. -/
def Slot.returned (x : Slot) (interim : Tally) : Slot :=
  { ident := { x.ident with limits := x.ident.limits.map (testedLimits (interim.merge x.tally)) }, tally := interim.merge x.tally }

theorem endContext_table {c : Context} {o : Fin 20 × Slot} (out : c.outgoing = some o) : (s.endContext c).table = { s.table with
    slots := s.table.slots.set o.1 (s.table.slots[o.1].returned c.interim) } := by
  have merged := mergeInto_slot_table s c.position o.1 c.interim
  have slot : (s.mergeInto c.position (.slot o.1) c.interim).table.slots[o.1] =
      { s.table.slots[o.1] with tally := c.interim.merge s.table.slots[o.1].tally } := by simp [merged]
  rw [endContext_of_outgoing s out, testBoth_slots]
  show ComponentTable.mk ((s.mergeInto c.position (.slot o.1) c.interim).table.slots.set o.1
    ((s.mergeInto c.position (.slot o.1) c.interim).table.slots[o.1].withLimits
      (testedLimits (s.mergeInto c.position (.slot o.1) c.interim).table.slots[o.1].tally)))
    (s.mergeInto c.position (.slot o.1) c.interim).table.map = _
  rw [slot, merged]
  simp only [Vector.set_set]
  rfl

theorem endContext_table_of_none {c : Context} (out : c.outgoing = none) : (s.endContext c).table = s.table := by
  rw [endContext_of_none s out]
  exact (mergeOrphan_frame_tally s c).table (by simp)

theorem endContext_tally_of_outgoing {c : Context} {o : Fin 20 × Slot} (out : c.outgoing = some o) :
    (s.endContext c).tally = s.tally := by
  rw [endContext_of_outgoing s out, (testLife_frame ..).tally (by simp), (testService_frame ..).tally (by simp)]
  exact (mergeInto_slot_frame ..).tally (by simp)

/-- The end of a context is what `State.fitmentEnded` says. -/
theorem endContext_ended (c : Context) : s.fitmentEnded (s.endContext c) c := by
  refine ⟨endContext_fitment s c, ?_, fun o out => ?_, fun j other => ?_, fun out => ?_, (endContext_mild s c).ctl⟩
  · cases out : c.outgoing with
    | some o => rw [endContext_table s out]
    | none => rw [endContext_table_of_none s out]
  · have slot : (s.endContext c).table.slots[o.1] = s.table.slots[o.1].returned c.interim := by simp [endContext_table s out]
    rw [slot]
    exact ⟨rfl, rfl, endContext_tally_of_outgoing s out⟩
  · cases out : c.outgoing with
    | some o =>
      have ne : o.1.val ≠ j.val := fun e => other (by rw [out]; exact congrArg some (Fin.ext e))
      simp [endContext_table s out, ne]
    | none => rw [endContext_table_of_none s out]
  · rw [endContext_of_none s out]
    exact mergeOrphan_tally s c

end

/-- What follows leaves the end of the fitment as it is. -/
theorem State.fitmentEnded.then {s u t : State} {c : Context} {bs : List Block} (h : s.fitmentEnded u c) (k : u.sameExcept t bs)
    (out : ∀ b ∈ [Block.tally, .table, .fitment, .ctl], b ∉ bs := by decide) : s.fitmentEnded t c := by
  unfold State.fitmentEnded at *
  rw [k.tally (out _ (by simp)), k.table (out _ (by simp)), k.fitment (out _ (by simp)), k.ctl (out _ (by simp))]
  exact h

/-! ## ABORT_FITMENT, and the deadline (R125, R126) -/

theorem exec_abortFitment (s : State) (tag : Byte) (payload : List Byte) :
    exec (.abortFitment tag payload) s = .next (s.serve ⟨0x15, tag, payload⟩ abortMeaning) := rfl

theorem abortMeaning_eq (s : State) : abortMeaning [] s = (s.withContext fun c =>
    .done (leBytes 1 c.action.code ++ leBytes 1 c.position.code) (s.endContext c)).touched :=
  congrArg Answer.touched (sized_nil ..)

theorem abortMeaning_of_some {s : State} {c : Context} (opened : s.fitment = some c) : abortMeaning [] s =
    .done (leBytes 1 c.action.code ++ leBytes 1 c.position.code) (s.endContext c) := by
  rw [abortMeaning_eq, withContext_some opened, Answer.touched, touchDeadline_of_none (endContext_fitment s c)]

theorem exec_fitmentDeadlineExpiry {s : State} {c : Context} (opened : s.fitment = some c) : exec .fitmentDeadlineExpiry s =
    .next ((((s.reach c.deadline).endContext c).raise .fitmentTimeout (.position c.position)).supervise) := by
  show execFitmentDeadlineExpiry s = _
  rw [execFitmentDeadlineExpiry, opened]

/-- Settles O42: both the abort and the timeout end the context by `endContext`. -/
theorem fitmentEnded : Obligations.FitmentEnded := by
  unfold Obligations.FitmentEnded
  refine fun s tag => ⟨fun ready closed => ?_, fun c opened => ⟨fun ready => ?_, ?_⟩⟩
  · refine ready_noFitment ready (exec_abortFitment ..) closed fun d => ?_
    show abortMeaning [] (s.taking d) = _
    rw [abortMeaning_eq, withContext_none (s := s.taking d) closed]
    rfl
  · obtain ⟨d, t, served, link, power, frame⟩ := ready_done (m := abortMeaning) ready fun d =>
      abortMeaning_of_some (s := s.taking d) opened
    have mild := endContext_mild (s.taking d) c
    have blocks := endContext_blocks (s.taking d) c
    have ended : s.fitmentEnded ((s.taking d).endContext c) c := endContext_ended (s.taking d) c
    refine ⟨t, (exec_abortFitment ..).trans (congrArg _ served), ?_, ?_, ended.then frame, ?_⟩
    · rw [State.replied, link, mild.link]
      rfl
    · rw [State.samePower, power, blocks.sup (by simp)]
      rfl
    · exact .trans (.trans ((taking_frame s d).mono (by simp)) (blocks.mono (by simp))) (frame.mono (by simp))
  · let u := (s.reach c.deadline).endContext c
    have mild : s.Mild u endKinds :=
      .trans (.of_frame (reach_frame s _) rfl) (endContext_mild (s.reach c.deadline) c)
    have blocks := endContext_blocks (s.reach c.deadline) c
    have ended : s.fitmentEnded u c := endContext_ended (s.reach c.deadline) c
    have raised := raise_frame u .fitmentTimeout (.position c.position)
    have after : u.sameExcept (u.raise .fitmentTimeout (.position c.position)).supervise [.link, .sup] :=
      .then raised (supervise_frame _) (by simp) (by simp)
    have before : u.notice .fitmentTimeout = s.notice .fitmentTimeout := mild.others _ (by decide)
    have level : u.level .fitmentTimeout = s.level .fitmentTimeout := mild.level _
    have notice : (u.raise .fitmentTimeout (.position c.position)).supervise.notice .fitmentTimeout =
        u.noticeAfter .fitmentTimeout (.position c.position) (s.notice .fitmentTimeout) := by
      rw [← before]; exact raise_notice_self ..
    refine ⟨_, exec_fitmentDeadlineExpiry opened, ?_, ended.then after, ?_, fun on => ?_, fun on absent => ?_, ?_, ?_⟩
    · rw [after.now (by simp), blocks.now (by simp)]
      rfl
    · rw [State.samePower, supervise_sup, raised.sup (by simp), blocks.sup (by simp)]
      rfl
    · rw [notice]
      exact noticeAfter_ne_none _ _ _ (level.symm ▸ on) _
    · rw [notice, absent, noticeAfter_none _ _ _ (level.symm ▸ on)]
    · have link : (u.raise .fitmentTimeout (.position c.position)).supervise.link =
          (u.raise .fitmentTimeout (.position c.position)).link := rfl
      rw [link, raise_link, mild.link]
    · exact .trans ((reach_frame ..).mono (by simp)) (.trans (blocks.mono (by simp)) (after.mono (by simp)))

end Sys2Proof.Machine
end

-- ==== The driveline timers (O20, O21) ====
section
/-! SUPPORT. What the settle timer, the launch window, the stale timer and the quiet timer end (R60, R63, R67, R71). -/

namespace Sys2Proof.Machine

theorem State.sameExcept.symm {s t : State} {bs : List Block} (h : s.sameExcept t bs) : t.sameExcept s bs := by
  obtain ⟨h0, h1, h2, h3, h4, h5, h6, h7, h8, h9, h10, h11, h12, h13, h14, h15, h16, h17⟩ := h
  exact ⟨h0.symm, fun k => (h1 k).symm, fun k => (h2 k).symm, fun k => (h3 k).symm, fun k => (h4 k).symm, fun k => (h5 k).symm,
    fun k => (h6 k).symm, fun k => (h7 k).symm, fun k => (h8 k).symm, fun k => (h9 k).symm, fun k => (h10 k).symm,
    fun k => (h11 k).symm, fun k => (h12 k).symm, fun k => (h13 k).symm, fun k => (h14 k).symm, fun k => (h15 k).symm,
    fun k => (h16 k).symm, fun k => (h17 k).symm⟩

/-- The parts that routing neither reads nor changes. -/
def besideRouting : List Block := [.time, .free, .nextId, .pins, .clock, .channels, .lines, .run, .driveline, .store, .ctl, .sup, .link]

/-- What is routed later is routed, whatever else changed before. -/
theorem State.routed.of_later {s u t : State} {xs : List Quantum} {bs : List Block} (h : u.routed t xs) (before : s.sameExcept u bs)
    (out : bs ⊆ besideRouting := by decide) : s.routed t xs :=
  h.same (before.symm.mono out) (.refl t []) (by decide) (by decide)

/-- What has been routed stays routed, whatever else changes after. -/
theorem State.routed.then {s u t : State} {xs : List Quantum} {bs : List Block} (h : s.routed u xs) (after : u.sameExcept t bs)
    (out : bs ⊆ besideRouting := by decide) : s.routed t xs :=
  h.same (.refl s []) (after.mono out) (by decide) (by decide)

/-- The gear that was settling is engaged, and nothing is counted yet (R60). -/
def State.settled (s : State) (due g : Nat) : State :=
  { s.reach due with driveline := { s.driveline with gear := .engaged g, lastGear := some g, settleTimer := none } }

theorem settled_frame (s : State) (due g : Nat) : s.sameExcept (s.settled due g) [.time, .driveline] := by
  simp [State.sameExcept, State.settled]

theorem engageGear_of_same {s : State} {due g : Nat} (same : s.driveline.lastGear = none ∨ s.driveline.lastGear = some g) :
    (s.reach due).engageGear g = s.settled due g := by
  rcases same with none | same
  · simp [State.engageGear, State.settled, none]
  · simp [State.engageGear, State.settled, same]

theorem engageGear_of_other {s : State} {due g h : Nat} (last : s.driveline.lastGear = some h) (other : h ≠ g) :
    (s.reach due).engageGear g = (s.settled due g).take .shift := by
  simp [State.engageGear, State.settled, last, other]

theorem exec_settleTimerExpiry {s : State} {due g : Nat} (running : s.driveline.settleTimer = some due)
    (settling : s.driveline.gear = .settling g) : exec .settleTimerExpiry s = .next ((s.reach due).engageGear g) := by
  show execSettleTimerExpiry s = _
  rw [execSettleTimerExpiry, running, settling]

/-- Settles O20: by the gear engaged last. -/
theorem settledGearEngages : Obligations.SettledGearEngages := by
  unfold Obligations.SettledGearEngages
  intro s due g running settling
  refine ⟨_, exec_settleTimerExpiry running settling, ?_⟩
  have before := settled_frame s due g
  by_cases same : s.driveline.lastGear = none ∨ s.driveline.lastGear = some g
  · rw [engageGear_of_same same]
    refine ⟨rfl, rfl, fun _ => before, fun h last other => ?_, before.mono (by simp)⟩
    simp [last, other] at same
  · obtain ⟨none, other⟩ := not_or.1 same
    obtain ⟨h, last⟩ := Option.ne_none_iff_exists'.1 none
    rw [engageGear_of_other last fun e => other (last.trans (congrArg some e))]
    have counted := take_frame (s.settled due g) .shift
    have routed : s.routed ((s.settled due g).take .shift) [quantum .gearbox .shifts 1] :=
      (take_routed (s.settled due g) .shift).of_later before
    exact ⟨counted.now (by simp), counted.driveline (by simp), fun k => absurd k same, fun _ _ _ => routed,
      (before.mono (by simp)).trans (counted.mono (by simp))⟩

/-- The tow state ends, and a checkpoint timer is not started by that (R71, R158). -/
theorem setTow_notTowing (s : State) : s.setTow .notTowing = { s with driveline := { s.driveline with tow := .notTowing } } := by
  have calm : ({ s with driveline := { s.driveline with tow := .notTowing } } : State).inUse = true → s.inUse = true := by
    simp only [State.inUse, ne_eq, not_true_eq_false, decide_false, Bool.or_false]
    exact fun h => by rw [h]; rfl
  have off : ¬ (!s.inUse && ({ s with driveline := { s.driveline with tow := .notTowing } } : State).inUse &&
      s.ctl.checkpointTimer.isNone) = true := fun h => by
    simp only [Bool.and_eq_true, Bool.not_eq_true'] at h
    rw [calm h.1.2] at h
    exact absurd h.1.1 (by simp)
  exact if_neg off

/-- Settles O21: each timer's command, run. -/
theorem drivelineTimersExpire : Obligations.DrivelineTimersExpire := by
  unfold Obligations.DrivelineTimersExpire
  refine fun s due => ⟨fun running pending => ⟨(s.reach due).clutchEngaged, ?_, rfl, rfl, ?_⟩, fun running => ?_, fun running => ?_⟩
  · show execLaunchWindowExpiry s = _
    rw [execLaunchWindowExpiry, running, pending]
  · simp [State.sameExcept, State.clutchEngaged]
  · let u : State := { s.reach due with driveline := { s.driveline with fresh := false, staleTimer := none } }
    have stale : s.sameExcept u [.time, .driveline] := by simp [State.sameExcept, u]
    have raised := raise_frame u .loadStale (.load (s.driveline.load.getD 0))
    refine ⟨u.raise .loadStale (.load (s.driveline.load.getD 0)), ?_, raised.now (by simp), raised.driveline (by simp), fun on => ?_,
      fun off => ?_, (stale.mono (by simp)).trans (raised.mono (by simp))⟩
    · show execStaleTimerExpiry s = _
      rw [execStaleTimerExpiry, running]
      rfl
    · rw [raise_notice_self]
      exact noticeAfter_ne_none u _ _ on _
    · rw [raise_of_off u _ _ off]
      rfl
  · refine ⟨({ s.reach due with driveline := { s.driveline with tow := .notTowing, quietTimer := none } } : State).supervise, ?_, rfl, rfl,
      rfl, ?_⟩
    · show execQuietTimerExpiry s = _
      rw [execQuietTimerExpiry, running]
      dsimp only
      rw [setTow_notTowing]
      rfl
    · simp [State.sameExcept, State.supervise]

end Sys2Proof.Machine
end

-- ==== Queue and arbiter (O54) ====
section
/-! SUPPORT. The Write Queue class by class, and the arbiter case by case (R152, R153, R164, R178). -/

namespace Sys2Proof.Machine

/-! ## The queue, class by class -/

theorem linesAt_join (q : WriteQueue) (c d : WriteClass) (n : Nat) :
    (q.join c n).linesAt d = q.linesAt d ++ (if d = c then [n] else []) := by
  cases c <;> cases d <;> simp [WriteQueue.join, WriteQueue.linesAt]

theorem linesAt_without (q : WriteQueue) (d : WriteClass) (n : Nat) : (q.without n).linesAt d = (q.linesAt d).filter (· != n) := by
  cases d <;> rfl

/-- A line of a queue without repetition stands in one class. -/
theorem classOf_of_mem {q : WriteQueue} {d : WriteClass} {n : Nat} (nodup : q.lines.Nodup) (mem : n ∈ q.linesAt d) : q.classOf n = some d := by
  simp only [WriteQueue.lines, List.nodup_append, List.mem_append] at nodup
  obtain ⟨⟨⟨-, -, first⟩, -, second⟩, -, third⟩ := nodup
  have notFlush (h : n ∈ q.commit ∨ n ∈ q.checkpoint ∨ n ∈ q.repair) : n ∉ q.flush := fun k => by
    rcases h with h | h | h
    · exact first n k n h rfl
    · exact second n (.inl k) n h rfl
    · exact third n (.inl (.inl k)) n h rfl
  have notCommit (h : n ∈ q.checkpoint ∨ n ∈ q.repair) : n ∉ q.commit := fun k => by
    rcases h with h | h
    · exact second n (.inr k) n h rfl
    · exact third n (.inl (.inr k)) n h rfl
  have notCheckpoint (h : n ∈ q.repair) : n ∉ q.checkpoint := fun k => third n (.inr k) n h rfl
  simp only [WriteQueue.classOf, List.contains_iff_mem]
  cases d with
  | flush => exact if_pos mem
  | commit => rw [if_neg (notFlush (.inl mem)), if_pos (show n ∈ q.commit from mem)]
  | checkpoint => rw [if_neg (notFlush (.inr (.inl mem))), if_neg (notCommit (.inl mem)), if_pos (show n ∈ q.checkpoint from mem)]
  | scrubRepair =>
    rw [if_neg (notFlush (.inr (.inr mem))), if_neg (notCommit (.inr mem)), if_neg (notCheckpoint mem), if_pos (show n ∈ q.repair from mem)]

theorem put_of_absent {q : WriteQueue} {n : Nat} (absent : n ∉ q.lines) (c : WriteClass) : q.put c n = q.join c n := by
  rw [WriteQueue.put, (classOf_none q n).2 absent]

theorem put_of_class {q : WriteQueue} {n : Nat} {d : WriteClass} (at_ : q.classOf n = some d) (c : WriteClass) :
    q.put c n = if c.rank < d.rank then (q.without n).join c n else q := by
  rw [WriteQueue.put, at_]

/-- What pops is the head, and every class keeps its lines but for it. -/
theorem pop_linesAt {q rest : WriteQueue} {n : Nat} (h : q.pop = some (n, rest)) (d : WriteClass) :
    rest.linesAt d = q.linesAt d ∨ (q.linesAt d).head? = some n ∧ rest.linesAt d = (q.linesAt d).tail := by
  rcases q with ⟨_ | ⟨a, f⟩, _ | ⟨b, c⟩, _ | ⟨e, k⟩, _ | ⟨g, r⟩⟩ <;>
    simp only [WriteQueue.pop, Option.some.injEq, Prod.mk.injEq, reduceCtorEq] at h <;>
    obtain ⟨rfl, rfl⟩ := h <;> cases d <;> simp [WriteQueue.linesAt]

theorem pop_of_head {q : WriteQueue} {n : Nat} (h : q.lines.head? = some n) : ∃ rest, q.pop = some (n, rest) := by
  cases p : q.pop with
  | none => rw [pop_none p] at h; exact absurd h (by simp)
  | some x =>
    obtain ⟨m, rest⟩ := x
    rw [pop_lines p, List.head?_cons, Option.some.injEq] at h
    exact ⟨rest, by rw [h]⟩

theorem pop_of_empty {q : WriteQueue} (h : q.lines = []) : q.pop = none := by
  cases p : q.pop with
  | none => rfl
  | some x => rw [pop_lines (n := x.1) (rest := x.2) p] at h; exact absurd h (by simp)

theorem queue_ext {q r : WriteQueue} (h : ∀ d, q.linesAt d = r.linesAt d) : q = r := by
  cases q; cases r
  have f := h .flush; have c := h .commit; have k := h .checkpoint; have x := h .scrubRepair
  simp only [WriteQueue.linesAt] at f c k x
  rw [f, c, k, x]

/-! ## Queuing -/

theorem enqueue_of_beside {x : StoreController} {n : Nat} (beside : x.flightLine ≠ some n) (c : WriteClass) :
    x.enqueue c n = { x with queue := x.queue.put (x.effective c) n } := by
  unfold StoreController.enqueue
  cases flight : x.flight with
  | none => rfl
  | some f =>
    have : f.line ≠ n := fun e => beside (by rw [StoreController.flightLine, flight, Option.map_some, e])
    exact if_neg this

theorem enqueue_of_flight {x : StoreController} {f : Flight} (flight : x.flight = some f) (c : WriteClass) :
    x.enqueue c f.line = { x with flight := some { f with pending := some (raisePending (x.effective c) f.pending) } } := by
  rw [StoreController.enqueue, flight]
  exact if_pos rfl

/-! ## The arbiter -/

variable {s : State}

/-- The arbiter may start the write at the head of the queue (R153). -/
def State.mayWrite (s : State) : Prop :=
  s.sup.power = .active ∨ s.sup.power = .draining ∨ s.sup.power = .holdup ∧ s.ctl.flush ≠ .complete

theorem arbitrate_of_busy (busy : s.ctl.flight ≠ none) : s.arbitrate = s :=
  if_pos (Option.isSome_iff_ne_none.2 busy)

theorem arbitrate_of_resting (resting : s.sup.power = .starting ∨ s.sup.power = .dormant) : s.arbitrate = s := by
  unfold State.arbitrate
  rcases resting with power | power <;> simp [power]

theorem arbitrate_of_head {n : Nat} {rest : WriteQueue} (idle : s.ctl.flight = none) (may : s.mayWrite)
    (pop : s.ctl.queue.pop = some (n, rest)) : s.arbitrate = s.startWrite n rest false none := by
  unfold State.arbitrate
  rcases may with power | power | ⟨power, going⟩
  · simp [idle, power, pop]
  · simp [idle, power, pop]
  · simp [idle, power, pop, going]

section Empty
variable (idle : s.ctl.flight = none) (empty : s.ctl.queue.lines = [])
include idle empty

theorem arbitrate_active_of_empty (power : s.sup.power = .active) : s.arbitrate = s := by
  simp [State.arbitrate, idle, power, pop_of_empty empty]

theorem arbitrate_draining_of_empty (power : s.sup.power = .draining) : s.arbitrate = s.enterDormant := by
  simp [State.arbitrate, idle, power, pop_of_empty empty]

theorem arbitrate_holdup_of_empty (power : s.sup.power = .holdup) (still : s.ctl.flush ≠ .running) : s.arbitrate = s := by
  simp [State.arbitrate, idle, power, pop_of_empty empty, still]

theorem arbitrate_holdup_marks (power : s.sup.power = .holdup) (running : s.ctl.flush = .running) : s.arbitrate = s.writeMark := by
  simp [State.arbitrate, idle, power, pop_of_empty empty, running]

end Empty

theorem arbitrate_of_complete (power : s.sup.power = .holdup) (complete : s.ctl.flush = .complete) : s.arbitrate = s := by
  simp [State.arbitrate, power, complete]

theorem startWrite_writes {n : Nat} {rest : WriteQueue} (pop : s.ctl.queue.pop = some (n, rest)) :
    s.writes (s.startWrite n rest false none) s.ctl.queue n :=
  ⟨rfl, by rw [pop_lines pop]; rfl, pop_linesAt pop⟩

/-- A write that starts takes its line from the queue into flight. -/
theorem startWrite_holds {n : Nat} {rest : WriteQueue} (idle : s.ctl.flight = none) (pop : s.ctl.queue.pop = some (n, rest)) (m : Nat) :
    (s.startWrite n rest false none).ctl.holds m ↔ s.ctl.holds m := by
  simp only [StoreController.holds, StoreController.flightLine, State.startWrite, pop_lines pop, idle, Option.map_some,
    Option.some.injEq, List.mem_cons, Option.map_none, reduceCtorEq, or_false]
  rw [or_comm, eq_comm]

/-- Settles O54: the queue class by class, and the arbiter case by case. -/
theorem queuingAndChoice : Obligations.QueuingAndChoice := by
  unfold Obligations.QueuingAndChoice
  refine ⟨fun x c n => ⟨by decide, by decide, by decide, fun out => ?_, fun d beside nodup mem => ?_, fun f flight line => ?_⟩,
    fun s => ⟨arbitrate_of_busy, arbitrate_of_resting, fun n idle may head => ?_⟩⟩
  · obtain ⟨absent, beside⟩ := not_or.1 out
    rw [enqueue_of_beside beside, put_of_absent absent]
    exact ⟨rfl, fun d => linesAt_join ..⟩
  · rw [enqueue_of_beside beside, put_of_class (classOf_of_mem nodup mem)]
    refine ⟨fun (higher : (x.effective c).rank < d.rank) => ⟨rfl, fun e => ?_⟩, fun (lower : ¬ (x.effective c).rank < d.rank) => ?_⟩
    · rw [if_pos higher, linesAt_join, linesAt_without]
      rfl
    · rw [if_neg lower]
  · rw [← line, enqueue_of_flight flight]
    refine ⟨fun none => by rw [none]; rfl, fun d pending => ⟨fun (higher : (x.effective c).rank < d.rank) => ?_, fun (lower : ¬ (x.effective c).rank < d.rank) => ?_⟩⟩
    · rw [pending, raisePending, if_pos higher]
      rfl
    · rw [pending, raisePending, if_neg lower, ← pending, ← flight]
  · obtain ⟨rest, pop⟩ := pop_of_head head
    rw [arbitrate_of_head idle (may.imp_right .inl) pop]
    exact ⟨startWrite_writes pop, rfl, startWrite_frame .., rfl⟩

end Sys2Proof.Machine
end

-- ==== The store's timers (O55) ====
section
/-! SUPPORT. The checkpoint timer, the scrub timer and the dormancy timer (R158, R159, R161, R162, R178). -/

namespace Sys2Proof.Machine

variable {s : State}

/-! ## Checkpoint -/

/-- A checkpoint in ACTIVE queues the dirty lines from 5 to 177, and changes the controller alone. -/
theorem checkpoint_spec (active : s.sup.power = .active) :
    (∀ n, s.checkpoint.ctl.holds n ↔ s.ctl.holds n ∨ n ∈ s.ctl.dirty ∧ 5 ≤ n ∧ n ≤ 177) ∧
    s.checkpoint.ctl.records = s.ctl.records ∧ s.ctl.sameSettings s.checkpoint.ctl ∧ s.sameExcept s.checkpoint [.ctl] := by
  have lost : s.markLost = false := by simp [State.markLost, active]
  obtain ⟨holds, records, settings, frame⟩ := queueLines_spec s (.inl active) .checkpoint
    (s.ctl.dirty.filter fun n => decide (5 ≤ n ∧ n ≤ 177) && !(decide (n = 5) && s.markLost))
  refine ⟨fun n => (holds n).trans (or_congr_right ?_), records, settings, frame⟩
  simp [lost]

theorem inUse_iff (s : State) : s.inUse = true ↔ s.run.state = .running ∨ s.driveline.tow ≠ .notTowing := by simp [State.inUse]

/-! ## Scrub -/

theorem inHand_iff (x : StoreController) (n : Nat) : x.inHand n = true ↔ x.holds n := by
  have : (x.queue.classOf n).isSome = true ↔ n ∈ x.queue.lines := by
    rw [Option.isSome_iff_ne_none, ne_eq, classOf_none, not_not]
  simp only [StoreController.inHand, Bool.or_eq_true, decide_eq_true_eq, this, StoreController.holds]
  exact or_comm

theorem nextLine_eq {p : Nat} (h : p < 178) : nextLine p = (p + 1) % 178 := by
  show (if p + 1 < 178 then p + 1 else 0) = _
  by_cases last : p + 1 < 178
  · rw [if_pos last, Nat.mod_eq_of_lt last]
  · rw [if_neg last]
    omega

/-- A repair queues its line, unless that is a line 0 formed from an uncorrectable read (R162). -/
theorem queueRepair_spec (active : s.sup.power = .active) (p : Nat) :
    (∀ n, (s.queueRepair p).ctl.holds n ↔ s.ctl.holds n ∨ n = p ∧ ¬(p = 0 ∧ s.ctl.identityLost = true)) ∧
    s.ctl.sameSettings (s.queueRepair p).ctl ∧ s.sameExcept (s.queueRepair p) [.ctl] := by
  unfold State.queueRepair
  split
  · rename_i lost
    exact ⟨fun n => by simp [lost], .refl _, .refl _ _⟩
  · rename_i kept
    obtain ⟨holds, -, settings, frame⟩ := queueLines_spec s (.inl active) .scrubRepair [p]
    exact ⟨fun n => by rw [holds, List.mem_singleton, and_iff_left kept], settings, frame⟩

/-- What a scrub read of line p brings: by its outcome, a count and a repair (R162). -/
theorem scrubLine_spec (active : s.sup.power = .active) (p : Nat) :
    let read := (storeGet s.store p).outcome
    let t := s.scrubLine p
    t.ctl.correctedCount = (if read = .corrected then min 65535 (s.ctl.correctedCount + 1) else s.ctl.correctedCount) ∧
    t.ctl.repairedCount = (if read = .uncorrectable then min 65535 (s.ctl.repairedCount + 1) else s.ctl.repairedCount) ∧
    t.ctl.scrubTimer = s.ctl.scrubTimer ∧ t.ctl.scrubPointer = s.ctl.scrubPointer ∧
    (∀ n, t.ctl.holds n ↔ s.ctl.holds n ∨ n = p ∧ read ≠ .clean ∧ ¬(p = 0 ∧ s.ctl.identityLost = true)) ∧
    s.sameExcept t [.ctl] := by
  unfold State.scrubLine
  cases read : (storeGet s.store p).outcome with
  | clean => exact ⟨rfl, rfl, rfl, rfl, fun n => by simp, .refl _ _⟩
  | corrected =>
    obtain ⟨holds, settings, frame⟩ := queueRepair_spec
      (s := { s with ctl := { s.ctl with correctedCount := bump Config.max16 s.ctl.correctedCount } }) active p
    obtain ⟨-, -, corrected, repaired, -, timer, pointer, -, -, -, -⟩ := settings
    exact ⟨corrected, repaired, timer, pointer, fun n => (holds n).trans (by simp; rfl), .trans (setCtl_frame ..) frame⟩
  | uncorrectable =>
    obtain ⟨holds, settings, frame⟩ := queueRepair_spec
      (s := { s with ctl := { s.ctl with repairedCount := bump Config.max16 s.ctl.repairedCount } }) active p
    obtain ⟨-, -, corrected, repaired, -, timer, pointer, -, -, -, -⟩ := settings
    exact ⟨corrected, repaired, timer, pointer, fun n => (holds n).trans (by simp; rfl), .trans (setCtl_frame ..) frame⟩

/-! ## Drain -/

/-- The drain queues every dirty line; with nothing then queued or in flight the recorder is DORMANT (R159, R178). -/
theorem drain_spec (s : State) :
    s.drain.sup.dormancy = none ∧
    ((s.ctl.flight = none ∧ s.ctl.queue.lines = [] ∧ s.ctl.dirty = []) → s.drain.sup.power = .dormant ∧
      s.drain.tally.accrual = none ∧ s.drain.ctl.checkpointTimer = none ∧ s.drain.ctl.scrubTimer = none) ∧
    (¬(s.ctl.flight = none ∧ s.ctl.queue.lines = [] ∧ s.ctl.dirty = []) → s.drain.sup.power = .draining ∧
      s.drain.tally = s.tally ∧ ∀ n, s.drain.ctl.holds n ↔ s.ctl.holds n ∨ n ∈ s.ctl.dirty) := by
  let draining : State := { s with sup := { s.sup with power := .draining, dormancy := none } }
  let u := draining.enqueueAll .checkpoint s.ctl.dirty
  have power : u.sup.power = .draining := rfl
  obtain ⟨holds, -⟩ := enqueueAll_spec draining .checkpoint s.ctl.dirty
  have drain : s.drain = u.arbitrate := rfl
  rw [drain]
  by_cases idle : u.ctl.flight = none
  · by_cases empty : u.ctl.queue.lines = []
    · have none (n : Nat) : ¬ u.ctl.holds n := by simp [StoreController.holds, StoreController.flightLine, idle, empty]
      have calm : s.ctl.flight = Option.none ∧ s.ctl.queue.lines = [] ∧ s.ctl.dirty = [] := by
        refine ⟨?_, List.eq_nil_iff_forall_not_mem.2 fun n m => none n ((holds n).2 (.inl (.inl m))),
          List.eq_nil_iff_forall_not_mem.2 fun n m => none n ((holds n).2 (.inr m))⟩
        cases flight : s.ctl.flight with
        | none => rfl
        | some f => exact absurd ((holds f.line).2 (.inl (.inr (by simp [draining, StoreController.flightLine, flight])))) (none _)
      rw [arbitrate_draining_of_empty idle empty power]
      exact ⟨rfl, fun _ => ⟨rfl, rfl, rfl, rfl⟩, fun busy => absurd calm busy⟩
    · obtain ⟨n, ns, lines⟩ := List.exists_cons_of_ne_nil empty
      obtain ⟨rest, pop⟩ := pop_of_head (q := u.ctl.queue) (n := n) (by rw [lines]; rfl)
      rw [arbitrate_of_head idle (.inr (.inl power)) pop]
      refine ⟨rfl, fun ⟨flight, queue, dirty⟩ => ?_, fun _ => ⟨rfl, rfl, fun m => (startWrite_holds idle pop m).trans (holds m)⟩⟩
      have held : u.ctl.holds n := .inl (by rw [lines]; exact List.mem_cons_self)
      have := (holds n).1 held
      simp [draining, StoreController.holds, StoreController.flightLine, flight, queue, dirty] at this
  · rw [arbitrate_of_busy idle]
    refine ⟨rfl, fun ⟨flight, queue, dirty⟩ => absurd ?_ idle, fun _ => ⟨rfl, rfl, holds⟩⟩
    show (List.foldl _ s.ctl s.ctl.dirty).flight = none
    rw [dirty]
    exact flight

/-- Settles O55: by what a checkpoint, a scrub read and a drain bring. -/
theorem storeTimersExpire : Obligations.StoreTimersExpire := by
  unfold Obligations.StoreTimersExpire
  refine fun s due active => ⟨fun running => ?_, fun decay running inside => ?_, fun running => ?_⟩
  · let u : State := { s.reach due with ctl := { s.ctl with checkpointTimer := (s.reach due).nextCheckpoint } }
    obtain ⟨holds, records, settings, frame⟩ := checkpoint_spec (s := u) active
    have now : u.checkpoint.now = max s.now due := frame.now (by simp)
    refine ⟨u.checkpoint, ?_, now, ?_, holds, records, .trans ?_ (frame.mono (by simp))⟩
    · show execCheckpointTimerExpiry s = _
      rw [execCheckpointTimerExpiry, running]
      rfl
    · obtain ⟨-, -, -, -, timer, -⟩ := settings
      rw [timer, now]
      by_cases use : s.run.state = .running ∨ s.driveline.tow ≠ .notTowing
      · rw [if_pos use]
        exact if_pos ((inUse_iff _).2 use)
      · rw [if_neg use]
        exact if_neg fun k => use ((inUse_iff _).1 k)
    · simp [State.sameExcept, u]
  · let u : State := { s.reach due with
      store := decayed s.store decay
      ctl := { s.ctl with scrubTimer := some (max s.now due + s.ctl.timing.step * 250000), scrubPointer := nextLine s.ctl.scrubPointer } }
    have before : s.sameExcept u [.time, .store, .ctl] := by simp [State.sameExcept, u]
    have run : exec (.scrubTimerExpiry decay) s =
        .next (if s.ctl.inHand s.ctl.scrubPointer then u else u.scrubLine s.ctl.scrubPointer) := by
      show execScrubTimerExpiry decay s = _
      rw [execScrubTimerExpiry, running]
      exact congrArg Host.Outcome.next (if_pos active)
    by_cases held : s.ctl.holds s.ctl.scrubPointer
    · refine ⟨u, run.trans (congrArg _ (if_pos ((inHand_iff ..).2 held))), rfl, rfl, rfl, nextLine_eq inside,
        fun k => absurd held k, fun _ => rfl, fun k => absurd held k, fun _ => rfl, fun n => ?_, before⟩
      exact ⟨.inl, fun k => k.elim id fun ⟨e, _⟩ => e ▸ held⟩
    · obtain ⟨corrected, repaired, timer, pointer, holds, frame⟩ := scrubLine_spec (s := u) active s.ctl.scrubPointer
      refine ⟨_, run.trans (congrArg _ (if_neg fun k => held ((inHand_iff ..).1 k))), frame.now (by simp), frame.store (by simp), ?_,
        pointer.trans (nextLine_eq inside), fun _ read => ?_, fun read => ?_, fun _ read => ?_, fun read => ?_, holds,
        before.trans (frame.mono (by simp))⟩
      · rw [timer, frame.now (by simp)]
        rfl
      · exact corrected.trans (if_pos read)
      · exact corrected.trans (if_neg (read.resolve_left held))
      · exact repaired.trans (if_pos read)
      · exact repaired.trans (if_neg (read.resolve_left held))
  · obtain ⟨dormancy, calm, busy⟩ := drain_spec (s.reach due)
    have frame := drain_frame (s.reach due)
    refine ⟨(s.reach due).drain, ?_, frame.now (by simp), dormancy, calm, busy,
      ((reach_frame s due).mono (by simp)).trans (frame.mono (by simp))⟩
    show execDormancyTimerExpiry s = _
    rw [execDormancyTimerExpiry, running]

end Sys2Proof.Machine
end

-- ==== Supply and RESET (O56) ====
section
/-! SUPPORT. What a write cut short leaves in the store, and the recorder at rest (R150, R164, R170, R171). -/

namespace Sys2Proof.Machine

variable {s : State}

/-- Without a set mark in line 5 start-up finds none set. -/
theorem markStored_of_unmarked {st : Store} (clear : (storeGet st 5).image.marked = false) : markStored st = false := by
  unfold markStored
  cases image : (storeGet st 5).image with
  | map m =>
    rw [image] at clear
    exact (congrArg _ clear).trans (Bool.and_false _)
  | _ => exact Bool.and_false _

theorem storeGet_storeLine (n : Nat) (l : StoredLine) (m : Nat) :
    storeGet (s.storeLine n l).store m = if m = n then l else storeGet s.store m := storeGet_storePut ..

/-- A write of the mark that failed or was cut short leaves no mark that start-up finds set (R164, log 33). -/
theorem storeLeft_unmarked {f : Flight} (line : f.line = 5) {m : MapLine} (image : f.image = .map m) (mark : m.mark = true)
    (found : WriteEnd) : markStored (s.storeLeft f found).store = false := by
  refine markStored_of_unmarked ?_
  rw [State.storeLeft, storeGet_storeLine, if_pos line.symm]
  exact leftBy_marked _ _ _ (by rw [image]; exact mark)

theorem cutWrite_store (cut : WriteEnd) :
    (s.ctl.flight = none → (s.cutWrite cut).store = s.store) ∧
    (∀ f, s.ctl.flight = some f → ∀ m, storeGet (s.cutWrite cut).store m =
      if m = f.line then leftBy (storeGet s.store m) f.image cut else storeGet s.store m) ∧
    ∀ f m, s.ctl.flight = some f → f.line = 5 → f.image = .map m → m.mark = true → markStored (s.cutWrite cut).store = false := by
  have left {f : Flight} (flight : s.ctl.flight = some f) : s.cutWrite cut = s.storeLeft f cut := by rw [State.cutWrite, flight]
  refine ⟨fun idle => by rw [State.cutWrite, idle], fun f flight m => ?_, fun f m flight line image mark => ?_⟩
  · rw [left flight, State.storeLeft, storeGet_storeLine]
    by_cases here : m = f.line
    · rw [if_pos here, if_pos here, here]
    · rw [if_neg here, if_neg here]
  · rw [left flight]
    exact storeLeft_unmarked line image mark cut

theorem cutWrite_keeps (cut : WriteEnd) : (s.cutWrite cut).lines = s.lines ∧ (s.cutWrite cut).now = s.now ∧
    (s.cutWrite cut).pending = s.pending ∧ (s.cutWrite cut).pins = s.pins :=
  have frame := cutWrite_frame s cut
  ⟨frame.lines (by simp), frame.now (by simp), frame.pending, frame.pins (by simp)⟩

theorem atRest_level (l : LineId) : s.atRest.lines[l.index].level = s.lines[l.index].level := by
  simp [State.atRest, InputLine.rest]

/-- Settles O56: the recorder at rest, over the store that the cut write leaves. -/
theorem supplyAndResetRestart : Obligations.SupplyAndResetRestart := by
  unfold Obligations.SupplyAndResetRestart
  intro s cut decay
  obtain ⟨lines, now, pending, pins⟩ := cutWrite_keeps (s := s) cut
  have level (l : LineId) : (s.cutWrite cut).atRest.lines[l.index].level = s.lines[l.index].level := by
    rw [atRest_level, lines]
  refine ⟨fun up => ?_, fun off => ?_, ?_, fun held up => ?_⟩
  · refine ⟨_, congrArg Host.Outcome.next (if_pos up), rfl, ?_, ⟨level, now, pending⟩, cutWrite_store cut⟩
    repeat' constructor
  · refine ⟨_, congrArg Host.Outcome.next (if_neg (by simp [off])), rfl, ?_, ⟨level, now, pending⟩, cutWrite_store cut⟩
    repeat' constructor
  · refine ⟨_, rfl, rfl, ?_, ⟨level, now, pending⟩, ?_⟩
    · repeat' constructor
    · rintro rfl
      exact cutWrite_store cut
  · refine ⟨_, congrArg Host.Outcome.next ((if_pos held).trans (if_pos up)), rfl, ?_, ⟨atRest_level, rfl, rfl⟩, rfl⟩
    repeat' constructor

end Sys2Proof.Machine
end

-- ==== HOLDUP (O60) ====
section
/-! SUPPORT. HOLDUP entry and return: the refusals, the holdup flush, the mark (R163 to R165, R169, R189). -/

namespace Sys2Proof.Machine

variable (s : State)

/-! ## The refusals -/

/-- The refusal of a queued request at HOLDUP entry (R189). -/
def powerFail (r : Request) : Reply := .refused r.tag r.kind .powerFail

theorem foldl_replyIfFree (rs : List Request) (u : State) :
    (rs.foldl (fun u r => u.replyIfFree (powerFail r)) u).link = { u.link with
      replies := (rs.foldl (fun u r => u.replyIfFree (powerFail r)) u).link.replies
      dropped := (rs.foldl (fun u r => u.replyIfFree (powerFail r)) u).link.dropped } := by
  induction rs generalizing u with
  | nil => rfl
  | cons r rs ih =>
    rw [List.foldl_cons, ih, replyIfFree_eq]
    split <;> rfl

theorem foldl_replyIfFree_of_room (rs : List Request) (u : State) (room : rs.length ≤ u.freePlaces) :
    (rs.foldl (fun u r => u.replyIfFree (powerFail r)) u).link =
      { u.link with replies := u.link.replies ++ rs.map powerFail } := by
  induction rs generalizing u with
  | nil => simp
  | cons r rs ih =>
    have one : u.replyIfFree (powerFail r) = u.reply (powerFail r) := if_pos (by simp only [List.length_cons] at room; omega)
    have rest : rs.length ≤ (u.reply (powerFail r)).freePlaces := by
      simp only [List.length_cons, State.freePlaces] at room
      simp only [State.freePlaces, State.reply, State.reserved, List.length_append, List.length_singleton] at room ⊢
      omega
    rw [List.foldl_cons, one, ih _ rest]
    simp [State.reply]

theorem refuseIntake_link : s.refuseIntake.link = { s.link with
      intake := [], replies := s.refuseIntake.link.replies, dropped := s.refuseIntake.link.dropped } := by
  rw [State.refuseIntake]
  exact foldl_replyIfFree s.link.intake { s with link := { s.link with intake := [] } }

theorem refuseIntake_of_room (room : s.link.intake.length ≤ s.freePlaces) : s.refuseIntake.link = { s.link with
      intake := [], replies := s.link.replies ++ s.link.intake.map powerFail } :=
  foldl_replyIfFree_of_room s.link.intake { s with link := { s.link with intake := [] } } room

/-! ## The holdup flush -/

/-- Only the FLUSH class holds lines. -/
def WriteQueue.flushOnly (q : WriteQueue) : Prop := q.commit = [] ∧ q.checkpoint = [] ∧ q.repair = []

theorem beginFlush_flushOnly (x : StoreController) : x.beginFlush.queue.flushOnly := ⟨rfl, rfl, rfl⟩

theorem beginFlush_flightLine (x : StoreController) : x.beginFlush.flightLine = x.flightLine := by
  show (x.flight.map _).map _ = x.flight.map _
  rw [Option.map_map]
  congr 1
  funext f
  exact apply_ite_same (by rfl) rfl
where
  /-- A function that gives the same at both branches gives it at the choice. -/
  apply_ite_same {p : Prop} [Decidable p] {a b : Flight} {n : Nat} (h : a.line = n) (k : b.line = n) :
      (if p then a else b).line = n := by split <;> assumption

theorem mem_looseDirty (x : StoreController) (n : Nat) : n ∈ x.looseDirty ↔ n ∈ x.dirty ∧ ¬ x.holds n := by
  simp only [StoreController.looseDirty, List.mem_filter, Bool.and_eq_true, decide_eq_true_eq, classOf_none,
    StoreController.holds, StoreController.flightLine, not_or, ne_eq]

theorem beginFlush_holds (x : StoreController) (n : Nat) : x.beginFlush.holds n ↔ x.holds n ∨ n ∈ x.dirty := by
  have queued : n ∈ x.beginFlush.queue.lines ↔ n ∈ x.queue.lines ∨ n ∈ x.dirty ∧ ¬ x.holds n := by
    rw [← mem_looseDirty]
    show n ∈ x.queue.lines ++ x.looseDirty ++ [] ++ [] ++ [] ↔ _
    simp
  rw [StoreController.holds, beginFlush_flightLine, queued]
  by_cases held : x.holds n
  · exact iff_of_true (held.imp .inl id) (.inl held)
  · have := not_or.1 held
    simp only [this.1, this.2, held]
    tauto

/-- The arbiter in a running holdup flush: the next line, or with none queued or in flight the clean-shutdown mark (R153, R164). -/
theorem arbitrate_flush {s : State} (power : s.sup.power = .holdup) (flush : s.ctl.flush = .running) (only : s.ctl.queue.flushOnly) :
    let t := s.arbitrate
    t.sup = { s.sup with mark := t.sup.mark } ∧ t.ctl.queue.flushOnly ∧ t.ctl.records = s.ctl.records ∧
    t.ctl.scrubTimer = s.ctl.scrubTimer ∧ (∀ n, s.ctl.holds n → t.ctl.holds n) ∧
    (∀ n, t.ctl.holds n → s.ctl.holds n ∨ n = 5) ∧
    (s.ctl.flight = none → s.ctl.queue.lines = [] → t.sup.mark = true ∧ t.ctl.flightLine = some 5 ∧ t.ctl.flush = .marking) ∧
    s.sameExcept t [.sup, .ctl] := by
  intro t
  by_cases idle : s.ctl.flight = none
  · by_cases empty : s.ctl.queue.lines = []
    · have same : t = s.writeMark := arbitrate_holdup_marks idle empty power flush
      rw [same]
      have none (n : Nat) : ¬ s.ctl.holds n := by simp [StoreController.holds, StoreController.flightLine, idle, empty]
      refine ⟨rfl, ⟨rfl, rfl, rfl⟩, rfl, rfl, fun n held => absurd held (none n), fun n held => .inr ?_,
        fun _ _ => ⟨rfl, rfl, rfl⟩, writeMark_frame s⟩
      rcases held with queued | flying
      · exact absurd queued List.not_mem_nil
      · exact (Option.some.inj flying).symm
    · obtain ⟨n, ns, lines⟩ := List.exists_cons_of_ne_nil empty
      obtain ⟨rest, pop⟩ := pop_of_head (q := s.ctl.queue) (n := n) (by rw [lines]; rfl)
      have same : t = s.startWrite n rest false none := arbitrate_of_head idle (.inr (.inr ⟨power, by simp [flush]⟩)) pop
      have emptied (d : WriteClass) (none : s.ctl.queue.linesAt d = []) : rest.linesAt d = [] := by
        rcases pop_linesAt pop d with kept | ⟨-, tail⟩
        · rw [kept, none]
        · rw [tail, none]
          rfl
      obtain ⟨commit, checkpoint, repair⟩ := only
      rw [same]
      exact ⟨rfl, ⟨emptied .commit commit, emptied .checkpoint checkpoint, emptied .scrubRepair repair⟩, rfl, rfl,
        fun m => (startWrite_holds idle pop m).2, fun m held => .inl ((startWrite_holds idle pop m).1 held),
        fun _ k => absurd k empty, (startWrite_frame ..).mono (by simp)⟩
  · have same : t = s := arbitrate_of_busy idle
    rw [same]
    exact ⟨rfl, only, rfl, rfl, fun _ => id, fun _ => .inl, fun k => absurd k idle, .refl _ _⟩

/-- A recorder that has entered HOLDUP: the refusals and the holdup flush (R163, R169, R189). -/
structure State.HeldUp (s t : State) : Prop where
  sup : t.sup = { s.sup with power := .holdup, dormancy := none, mark := t.sup.mark }
  link : t.link = { s.link with intake := [], replies := t.link.replies, dropped := t.link.dropped }
  replies : s.link.intake.length ≤ s.freePlaces → t.link = { s.link with
    intake := [], replies := s.link.replies ++ s.link.intake.map powerFail }
  queue : t.ctl.queue.flushOnly
  records : t.ctl.records = s.ctl.records
  holds : ∀ n, s.ctl.holds n ∨ n ∈ s.ctl.dirty → t.ctl.holds n
  held : ∀ n, t.ctl.holds n → s.ctl.holds n ∨ n ∈ s.ctl.dirty ∨ n = 5
  marks : s.ctl.flight = none → s.ctl.queue.lines = [] → s.ctl.dirty = [] →
    t.sup.mark = true ∧ t.ctl.flightLine = some 5 ∧ t.ctl.flush = .marking
  scrub : s.sup.power ≠ .dormant → t.ctl.scrubTimer = s.ctl.scrubTimer
  tally : s.sup.power ≠ .dormant → t.tally = s.tally

/-- The holdup flush begins, and the arbiter looks (R163). -/
def State.flushed (s : State) : State := ({ s with ctl := s.ctl.beginFlush } : State).arbitrate.supervise

theorem flushed_spec {s : State} (power : s.sup.power = .holdup) :
    s.flushed.sup = { s.sup with dormancy := none, mark := s.flushed.sup.mark } ∧ s.flushed.ctl.queue.flushOnly ∧
    s.flushed.ctl.records = s.ctl.records ∧ s.flushed.ctl.scrubTimer = s.ctl.scrubTimer ∧
    (∀ n, s.ctl.holds n ∨ n ∈ s.ctl.dirty → s.flushed.ctl.holds n) ∧
    (∀ n, s.flushed.ctl.holds n → s.ctl.holds n ∨ n ∈ s.ctl.dirty ∨ n = 5) ∧
    (s.ctl.flight = none → s.ctl.queue.lines = [] → s.ctl.dirty = [] →
      s.flushed.sup.mark = true ∧ s.flushed.ctl.flightLine = some 5 ∧ s.flushed.ctl.flush = .marking) ∧
    s.sameExcept s.flushed [.sup, .ctl] := by
  let u : State := { s with ctl := s.ctl.beginFlush }
  obtain ⟨sup, only, records, scrub, holds, held, marks, frame⟩ := arbitrate_flush (s := u) power rfl (beginFlush_flushOnly _)
  have flushHolds (n : Nat) : u.ctl.holds n ↔ s.ctl.holds n ∨ n ∈ s.ctl.dirty := beginFlush_holds _ n
  have resting : s.flushed.sup = { u.arbitrate.sup with dormancy := none } := by
    have : u.arbitrate.sup.power = .holdup := by rw [sup]; exact power
    rw [State.flushed, supervise_sup]
    simp [State.supervise, u, this]
  refine ⟨?_, only, records, scrub, fun n h => holds n ((flushHolds n).2 h), fun n h => ?_, fun idle empty clean => ?_,
    .trans ((setCtl_frame ..).mono (by simp)) (.trans frame ((supervise_frame _).mono (by simp)))⟩
  · rw [resting, sup]
  · exact (held n h).elim (fun k => ((flushHolds n).1 k).imp_right .inl) fun k => .inr (.inr k)
  · rw [resting]
    refine marks ?_ (List.eq_nil_iff_forall_not_mem.2 fun n queued => ?_)
    · show s.ctl.flight.map _ = none
      rw [idle]
      rfl
    · have := (flushHolds n).1 (.inl queued)
      simp [StoreController.holds, StoreController.flightLine, idle, empty, clean] at this

/-- HOLDUP entry of a recorder that is awake (R169). -/
def State.heldFrom (s : State) : State := (s.setPower .holdup).refuseIntake.flushed

theorem heldFrom_heldUp : s.HeldUp s.heldFrom := by
  have before : (s.setPower .holdup).sameExcept (s.setPower .holdup).refuseIntake [.link] := refuseIntake_frame _
  have link := refuseIntake_link (s.setPower .holdup)
  have replies := refuseIntake_of_room (s.setPower .holdup)
  unfold State.heldFrom
  generalize (s.setPower .holdup).refuseIntake = refused at *
  have ctl : refused.ctl = s.ctl := before.ctl (by simp)
  have sup : refused.sup = { s.sup with power := .holdup } := before.sup (by simp)
  obtain ⟨resting, only, records, scrub, holds, held, marks, frame⟩ := flushed_spec (s := refused) (by rw [sup])
  have same : refused.flushed.link = refused.link := frame.link (by simp)
  rw [ctl] at records scrub holds held marks
  exact {
    sup := by rw [resting, sup]
    link := by rw [same]; exact link
    replies := fun room => by rw [same]; exact replies room
    queue := only
    records := records
    holds := holds
    held := held
    marks := marks
    scrub := fun _ => scrub
    tally := fun _ => (frame.tally (by simp)).trans (before.tally (by simp)) }

theorem enterHoldup_of_awake {s : State} (awake : s.sup.power ≠ .dormant) : s.enterHoldup = s.heldFrom := by
  simp only [State.enterHoldup, if_neg awake]
  rfl

theorem enterHoldup_of_dormant {s : State} (asleep : s.sup.power = .dormant) : s.enterHoldup = s.startActivity.heldFrom := by
  simp only [State.enterHoldup, if_pos asleep]
  rfl

theorem enterHoldup_heldUp : s.HeldUp s.enterHoldup := by
  by_cases asleep : s.sup.power = .dormant
  · rw [enterHoldup_of_dormant asleep]
    have woken := heldFrom_heldUp s.startActivity
    exact {
      sup := woken.sup
      link := woken.link
      replies := woken.replies
      queue := woken.queue
      records := woken.records
      holds := woken.holds
      held := woken.held
      marks := woken.marks
      scrub := fun k => absurd asleep k
      tally := fun k => absurd asleep k }
  · rw [enterHoldup_of_awake asleep]
    exact heldFrom_heldUp s

/-! ## The return -/

/-- POWER_WARN clears: ACTIVE again, the mark clear, line 5 queued or in flight (R165). -/
theorem leaveHoldup_spec : s.leaveHoldup.sup.power = .active ∧ s.leaveHoldup.sup.mark = false ∧ s.leaveHoldup.ctl.flush = .absent ∧
    s.leaveHoldup.ctl.holds 5 ∧ s.leaveHoldup.ctl.records = s.ctl.records ∧ s.sameExcept s.leaveHoldup [.ctl, .sup] := by
  let u := s.markIf s.sup.mark 5
  let w : State := { u with sup := { u.sup with power := .active, mark := false }, ctl := { u.ctl with flush := .absent } }
  obtain ⟨holds, records, settings, frame⟩ := queueLines_spec w (.inl rfl) .commit [5]
  obtain ⟨-, -, -, -, -, -, -, -, flush, -, -⟩ := settings
  have sup : (w.queueLines .commit [5]).sup = w.sup := frame.sup (by simp)
  have marked : u.ctl.records = s.ctl.records := by
    show (s.markIf s.sup.mark 5).ctl.records = _
    unfold State.markIf
    split <;> rfl
  have before : s.sameExcept w [.ctl, .sup] :=
    .trans ((markIf_frame s s.sup.mark 5).mono (by simp)) (by simp [State.sameExcept, w, u])
  exact ⟨congrArg Supervisor.power sup, congrArg Supervisor.mark sup, flush, (holds 5).2 (.inr (List.mem_singleton_self 5)),
    records.trans marked, .trans before (.trans (frame.mono (by simp)) ((supervise_frame _).mono (by simp)))⟩

/-- Settles O60: HOLDUP entry and return under the pin. -/
theorem powerWarnMovesHoldup : Obligations.PowerWarnMovesHoldup := by
  unfold Obligations.PowerWarnMovesHoldup
  refine fun s live => ⟨fun off => ?_, fun on => ?_⟩
  · let u := s.setPins { s.pins with powerWarn := true }
    have warned (t : State) (h : u.warned = t) : exec .powerWarnAsserted s = .next t :=
      congrArg Host.Outcome.next ((if_neg (by simp [off])).trans h)
    have up : u.live = true := live
    by_cases stays : s.sup.power = .starting ∨ s.sup.power = .holdup
    · have same : u.warned = u := by
        unfold State.warned
        rcases stays with power | power <;> simp [u, State.setPins, power]
      refine ⟨u, warned u same, rfl, fun _ => setPins_frame .., fun moves => ?_⟩
      rcases stays with power | power <;> simp [power] at moves
    · have moved : u.warned = u.enterHoldup := by
        unfold State.warned
        obtain ⟨a, b⟩ := not_or.1 stays
        have power : u.sup.power = s.sup.power := rfl
        rw [if_pos up, power]
        cases h : s.sup.power with
        | starting => exact absurd h a
        | holdup => exact absurd h b
        | active | draining | dormant => rfl
      have entered := enterHoldup_heldUp u
      have frame := enterHoldup_frame u
      obtain ⟨commit, checkpoint, repair⟩ := entered.queue
      refine ⟨_, warned _ moved, frame.pins (by simp), fun k => absurd k stays, fun _ => ⟨?_, ?_, ?_, fun room => ?_, commit,
        checkpoint, repair, entered.holds, entered.records, fun idle empty clean => ?_,
        .trans ((setPins_frame ..).mono (by simp)) (frame.mono (by simp))⟩⟩
      · rw [entered.sup]
      · rw [entered.sup]
      · rw [entered.link]
      · rw [entered.replies room]
        rfl
      · obtain ⟨mark, flight, -⟩ := entered.marks idle empty clean
        exact ⟨mark, flight⟩
  · let u := s.setPins { s.pins with powerWarn := false }
    have run : exec .powerWarnCleared s = .next (if u.live && decide (u.sup.power = .holdup) then u.leaveHoldup else u) :=
      congrArg Host.Outcome.next (if_pos on)
    have up : u.live = true := live
    by_cases power : s.sup.power = .holdup
    · rw [if_pos (by rw [up]; exact decide_eq_true power)] at run
      obtain ⟨active, mark, flush, holds, records, frame⟩ := leaveHoldup_spec u
      exact ⟨_, run, frame.pins (by simp), fun k => absurd power k, fun _ => ⟨active, mark, flush, holds, records,
        .trans ((setPins_frame ..).mono (by simp)) (frame.mono (by simp))⟩⟩
    · rw [if_neg (by rw [up, Bool.true_and, decide_eq_true_eq]; exact power)] at run
      exact ⟨u, run, rfl, fun _ => setPins_frame .., fun k => absurd k power⟩

end Sys2Proof.Machine
end

-- ==== Start-up, steps 1 to 3 (O57) ====
section
/-! SUPPORT. The configuration lines (R172): what each gives, when it is defaulted, and the state after steps 1 to 3. -/

namespace Sys2Proof.Machine

/-! ## A configuration line -/

theorem readLine_of_lost {st : Store} {n : Nat} (lost : (storeGet st n).outcome = .uncorrectable) : readLine st n = none := if_pos lost

theorem readLine_of_read {st : Store} {n : Nat} (read : (storeGet st n).outcome ≠ .uncorrectable) :
    readLine st n = some (storeGet st n).image := if_neg read

/-- What a line gives is a function of whether it can be read and of its contents. -/
theorem readConfig_blank {α : Type} (get : LineImage → Option α) (dflt : α) : readConfig get dflt (some .blank) = (dflt, false) := rfl

theorem readConfig_of_some {α : Type} {get : LineImage → Option α} {dflt v : α} {x : LineImage} (used : x ≠ .blank) (valid : get x = some v) :
    readConfig get dflt (some x) = (v, false) := by
  cases x <;> simp_all [readConfig]

theorem readConfig_of_invalid {α : Type} {get : LineImage → Option α} {dflt : α} {x : LineImage} (used : x ≠ .blank) (bad : get x = none) :
    readConfig get dflt (some x) = (dflt, true) := by
  cases x <;> simp_all [readConfig]

/-- A configuration line, read: intact, it gives its settings or, blank, the defaults; otherwise it is defaulted. -/
structure ConfigRead {α : Type} (st : Store) (n : Nat) (get : LineImage → Option α) (dflt : α) (v : α × Bool) : Prop where
  defaulted : v.2 = !configIntact st n
  given : ∀ x, configIntact st n = true → get (storeGet st n).image = some x → v.1 = x
  default : configIntact st n = false ∨ (storeGet st n).image = .blank → v.1 = dflt

/-- A reader that takes exactly the contents that leave line n intact reads it as R172 says. -/
theorem readConfig_read {α : Type} {st : Store} {n : Nat} {get : LineImage → Option α} (dflt : α)
    (intact : configIntact st n = (decide ((storeGet st n).outcome ≠ .uncorrectable) &&
      (decide ((storeGet st n).image = .blank) || (get (storeGet st n).image).isSome)))
    (blank : get .blank = none) : ConfigRead st n get dflt (readConfig get dflt (readLine st n)) := by
  by_cases lost : (storeGet st n).outcome = .uncorrectable
  · rw [readLine_of_lost lost]
    have : configIntact st n = false := by rw [intact]; simp [lost]
    exact ⟨by rw [this]; rfl, fun x h => absurd (this.symm.trans h) (by simp), fun _ => rfl⟩
  · rw [readLine_of_read lost]
    by_cases used : (storeGet st n).image = .blank
    · have : configIntact st n = true := by rw [intact]; simp [lost, used]
      rw [used, readConfig_blank]
      exact ⟨by rw [this]; rfl, fun x _ given => (nomatch ((congrArg get used).symm.trans given).symm.trans blank), fun _ => rfl⟩
    · cases given : get (storeGet st n).image with
      | none =>
        have : configIntact st n = false := by rw [intact]; simp [used, given]
        rw [readConfig_of_invalid used given]
        exact ⟨by rw [this]; rfl, fun x h => absurd (this.symm.trans h) (by simp), fun _ => rfl⟩
      | some v =>
        have : configIntact st n = true := by rw [intact]; simp [lost, given]
        rw [readConfig_of_some used given]
        refine ⟨by rw [this]; rfl, fun x _ same => ?_, fun h => absurd h (by simp [this, used])⟩
        rw [given, Option.some.injEq] at same
        exact same

theorem isSome_checked {α : Type} (b : Bool) (v : α) : (if b = true then some v else none).isSome = b := by cases b <;> rfl

/-- The channel settings of line 1, and whether they are defaulted. -/
def channelsRead (st : Store) : Vector ChannelConfig 10 × Bool :=
  readConfig LineImage.channels? (Vector.replicate 10 .default) (readLine st 1)
/-- The Gear Table of line 2. -/
def gearsRead (st : Store) : GearTable × Bool := readConfig LineImage.gears? .default (readLine st 2)
/-- The settings of line 3. -/
def settingsRead (st : Store) : SettingsLine × Bool := readConfig LineImage.settings? .default (readLine st 3)
/-- The wear weights and notice settings of line 4. -/
def weightsRead (st : Store) : (Vector Nat 28 × NoticeSettings) × Bool :=
  readConfig LineImage.weights? (defaultWeights, .default) (readLine st 4)

theorem channelsRead_read (st : Store) : ConfigRead st 1 LineImage.channels? (Vector.replicate 10 .default) (channelsRead st) := by
  refine readConfig_read _ ?_ rfl
  unfold configIntact
  cases (storeGet st 1).image <;> simp [LineImage.channels?, isSome_checked]

theorem gearsRead_read (st : Store) : ConfigRead st 2 LineImage.gears? .default (gearsRead st) := by
  refine readConfig_read _ ?_ rfl
  unfold configIntact
  cases (storeGet st 2).image <;> simp [LineImage.gears?, isSome_checked]

theorem settingsRead_read (st : Store) : ConfigRead st 3 LineImage.settings? .default (settingsRead st) := by
  refine readConfig_read _ ?_ rfl
  unfold configIntact
  cases (storeGet st 3).image <;> simp [LineImage.settings?, isSome_checked]

theorem weightsRead_read (st : Store) : ConfigRead st 4 LineImage.weights? (defaultWeights, .default) (weightsRead st) := by
  refine readConfig_read _ ?_ rfl
  unfold configIntact
  cases (storeGet st 4).image with
  | weights w x => cases good : weightsOk w <;> cases fit : x.ok <;> simp [LineImage.weights?, good, fit]
  | _ => simp [LineImage.weights?]

/-! ## Line 0 -/

/-- The byte of line 0 that the identity keeps (R172). -/
theorem identityFrom_getElem {l : StoredLine} {bytes : List Byte} {k : Nat} {b : Byte} (image : l.image = .identity bytes)
    (at_ : bytes[k]? = some b) :
    (identityFrom l)[k]? = some (if l.words.toList[k / 8]? = some .uncorrectable then 0 else b) := by
  simp [identityFrom, image, at_]

/-! ## Steps 1 and 2 -/

variable (s : State)

/-- A dirty mark that is set where b holds. -/
def markedIf (b : Bool) (n : Nat) (ns : List Nat) : List Nat := if b then insertLine n ns else ns

theorem mem_markedIf (b : Bool) (n m : Nat) (ns : List Nat) : m ∈ markedIf b n ns ↔ m ∈ ns ∨ b = true ∧ m = n := by
  cases b
  · simp [markedIf]
  · simp [markedIf, insertLine_mem, or_comm]

theorem noteDefaulted_eq (n : Nat) (b : Bool) : s.noteDefaulted n b = { s with
      ctl := { s.ctl with dirty := markedIf b n s.ctl.dirty }
      sup := { s.sup with report := { s.sup.report with configDefaulted := s.sup.report.configDefaulted + b.toNat } } } := by
  cases b <;> rfl

/-- Step 2 as one change of the state (R172). -/
theorem startConfig_eq : s.startConfig =
    let c := channelsRead s.store
    let g := gearsRead s.store
    let x := settingsRead s.store
    let w := weightsRead s.store
    let channels := tabulate 10 fun i => Channel.rest c.1[i]
    let lines := tabulate 5 fun i => { s.lines[i] with setting := x.1.lines[i] }
    let driveline := { s.driveline with table := g.1, settings := x.1.driveline }
    let ctl := { s.ctl with
      identity := identityFrom (storeGet s.store 0)
      identityLost := decide ((storeGet s.store 0).outcome = .uncorrectable) || !(storeGet s.store 0).image.isIdentity
      timing := x.1.timing
      dirty := markedIf w.2 4 (markedIf x.2 3 (markedIf g.2 2 (markedIf c.2 1 s.ctl.dirty))) }
    let report := { s.sup.report with
      configDefaulted := s.sup.report.configDefaulted + c.2.toNat + g.2.toNat + x.2.toNat + w.2.toNat }
    { s with
      channels := channels, lines := lines, run := { s.run with settings := x.1.engine }, driveline := driveline
      tally := { s.tally with weights := w.1.1 }, ctl := ctl, sup := { s.sup with delay := x.1.delay, report := report }
      link := { s.link with settings := w.1.2 } } := by
  simp only [State.startConfig, State.startWeights, State.startSettings, State.startGears, State.startChannels, noteDefaulted_eq]
  rfl

theorem startConfig_sup : s.startConfig.sup = { s.sup with
      delay := (settingsRead s.store).1.delay
      report := { s.sup.report with configDefaulted := s.sup.report.configDefaulted + (channelsRead s.store).2.toNat +
        (gearsRead s.store).2.toNat + (settingsRead s.store).2.toNat + (weightsRead s.store).2.toNat } } := by rw [startConfig_eq]

theorem startConfig_ctl : s.startConfig.ctl = { s.ctl with
      identity := identityFrom (storeGet s.store 0)
      identityLost := decide ((storeGet s.store 0).outcome = .uncorrectable) || !(storeGet s.store 0).image.isIdentity
      timing := (settingsRead s.store).1.timing, dirty := s.startConfig.ctl.dirty } := by rw [startConfig_eq]

theorem startConfig_channels (i : Fin 10) : s.startConfig.channels[i] = Channel.rest (channelsRead s.store).1[i] := by
  rw [startConfig_eq]
  exact tabulate_get ..

theorem startConfig_lines (i : Fin 5) : s.startConfig.lines[i] = { s.lines[i] with setting := (settingsRead s.store).1.lines[i] } := by
  rw [startConfig_eq]
  exact tabulate_get ..

theorem startConfig_run : s.startConfig.run = { s.run with settings := (settingsRead s.store).1.engine } := by rw [startConfig_eq]

theorem startConfig_driveline : s.startConfig.driveline = { s.driveline with
      table := (gearsRead s.store).1, settings := (settingsRead s.store).1.driveline } := by rw [startConfig_eq]

theorem startConfig_tally : s.startConfig.tally = { s.tally with weights := (weightsRead s.store).1.1 } := by rw [startConfig_eq]

theorem startConfig_link : s.startConfig.link = { s.link with settings := (weightsRead s.store).1.2 } := by rw [startConfig_eq]

theorem startRead_sup : s.startRead.sup = { s.sup with report := { s.sup.report with
      corrected := (linesWith s.store .corrected).length, uncorrectable := (linesWith s.store .uncorrectable).length } } := rfl

theorem startRead_ctl : s.startRead.ctl = { s.ctl with queue := { s.ctl.queue with commit := linesWith s.store .corrected } } := rfl

/-- The defaulted lines are those of the configuration that are not intact (R172). -/
theorem defaulted_count (st : Store) : (channelsRead st).2.toNat + (gearsRead st).2.toNat + (settingsRead st).2.toNat +
    (weightsRead st).2.toNat = ([1, 2, 3, 4].filter fun n => !configIntact st n).length := by
  rw [(channelsRead_read st).defaulted, (gearsRead_read st).defaulted, (settingsRead_read st).defaulted, (weightsRead_read st).defaulted]
  cases a : configIntact st 1 <;> cases b : configIntact st 2 <;> cases c : configIntact st 3 <;> cases d : configIntact st 4 <;>
    simp [a, b, c, d]

theorem mem_defaulted {n : Nat} (low : 1 ≤ n) (high : n ≤ 4) (bad : configIntact s.store n = false) :
    n ∈ s.startConfig.ctl.dirty := by
  rw [startConfig_eq]
  simp only [mem_markedIf, (channelsRead_read s.store).defaulted, (gearsRead_read s.store).defaulted,
    (settingsRead_read s.store).defaulted, (weightsRead_read s.store).defaulted]
  obtain rfl | rfl | rfl | rfl : n = 1 ∨ n = 2 ∨ n = 3 ∨ n = 4 := by omega
  all_goals simp [bad]

/-! ## Step 3 -/

/-- The state with the clean-shutdown mark cleared. -/
def State.unmarked (s : State) : State := { s with sup := { s.sup with mark := false } }

/-- Step 3 notes the mark it finds, once the mark is cleared (R173). -/
theorem startMark_notes : s.unmarked.Notes s.startMark (if markFound s.store then [5] else [])
    (fun r => { r with markFound := markFound s.store }) :=
  ((markIf_notes s.unmarked (markFound s.store) 5).trans (reporting_notes _ fun r => { r with markFound := markFound s.store })).congr
    (fun n => by simp) fun _ => rfl

/-- The map that line 5 gives (R103, R172). -/
theorem readMap_of_lost {st : Store} (lost : (storeGet st 5).outcome = .uncorrectable) : readMap st = none := by
  rw [readMap, readLine_of_lost lost]

theorem readMap_of_map {st : Store} {m : MapLine} (read : (storeGet st 5).outcome ≠ .uncorrectable) (image : (storeGet st 5).image = .map m) :
    readMap st = some m := by
  rw [readMap, readLine_of_read read, image]

theorem readMap_of_blank {st : Store} (read : (storeGet st 5).outcome ≠ .uncorrectable) (image : (storeGet st 5).image = .blank) :
    readMap st = some { entries := List.replicate 16 none, mark := false, bounds := none } := by
  rw [readMap, readLine_of_read read, image]

theorem readMap_of_other {st : Store} (blank : (storeGet st 5).image ≠ .blank) (map : ∀ m, (storeGet st 5).image ≠ .map m) :
    readMap st = none := by
  by_cases lost : (storeGet st 5).outcome = .uncorrectable
  · exact readMap_of_lost lost
  · rw [readMap, readLine_of_read lost]
    cases image : (storeGet st 5).image <;> simp_all

/-- The mark that start-up finds is the mark stored (R173). -/
theorem markFound_eq (st : Store) : markFound st = markStored st := by
  unfold markFound markStored
  by_cases lost : (storeGet st 5).outcome = .uncorrectable
  · rw [readMap_of_lost lost]
    simp [lost]
  · cases image : (storeGet st 5).image with
    | blank => rw [readMap_of_blank lost image]; simp
    | map m => rw [readMap_of_map lost image]; simp [lost]
    | _ => rw [readMap_of_other (by simp [image]) (by simp [image])]; simp

/-- The entry stored for a position is the one that step 5 reads (R103). -/
theorem storedEntries_iff (st : Store) (p : Position) (n : Nat) :
    (storedEntries st)[p.code]? = some (some n) ↔ storedEntry st p = some n := by
  unfold storedEntries storedEntry
  by_cases lost : (storeGet st 5).outcome = .uncorrectable
  · rw [readMap_of_lost lost]
    simp [lost]
  · rw [if_neg lost]
    cases image : (storeGet st 5).image with
    | blank =>
      rw [readMap_of_blank lost image]
      show (List.replicate 16 none)[p.code]? = _ ↔ none = _
      rw [List.getElem?_replicate]
      split <;> simp
    | map m =>
      rw [readMap_of_map lost image]
      simp [Option.join_eq_some_iff]
    | _ => rw [readMap_of_other (by simp [image]) (by simp [image])]; simp

end Sys2Proof.Machine
end

-- ==== Start-up, the slots (O57) ====
section
/-! SUPPORT. Steps 4 to 6 of start-up: each slot from its three lines, the map, the stray slots, the gearbox slot (R102, R103, R174). -/

namespace Sys2Proof.Machine

/-! ## A slot's lines -/

section
variable {st : Store} {n : Nat} {p : Position} {damaged : Bool}

theorem scalarProfile_ne_nil (p : Position) : p.scalarProfile ≠ [] := by cases p <;> decide

theorem all_scalars_held (xs : List Scalar) : xs.all Scalar.held = true ↔ ∀ x ∈ xs, x.value ≠ none := by
  simp [List.all_eq_true, Scalar.held, Option.isSome_iff_ne_none]

theorem all_hists_held (xs : List Hist) : xs.all Hist.held = true ↔ ∀ x ∈ xs, none ∉ x.values := by
  simp only [List.all_eq_true, Hist.held, Option.isSome_iff_ne_none]
  exact forall₂_congr fun x _ => ⟨fun h k => h none k rfl, fun h v hv e => h (e ▸ hv)⟩

theorem all_hists_counted (xs : List Hist) : xs.all Hist.countOk = true ↔
    ∀ x ∈ xs, if x.quantity = .loadSeconds then x.values.length = 6 else x.values.length ≤ 12 := by
  simp only [List.all_eq_true, Hist.countOk]
  refine forall₂_congr fun x _ => ?_
  split <;> simp

theorem readScalars_iff (xs : List Scalar) :
    readScalars damaged p (readLine st n) = some xs ↔ scalarsStored (storeGet st n) p damaged xs := by
  unfold scalarsStored
  by_cases lost : (storeGet st n).outcome = .uncorrectable
  · simp [readLine_of_lost lost, readScalars, lost]
  · rw [readLine_of_read lost]
    cases image : (storeGet st n).image with
    | scalars ys =>
      simp only [readScalars, Option.ite_none_right_eq_some, Option.some.injEq, Bool.or_eq_true, all_scalars_held]
      constructor
      · rintro ⟨⟨profile, held⟩, rfl⟩
        exact ⟨lost, rfl, profile, fun k => held.resolve_left (by simp [k])⟩
      · rintro ⟨-, same, profile, held⟩
        obtain rfl := LineImage.scalars.inj same
        exact ⟨⟨profile, by cases damaged <;> simp_all⟩, rfl⟩
    | blank => simp [readScalars, scalarProfile_ne_nil]
    | _ => simp [readScalars]

theorem readHists_iff (xs : List Hist) :
    readHists damaged p (readLine st n) = some xs ↔ histsStored (storeGet st n) p damaged xs := by
  unfold histsStored
  by_cases lost : (storeGet st n).outcome = .uncorrectable
  · simp [readLine_of_lost lost, readHists, lost]
  · rw [readLine_of_read lost]
    cases image : (storeGet st n).image with
    | hists ys =>
      simp only [readHists, Option.ite_none_right_eq_some, Option.some.injEq, Bool.or_eq_true, all_hists_held,
        all_hists_counted]
      constructor
      · rintro ⟨⟨profile, count, held⟩, rfl⟩
        exact ⟨lost, .inl rfl, profile, count, fun k => held.resolve_left (by simp [k])⟩
      · rintro ⟨-, same, profile, count, held⟩
        obtain rfl := LineImage.hists.inj (same.resolve_right fun h => nomatch h.1)
        exact ⟨⟨profile, count, by cases damaged <;> simp_all⟩, rfl⟩
    | blank =>
      simp only [readHists, Option.ite_none_right_eq_some, Option.some.injEq]
      constructor
      · rintro ⟨profile, rfl⟩
        exact ⟨lost, .inr ⟨trivial, rfl⟩, by rw [profile]; rfl, by simp, by simp⟩
      · rintro ⟨-, same, profile, -⟩
        obtain ⟨-, rfl⟩ := same.resolve_left fun h => nomatch h
        exact ⟨profile.symm, rfl⟩
    | _ => simp [readHists]

end

/-! ## A slot from its three lines -/

section
variable {st : Store} {i : Fin 20} {x : SlotIdent} {p : Position}

theorem slotStoredDamaged_iff : slotStoredDamaged st i = true ↔ storedState st i = some .damaged := by
  unfold slotStoredDamaged storedState
  rw [show identLine i = 6 + 3 * i.val from rfl]
  cases (storeGet st (6 + 3 * i.val)).image <;> simp

theorem rebuildSlot_of_lost (lost : (storeGet st (identLine i)).outcome = .uncorrectable) : rebuildSlot st i = .bare st i := by
  rw [rebuildSlot, readLine_of_lost lost]
  rfl

/-- The identity line of an EMPTY slot (R102). -/
def emptyImage (x : LineImage) : Prop := x = .blank ∨ x = .slotIdent (.bare .empty)

theorem readIdent_of_empty {x : LineImage} (empty : emptyImage x) : readIdent (some x) = .empty := by
  rcases empty with rfl | rfl <;> decide

theorem rebuildSlot_of_empty (read : (storeGet st (identLine i)).outcome ≠ .uncorrectable)
    (empty : emptyImage (storeGet st (identLine i)).image) : rebuildSlot st i = rebuildEmpty st i := by
  rw [rebuildSlot, readLine_of_read read, readIdent_of_empty empty]

theorem readLine_isNone (n : Nat) : (readLine st n).isNone = true ↔ (storeGet st n).outcome = .uncorrectable := by
  unfold readLine
  split <;> simp [*]

theorem rebuildEmpty_of_lost (lost : (storeGet st (scalarLine i)).outcome = .uncorrectable ∨
    (storeGet st (histLine i)).outcome = .uncorrectable) : rebuildEmpty st i = .bare st i :=
  if_pos (by rw [Bool.or_eq_true, readLine_isNone, readLine_isNone]; exact lost)

theorem rebuildEmpty_of_read (scalars : (storeGet st (scalarLine i)).outcome ≠ .uncorrectable)
    (hists : (storeGet st (histLine i)).outcome ≠ .uncorrectable) :
    rebuildEmpty st i = { slot := .empty, newly := false, dirty := notBlank st [scalarLine i, histLine i] } :=
  if_neg (by rw [Bool.or_eq_true, readLine_isNone, readLine_isNone]; exact not_or.2 ⟨scalars, hists⟩)

theorem not_stored_damaged_of_empty (empty : emptyImage (storeGet st (identLine i)).image) : slotStoredDamaged st i = false := by
  rcases empty with image | image <;> simp [slotStoredDamaged, image, SlotIdent.bare]

theorem mem_notBlank {ns : List Nat} {n : Nat} (read : (storeGet st n).outcome ≠ .uncorrectable) :
    n ∈ notBlank st ns ↔ n ∈ ns ∧ (storeGet st n).image ≠ .blank := by
  simp [notBlank, readLine_of_read read]

/-- A valid identity with a position or last position is that of a recorded slot. -/
theorem valid_state_ne_empty (valid : x.valid = true) (at_ : x.position = some p ∨ x.position = none ∧ x.lastPosition = some p) :
    x.state ≠ .empty := by
  intro empty
  unfold SlotIdent.valid at valid
  rw [empty, Bool.and_eq_true, decide_eq_true_eq] at valid
  rcases at_ with h | ⟨-, h⟩ <;> rw [valid.2] at h <;> exact nomatch h

theorem rebuildSlot_of_recorded (read : (storeGet st (identLine i)).outcome ≠ .uncorrectable)
    (image : (storeGet st (identLine i)).image = .slotIdent x) (valid : x.valid = true)
    (at_ : x.position = some p ∨ x.position = none ∧ x.lastPosition = some p) : rebuildSlot st i = rebuildAt st i x p := by
  have recorded : readIdent (some (.slotIdent x)) = .recorded x := by
    simp [readIdent, valid, valid_state_ne_empty valid at_]
  rw [rebuildSlot, readLine_of_read read, image, recorded]
  rcases at_ with h | ⟨h, k⟩
  · simp [h]
  · simp [h, k]

/-- A slot whose tally lines are both intact keeps them and its identity (R102). -/
theorem rebuildAt_of_stored {xs : List Scalar} {hs : List Hist}
    (scalars : scalarsStored (storeGet st (scalarLine i)) p (decide (x.state = .damaged)) xs)
    (hists : histsStored (storeGet st (histLine i)) p (decide (x.state = .damaged)) hs) :
    rebuildAt st i x p = { slot := { ident := x, tally := { scalars := xs, hists := hs } }, newly := false, dirty := [] } := by
  rw [rebuildAt, (readScalars_iff xs).2 scalars, (readHists_iff hs).2 hists]

/-- A slot with a damaged tally line is DAMAGED (R102). -/
theorem rebuildAt_of_damaged (bad : (∀ xs, ¬scalarsStored (storeGet st (scalarLine i)) p (decide (x.state = .damaged)) xs) ∨
      ∀ hs, ¬histsStored (storeGet st (histLine i)) p (decide (x.state = .damaged)) hs) :
    rebuildAt st i x p = {
      slot := damagedSlot x p (readScalars (decide (x.state = .damaged)) p (readLine st (scalarLine i)))
        (readHists (decide (x.state = .damaged)) p (readLine st (histLine i)))
      newly := decide (x.state ≠ .damaged), dirty := if x.state = .damaged then [] else slotLines i } := by
  rw [rebuildAt]
  split
  · rename_i xs hs scalars hists
    exact (bad.elim (fun h => h xs ((readScalars_iff xs).1 scalars)) fun h => h hs ((readHists_iff hs).1 hists)).elim
  · rfl

theorem absentHists_quantities (p : Position) : (absentHists p).map (·.quantity) = p.histProfile := by
  simp [absentHists, Function.comp_def]

theorem absentHists_absent (p : Position) : ∀ h ∈ absentHists p, (∀ v ∈ h.values, v = none) ∧ h.saturated = false := by
  intro h mem
  obtain ⟨q, -, rfl⟩ := List.mem_map.1 mem
  exact ⟨fun v hv => (List.mem_replicate.1 hv).2, rfl⟩

theorem rebuildSlot_of_ident (recorded : readIdent (readLine st (identLine i)) = .recorded x) :
    (∃ p, rebuildSlot st i = rebuildAt st i x p) ∨
    rebuildSlot st i = { slot := { ident := x, tally := .empty }, newly := false, dirty := [] } := by
  rw [rebuildSlot, recorded]
  dsimp only
  split
  · exact .inl ⟨_, rfl⟩
  · exact .inl ⟨_, rfl⟩
  · exact .inr rfl

theorem storedState_of_ident (recorded : readIdent (readLine st (identLine i)) = .recorded x) : storedState st i = some x.state := by
  by_cases lost : (storeGet st (identLine i)).outcome = .uncorrectable
  · rw [readLine_of_lost lost] at recorded
    exact nomatch recorded
  · rw [readLine_of_read lost] at recorded
    unfold storedState
    rw [show 6 + 3 * i.val = identLine i from rfl]
    cases image : (storeGet st (identLine i)).image with
    | slotIdent y =>
      rw [image] at recorded
      simp only [readIdent] at recorded
      split at recorded
      · exact nomatch recorded
      · split at recorded
        · exact nomatch recorded
        · rw [IdentRead.recorded.inj recorded]
    | _ => rw [image] at recorded; exact nomatch recorded

/-- A rebuilt slot's state: DAMAGED, or the stored one, or EMPTY; it is newly DAMAGED where it was not stored so (R102). -/
theorem rebuildSlot_state (st : Store) (i : Fin 20) :
    (rebuildSlot st i).newly = decide ((rebuildSlot st i).slot.ident.state = .damaged ∧ storedState st i ≠ some .damaged) ∧
    ((rebuildSlot st i).slot.ident.state = .damaged ∨ (rebuildSlot st i).slot.ident.state = .empty ∨
      storedState st i = some (rebuildSlot st i).slot.ident.state) := by
  have bare : (SlotRebuild.bare st i).newly = decide ((SlotRebuild.bare st i).slot.ident.state = .damaged ∧
      storedState st i ≠ some .damaged) := by
    show (!slotStoredDamaged st i) = decide (SlotState.damaged = .damaged ∧ _)
    rw [Bool.eq_iff_iff]
    simp [← slotStoredDamaged_iff]
  cases ident : readIdent (readLine st (identLine i)) with
  | damaged =>
    have e : rebuildSlot st i = .bare st i := by rw [rebuildSlot, ident]
    rw [e]
    exact ⟨bare, .inl rfl⟩
  | empty =>
    have e : rebuildSlot st i = rebuildEmpty st i := by rw [rebuildSlot, ident]
    rw [e]
    unfold rebuildEmpty
    split
    · exact ⟨bare, .inl rfl⟩
    · exact ⟨rfl, .inr (.inl rfl)⟩
  | recorded x =>
    have stored := storedState_of_ident ident
    have kept (t : Tally) : (SlotRebuild.mk { ident := x, tally := t } false []).newly =
        decide (x.state = .damaged ∧ storedState st i ≠ some .damaged) := by
      rw [stored]
      symm
      exact decide_eq_false fun h => h.2 (by rw [h.1])
    rcases rebuildSlot_of_ident ident with ⟨p, e⟩ | e
    · rw [e]
      unfold rebuildAt
      split
      · exact ⟨kept _, .inr (.inr stored)⟩
      · refine ⟨?_, .inl rfl⟩
        show decide (x.state ≠ .damaged) = decide (SlotState.damaged = .damaged ∧ _)
        simp [stored]
    · rw [e]
      exact ⟨kept _, .inr (.inr stored)⟩

/-- A slot that is FITTED after step 4 was stored FITTED, with its identity, at its position and with both tally lines intact. -/
theorem rebuildSlot_fitted (fitted : (rebuildSlot st i).slot.ident.state = .fitted) : storedState st i = some .fitted := by
  rcases (rebuildSlot_state st i).2 with h | h | h
  · rw [fitted] at h; exact nomatch h
  · rw [fitted] at h; exact nomatch h
  · rw [fitted] at h; exact h

end

end Sys2Proof.Machine
end

-- ==== Start-up, table and orphan tallies (O57) ====
section
/-! SUPPORT. Steps 4 to 7 of start-up put together: slots, map and orphan tallies as the store gives them (R102, R103, R174). -/

namespace Sys2Proof.Machine

/-! ## The entry count of GEAR_SECONDS -/

/-- A histogram with n entries, if it is GEAR_SECONDS (R4). -/
def Hist.sizedTo (n : Nat) (h : Hist) : Hist :=
  { h with values := if h.quantity = .gearSeconds then h.values.take n ++ List.replicate (n - h.values.length) (some 0) else h.values }

theorem resize_eq (t : Tally) (n : Nat) : t.resize n = { t with hists := t.hists.map (Hist.sizedTo n) } := by
  unfold Tally.resize Hist.sizedTo resizeEntries
  congr 1
  refine List.map_congr_left fun x _ => ?_
  split <;> rfl

theorem sizedTo_of_other {n : Nat} {h : Hist} (other : h.quantity ≠ .gearSeconds) : h.sizedTo n = h := by
  simp [Hist.sizedTo, other]

theorem sizedTo_of_length {n : Nat} {h : Hist} (length : h.values.length = n) : h.sizedTo n = h := by
  simp [Hist.sizedTo, ← length]

/-- A tally that has the entry count already is not changed by a resize. -/
theorem resize_of_gearEntries {t : Tally} {n : Nat} (nodup : (t.hists.map (·.quantity)).Nodup) (fits : t.gearEntries = some n) :
    t.resize n = t := by
  have same : t.hists.map (Hist.sizedTo n) = t.hists := by
    refine (List.map_congr_left fun x mem => ?_).trans (List.map_id _)
    by_cases gear : x.quantity = .gearSeconds
    · unfold Tally.gearEntries at fits
      obtain ⟨y, found, length⟩ := Option.map_eq_some_iff.1 fits
      have own : y.quantity = .gearSeconds := by simpa using List.find?_some found
      rw [List.inj_on_of_nodup_map nodup mem (List.mem_of_find?_eq_some found) (gear.trans own.symm)]
      exact sizedTo_of_length length
    · exact sizedTo_of_other gear
  rw [resize_eq, same]

theorem histProfile_nodup (p : Position) : p.histProfile.Nodup := by cases p <;> decide

theorem gearSeconds_mem_histProfile {p : Position} (mem : Quantity.gearSeconds ∈ p.histProfile) : p = .gearbox := by
  revert mem
  cases p <;> decide

/-- The histograms of another position than GEARBOX have no Gear Table entries. -/
theorem map_sizedTo_of_ne {p : Position} {hs : List Hist} (n : Nat) (profile : hs.map (·.quantity) = p.histProfile) (ne : p ≠ .gearbox) :
    hs.map (Hist.sizedTo n) = hs := by
  refine (List.map_congr_left fun x mem => ?_).trans (List.map_id _)
  refine sizedTo_of_other fun gear => ne (gearSeconds_mem_histProfile ?_)
  rw [← profile, ← gear]
  exact List.mem_map_of_mem mem

/-! ## The slots as the store gives them -/

section
variable (st : Store)

/-- Every slot as its lines give it (R102). -/
def rebuiltSlots : Vector Slot 20 := tabulate 20 fun i => (rebuildSlot st i).slot

/-- The slots and the kept entries (R102, R103). -/
def rebuiltTable : ComponentTable :=
  { slots := rebuiltSlots st, map := tabulate 16 fun k => mapped st (rebuiltSlots st) (Position.at k) }

theorem rebuiltSlots_get (i : Fin 20) : (rebuiltSlots st)[i] = (rebuildSlot st i).slot := tabulate_get ..

theorem at_index (p : Position) : Position.at p.index = p := by cases p <;> rfl

theorem rebuiltTable_map (p : Position) : (rebuiltTable st).map[p.index] = mapped st (rebuiltSlots st) p := by
  rw [rebuiltTable, tabulate_get, at_index]

theorem rebuiltTable_slot (i : Fin 20) : (rebuiltTable st).slots[i] = (rebuildSlot st i).slot := rebuiltSlots_get st i

/-- An entry is kept where it is stored and its slot is FITTED at its position with a kind that fits (R103). -/
theorem rebuiltTable_map_iff (p : Position) (i : Fin 20) : (rebuiltTable st).map[p.index] = some i ↔
    storedEntry st p = some i.val ∧ (rebuildSlot st i).slot.ident.state = .fitted ∧
    (rebuildSlot st i).slot.ident.position = some p ∧ ∃ k, (rebuildSlot st i).slot.ident.kind = some k ∧ p ∈ k.fits := by
  rw [rebuiltTable_map, mapped_iff, rebuiltSlots_get, storedEntries_iff]

theorem rebuildSlot_hists_nodup (i : Fin 20) : ((rebuildSlot st i).slot.tally.hists.map (·.quantity)).Nodup := by
  have given {damaged : Bool} {p : Position} {n : Nat} {hs : List Hist} (read : readHists damaged p (readLine st n) = some hs) :
      (hs.map (·.quantity)).Nodup := by
    obtain ⟨-, -, profile, -⟩ := (readHists_iff hs).1 read
    rw [profile]
    exact histProfile_nodup p
  cases ident : readIdent (readLine st (identLine i)) with
  | damaged =>
    have e : rebuildSlot st i = .bare st i := by rw [rebuildSlot, ident]
    rw [e]
    exact List.nodup_nil
  | empty =>
    have e : rebuildSlot st i = rebuildEmpty st i := by rw [rebuildSlot, ident]
    rw [e]
    unfold rebuildEmpty
    split <;> exact List.nodup_nil
  | recorded x =>
    rcases rebuildSlot_of_ident ident with ⟨p, e⟩ | e
    · rw [e]
      unfold rebuildAt
      split
      · rename_i hists
        exact given hists
      · show (((readHists _ p _).getD (absentHists p)).map (·.quantity)).Nodup
        cases hists : readHists (decide (x.state = .damaged)) p (readLine st (histLine i)) with
        | none =>
          rw [Option.getD_none, absentHists_quantities]
          exact histProfile_nodup p
        | some hs => exact given hists
    · rw [e]
      exact List.nodup_nil

/-- A slot as start-up leaves it (R102, R103, R174). -/
def finalSlot (n : Nat) (i : Fin 20) : Slot :=
  if (rebuiltTable st).map[Position.gearbox.index] = some i then ((rebuiltTable st).reconciled i).resize n else (rebuiltTable st).reconciled i

theorem reconciled_tally (x : ComponentTable) (i : Fin 20) : (x.reconciled i).tally = x.slots[i].tally := by
  unfold ComponentTable.reconciled
  split <;> rfl

theorem finalSlot_ident (n : Nat) (i : Fin 20) : (finalSlot st n i).ident = ((rebuiltTable st).reconciled i).ident := by
  unfold finalSlot
  split <;> rfl

theorem finalSlot_tally (n : Nat) (i : Fin 20) : (finalSlot st n i).tally =
    if (rebuiltTable st).map[Position.gearbox.index] = some i then (rebuildSlot st i).slot.tally.resize n
    else (rebuildSlot st i).slot.tally := by
  unfold finalSlot
  split
  · show ((rebuiltTable st).reconciled i).tally.resize n = _
    rw [reconciled_tally, rebuiltTable_slot]
  · rw [reconciled_tally, rebuiltTable_slot]

/-- A slot that the map names stands as its lines give it, but for its entry count. -/
theorem not_strays_of_mapped {p : Position} {i : Fin 20} (named : (rebuiltTable st).map[p.index] = some i) :
    (rebuiltTable st).strays i = false := by
  rw [← Bool.not_eq_true, strays_iff]
  exact fun h => h.2 p named

theorem rebuiltTable_agrees : ComponentTable.agrees { rebuiltTable st with slots := tabulate 20 (rebuiltTable st).reconciled } :=
  reconciled_agrees (st := st) (rebuiltTable_map st)

end

/-! ## Steps 4 to 6 -/

section
variable (s : State)

/-- The gearbox slot takes the entry count (R174). -/
theorem startGearSlot_spec (nodup : ∀ i, s.gearSlot = some i → (s.table.slots[i].tally.hists.map (·.quantity)).Nodup) :
    s.startGearSlot.table.map = s.table.map ∧
    (∀ i : Fin 20, s.startGearSlot.table.slots[i] = if s.gearSlot = some i then s.table.slots[i].resize s.gearCount else s.table.slots[i]) ∧
    ∃ lines, s.Notes s.startGearSlot lines id := by
  unfold State.startGearSlot
  cases gear : s.gearSlot with
  | none => exact ⟨rfl, fun i => rfl, [], .refl s⟩
  | some g =>
    dsimp only
    split
    · rename_i fits
      refine ⟨rfl, fun i => ?_, [], .refl s⟩
      split
      · rename_i e
        obtain rfl := Option.some.inj e
        unfold Slot.resize
        rw [resize_of_gearEntries (nodup _ gear) fits]
      · rfl
    · have e : s.resizeSlot s.gearCount = (s.setSlot g (s.table.slots[g].resize s.gearCount)).markDirty (histLine g) := by
        rw [State.resizeSlot, gear]
      rw [e]
      refine ⟨rfl, fun i => ?_, _, (State.Notes.of_frame (setSlot_frame ..)).trans (markDirty_notes _ (histLine g))⟩
      show (s.table.slots.set g _)[i] = _
      by_cases same : g = i
      · subst same; simp
      · have ne : g.val ≠ i.val := fun h => same (Fin.ext h)
        rw [if_neg fun h => same (Option.some.inj h)]
        exact Vector.getElem_set_ne _ _ ne

/-- Steps 4 to 6: the table as the store gives it, and what they note (R102, R103, R174). -/
theorem startTable_spec :
    let e := s.startSlots.startMap.startReconcile
    e.table.map = (rebuiltTable s.store).map ∧ (∀ i : Fin 20, e.table.slots[i] = finalSlot s.store s.gearCount i) ∧
    ∃ lines, s.Notes e lines (fun r => { r with
        slotsDamaged := r.slotsDamaged + ((List.finRange 20).filter fun i => (rebuildSlot s.store i).newly).length
        mapCleared := r.mapCleared + (Position.all.filter (clearedAt s.store (rebuiltSlots s.store))).length
        slotsStray := r.slotsStray + ((List.finRange 20).filter (rebuiltTable s.store).strays).length }) ∧
      (∀ i, ∀ n ∈ (rebuildSlot s.store i).dirty, n ∈ lines) ∧
      (∀ p, clearedAt s.store (rebuiltSlots s.store) p = true → 5 ∈ lines) ∧
      ∀ i, (rebuiltTable s.store).strays i = true → identLine i ∈ lines := by
  intro e
  obtain ⟨slots, notes₁⟩ := startSlots_spec s
  obtain ⟨⟨kept, map⟩, notes₂⟩ := startMap_spec s.startSlots
  obtain ⟨strays, notes₃⟩ := startStrays_spec s.startSlots.startMap
  have slots' : s.startSlots.table.slots = rebuiltSlots s.store := by rw [slots]; rfl
  rw [notes₁.store, slots'] at map notes₂
  have table : s.startSlots.startMap.table = rebuiltTable s.store := by
    refine table_ext (fun i => ?_) ?_
    · rw [kept, slots']
      rfl
    · ext k hk : 1
      obtain ⟨p, at_⟩ := index_surjective ⟨k, hk⟩
      have here := (map p).trans (rebuiltTable_map s.store p).symm
      simpa [at_] using here
  rw [table] at strays notes₃
  generalize reconciled : (List.finRange 20).foldl State.startStray s.startSlots.startMap = d at strays notes₃
  have count : d.gearCount = s.gearCount := by
    have frame : s.sameExcept d tableBlocks := by
      rw [← reconciled]
      exact ((startSlots_frame_table s).trans (startMap_frame_table _)).trans (startStrays_frame_table _)
    rw [State.gearCount, frame.driveline (by simp)]
    rfl
  have slot (i : Fin 20) : d.table.slots[i] = (rebuiltTable s.store).reconciled i := by rw [strays, tabulate_get]
  have mapEq : d.table.map = (rebuiltTable s.store).map := by rw [strays]
  have gear (i : Fin 20) : d.gearSlot = some i ↔ (rebuiltTable s.store).map[Position.gearbox.index] = some i := by
    rw [State.gearSlot, mapEq]
    cases named : (rebuiltTable s.store).map[Position.gearbox.index] with
    | none => simp
    | some g =>
      obtain ⟨fitted, -⟩ := ((rebuiltTable_agrees s.store).1 .gearbox g).1 named
      rw [tabulate_get] at fitted
      simp [slot, fitted]
  obtain ⟨mapKept, resized, lines₄, notes₄⟩ := startGearSlot_spec d fun i named => by
    rw [slot, reconciled_tally, rebuiltTable_slot]
    exact rebuildSlot_hists_nodup s.store i
  have at_ : e = d.startGearSlot := by rw [← reconciled]; rfl
  rw [at_]
  refine ⟨mapKept.trans mapEq, fun i => ?_, _, (((notes₁.trans notes₂).trans notes₃).trans notes₄).congr (fun _ => Iff.rfl) fun r => rfl,
    fun i n mem => ?_, fun p cleared => ?_, fun i stray => ?_⟩
  · rw [resized, slot, count, finalSlot]
    simp only [gear]
  · simp only [List.mem_append]
    exact .inl (.inl (.inl (List.mem_flatMap.2 ⟨i, List.mem_finRange i, mem⟩)))
  · simp only [List.mem_append]
    exact .inl (.inl (.inr (List.mem_flatMap.2 ⟨p, mem_all p, by simp [cleared]⟩)))
  · simp only [List.mem_append]
    exact .inl (.inr (List.mem_flatMap.2 ⟨i, List.mem_finRange i, by simp [stray]⟩))

end

/-! ## Step 7: the orphan tallies -/

section
variable (st : Store)

/-- The orphan tally that a position's line gives, or a fresh one (R174). -/
def rebuiltOrphan (p : Position) : Tally := (readOrphan p (readLine st (orphanLine p))).getD (.zero p 0)

/-- The position's orphan tally restarts (R174). -/
def orphanRestarts (p : Position) : Bool := (readOrphan p (readLine st (orphanLine p))).isNone

theorem tally_validFor_iff (x : Tally) (p : Position) : x.validFor p = true ↔
    x.scalars.map (·.quantity) = p.scalarProfile ∧ x.hists.map (·.quantity) = p.histProfile ∧ x.hists.all Hist.countOk = true ∧
    x.scalars.all Scalar.held = true ∧ x.hists.all Hist.held = true := by
  simp only [Tally.validFor, Bool.and_eq_true, decide_eq_true_eq, and_assoc]

theorem orphanLine_eq' (p : Position) : orphanLine p = 66 + p.code := by cases p <;> rfl

theorem orphanIntact_eq (p : Position) : orphanIntact st p = !orphanRestarts st p := by
  have count : (fun h : Hist => if h.quantity = .loadSeconds then decide (h.values.length = 6) else decide (h.values.length ≤ 12)) =
      Hist.countOk := rfl
  unfold orphanIntact orphanRestarts
  rw [← orphanLine_eq']
  by_cases lost : (storeGet st (orphanLine p)).outcome = .uncorrectable
  · simp [readLine_of_lost lost, lost, readOrphan]
  · rw [readLine_of_read lost]
    cases image : (storeGet st (orphanLine p)).image with
    | orphan x =>
      simp only [readOrphan, lost, not_false_eq_true, decide_true, Bool.true_and, ne_eq]
      have valid : x.validFor p = (decide (x.scalars.map (·.quantity) = p.scalarProfile) &&
          decide (x.hists.map (·.quantity) = p.histProfile) &&
          x.hists.all (fun h => if h.quantity = .loadSeconds then decide (h.values.length = 6) else decide (h.values.length ≤ 12)) &&
          x.scalars.all (fun y => y.value.isSome) && x.hists.all (fun h => h.values.all Option.isSome)) := rfl
      rw [← valid]
      cases x.validFor p <;> rfl
    | _ => simp [readOrphan, lost]

/-- An intact orphan line keeps its tally (R174). -/
theorem rebuiltOrphan_of_orphan {p : Position} {x : Tally} (intact : orphanIntact st p = true)
    (image : (storeGet st (66 + p.code)).image = .orphan x) : rebuiltOrphan st p = x := by
  rw [orphanIntact_eq, orphanRestarts, Bool.not_eq_true', Option.isNone_eq_false_iff] at intact
  unfold rebuiltOrphan
  rw [← orphanLine_eq'] at image
  by_cases lost : (storeGet st (orphanLine p)).outcome = .uncorrectable
  · rw [readLine_of_lost lost] at intact
    exact nomatch intact
  · rw [readLine_of_read lost, image] at intact ⊢
    simp only [readOrphan] at intact ⊢
    split
    · rfl
    · rename_i bad
      rw [if_neg bad] at intact
      exact nomatch intact

theorem rebuiltOrphan_of_zero {p : Position} (zero : orphanIntact st p = false ∨ (storeGet st (66 + p.code)).image = .blank) :
    rebuiltOrphan st p = .zero p 0 := by
  unfold rebuiltOrphan
  rcases zero with bad | blank
  · rw [orphanIntact_eq, orphanRestarts, Bool.not_eq_false', Option.isNone_iff_eq_none] at bad
    rw [bad]
    rfl
  · rw [← orphanLine_eq'] at blank
    by_cases lost : (storeGet st (orphanLine p)).outcome = .uncorrectable
    · rw [readLine_of_lost lost]
      rfl
    · rw [readLine_of_read lost, blank]
      rfl

theorem zero_hists (p : Position) (n : Nat) : (Tally.zero p n).hists.map (·.quantity) = p.histProfile := by
  simp [Tally.zero, Function.comp_def]

theorem zero_resize (p : Position) (n : Nat) : (Tally.zero p 0).resize n = .zero p n := by
  rw [resize_eq]
  unfold Tally.zero
  congr 1
  rw [List.map_map]
  refine List.map_congr_left fun q mem => ?_
  by_cases gear : q = .gearSeconds
  · subst gear
    simp [Hist.sizedTo, histEntries]
  · have load : q = .loadSeconds := by
      have hist := (List.mem_filter.1 mem).2
      cases q <;> simp_all [Quantity.isHist]
    subst load
    simp [Hist.sizedTo, histEntries]

theorem rebuiltOrphan_hists (p : Position) : (rebuiltOrphan st p).hists.map (·.quantity) = p.histProfile := by
  unfold rebuiltOrphan
  cases read : readOrphan p (readLine st (orphanLine p)) with
  | none => exact zero_hists p 0
  | some x =>
    rw [Option.getD_some]
    unfold readOrphan at read
    split at read
    · rw [← Option.some.inj read]
      exact zero_hists p 0
    · rename_i y _
      split at read
      · rename_i valid
        rw [← Option.some.inj read]
        exact ((tally_validFor_iff y p).1 valid).2.1
      · exact nomatch read
    · exact nomatch read

end

section
variable (s : State)

theorem startOrphan_spec (p : Position) : (s.startOrphan p).tally = { s.tally with
      orphans := s.tally.orphans.set p.index (rebuiltOrphan s.store p) } ∧
    s.Notes (s.startOrphan p) (if orphanRestarts s.store p then [orphanLine p] else [])
      fun r => { r with orphansRestarted := r.orphansRestarted + (orphanRestarts s.store p).toNat } := by
  unfold State.startOrphan orphanRestarts rebuiltOrphan
  cases readOrphan p (readLine s.store (orphanLine p)) with
  | none =>
    exact ⟨rfl, ((State.Notes.of_frame (setOrphan_frame s p (.zero p 0))).trans (markDirty_notes _ (orphanLine p))).trans
      (reporting_notes _ fun r => { r with orphansRestarted := r.orphansRestarted + 1 })⟩
  | some x => exact ⟨rfl, .of_frame (setOrphan_frame s p x)⟩

/-- The orphan tallies as their lines give them (R174). -/
theorem startOrphans_fold : (∀ p : Position, (Position.all.foldl State.startOrphan s).tally.orphans[p.index] = rebuiltOrphan s.store p) ∧
    (Position.all.foldl State.startOrphan s).tally = { s.tally with orphans := (Position.all.foldl State.startOrphan s).tally.orphans } ∧
    s.Notes (Position.all.foldl State.startOrphan s) (Position.all.flatMap fun p => if orphanRestarts s.store p then [orphanLine p] else [])
      fun r => { r with orphansRestarted := r.orphansRestarted + (Position.all.filter (orphanRestarts s.store)).length } := by
  obtain ⟨⟨-, rest, done⟩, notes⟩ := State.Notes.foldl (F := State.startOrphan)
    (P := fun rest t => t.store = s.store ∧ t.tally = { s.tally with orphans := t.tally.orphans } ∧
      ∀ p, p ∉ rest → t.tally.orphans[p.index] = rebuiltOrphan s.store p)
    (L := fun p => if orphanRestarts s.store p then [orphanLine p] else [])
    (R := fun p r => { r with orphansRestarted := r.orphansRestarted + (orphanRestarts s.store p).toNat })
    (fun t p rest ⟨store, same, done⟩ => by
      obtain ⟨tally, notes⟩ := startOrphan_spec t p
      rw [store] at tally notes
      refine ⟨⟨notes.store.trans store, by rw [tally, same], fun q out => ?_⟩, notes⟩
      rw [tally]
      by_cases e : q = p
      · subst e; simp
      · simp only [Fin.getElem_fin, Vector.getElem_set_ne _ _ (index_val_ne e)]
        exact done q (by simp [e, out]))
    Position.all (s := s) ⟨rfl, rfl, fun p out => absurd (mem_all p) out⟩
  exact ⟨fun p => done p (by simp), rest, notes.congr (fun _ => Iff.rfl) fun r => foldl_count _
    (fun n r => { r with orphansRestarted := n }) (·.orphansRestarted) (fun _ => rfl) (fun _ _ _ => rfl) (fun _ _ => rfl) _ r⟩

/-- Step 7: each orphan tally, the GEARBOX one with the entry count of the table (R174). -/
theorem startOrphans_spec :
    (∀ p : Position, s.startOrphans.tally.orphans[p.index] = (rebuiltOrphan s.store p).resize s.gearCount) ∧
    s.startOrphans.tally = { s.tally with orphans := s.startOrphans.tally.orphans } ∧
    ∃ lines, s.Notes s.startOrphans lines (fun r => { r with
        orphansRestarted := r.orphansRestarted + (Position.all.filter (orphanRestarts s.store)).length }) ∧
      ∀ p, orphanRestarts s.store p = true → orphanLine p ∈ lines := by
  obtain ⟨orphans, rest, notes⟩ := startOrphans_fold s
  have frame : s.sameExcept (Position.all.foldl State.startOrphan s) orphanBlocks := .foldl startOrphan_frame_tally _ s
  unfold State.startOrphans
  generalize Position.all.foldl State.startOrphan s = u at *
  have count : u.gearCount = s.gearCount := by
    rw [State.gearCount, frame.driveline (by simp)]
    rfl
  have other {p : Position} (ne : p ≠ .gearbox) : (rebuiltOrphan s.store p).resize s.gearCount = rebuiltOrphan s.store p := by
    rw [resize_eq, map_sizedTo_of_ne _ (rebuiltOrphan_hists s.store p) ne]
  have listed (p : Position) (restarts : orphanRestarts s.store p = true) :
      orphanLine p ∈ Position.all.flatMap fun p => if orphanRestarts s.store p then [orphanLine p] else [] :=
    List.mem_flatMap.2 ⟨p, mem_all p, by simp [restarts]⟩
  unfold State.startGearOrphan
  dsimp only
  split
  · rename_i fits
    refine ⟨fun p => ?_, rest, _, notes, listed⟩
    rw [orphans]
    by_cases gear : p = .gearbox
    · subst gear
      rw [orphans, count] at fits
      exact (resize_of_gearEntries (by rw [rebuiltOrphan_hists]; exact histProfile_nodup _) fits).symm
    · exact (other gear).symm
  · refine ⟨fun p => ?_, ?_, _, ((notes.trans (.of_frame (setOrphan_frame ..))).trans (markDirty_notes _ _)).congr
      (fun _ => Iff.rfl) (fun _ => rfl), fun p restarts => ?_⟩
    · show (u.tally.orphans.set Position.gearbox.index _)[p.index] = _
      by_cases gear : p = .gearbox
      · subst gear
        rw [orphans, count]
        exact Vector.getElem_set_self ..
      · rw [other gear, ← orphans p]
        exact Vector.getElem_set_ne _ _ (index_val_ne gear)
    · show ({ u.tally with orphans := _ } : TallyEngine) = _
      rw [rest]
      rfl
    · simp only [List.mem_append]
      exact .inl (.inl (listed p restarts))

end

end Sys2Proof.Machine
end

-- ==== Start-up, the lines read (O57) ====
section
/-! SUPPORT. Steps 1 to 9 as a whole: the state they leave, what they mark and report (R170 to R176). -/

namespace Sys2Proof.Machine

section
variable (s : State)

/-! ## Steps 8 and 9: what they note -/

/-- A change of the report that book recovery makes: its counts and its opening alone (R175, R176). -/
def bookReport (f : StartReport → StartReport) : Prop := ∀ r, f r = { r with
  recordsDamaged := (f r).recordsDamaged, recoveryCloses := (f r).recoveryCloses, opening := (f r).opening }

theorem bookReport.comp {f g : StartReport → StartReport} (hf : bookReport f) (hg : bookReport g) : bookReport (g ∘ f) := fun r => by
  show g (f r) = { r with recordsDamaged := (g (f r)).recordsDamaged, recoveryCloses := (g (f r)).recoveryCloses,
                          opening := (g (f r)).opening }
  rw [hg (f r), hf r]

theorem bookReport_id : bookReport id := fun _ => rfl

theorem recoverTop_noted (t : Nat) : ∃ lines f, s.Notes (s.recoverTop t) lines f ∧ bookReport f := by
  cases damaged : recordDamaged s.store t || storedDamaged s.store t with
  | true => exact ⟨_, _, (recoverTop_damaged s damaged).2, fun _ => rfl⟩
  | false =>
    cases header : s.book.places[placeOf t].header with
    | none =>
      have e : s.recoverTop t = s := by
        unfold State.recoverTop
        rw [damaged, if_neg (by decide), header]
      exact ⟨[], id, by rw [e]; exact .refl s, bookReport_id⟩
    | some h =>
      by_cases closed : h.state = .closed
      · cases room : s.book.canOpen with
        | true => exact ⟨_, _, (recoverTop_new damaged header closed room).2, fun _ => rfl⟩
        | false => exact ⟨_, _, (recoverTop_reopen damaged header closed room).2, fun _ => rfl⟩
      · exact ⟨[], id, by rw [recoverTop_opened damaged header closed]; exact .refl s, bookReport_id⟩

theorem startBook_of_empty (run : bookRun s.store = []) : s.startBook = s.placed.recoverEmpty.startBounds := by
  show (s.placed.recoverBook (bookRun s.store)).startBounds = _
  rw [run]
  rfl

/-- Steps 8 and 9 mark lines and report on the book, and nothing else there (R173, R175, R176). -/
theorem startBookCount_noted : ∃ lines f, s.Notes s.startBook.startCount lines f ∧ bookReport f := by
  obtain ⟨lines, f, notes, report⟩ : ∃ lines f, s.Notes s.startBook lines f ∧ bookReport f := by
    cases run : bookRun s.store with
    | nil =>
      rw [startBook_of_empty s run]
      exact ⟨_, _, ((startPlaces_spec s (bookRun s.store)).2.trans (recoverEmpty_spec s.placed).2).trans (markIf_notes ..),
        (bookReport_id.comp fun _ => rfl).comp bookReport_id⟩
    | cons t older =>
      obtain ⟨u, e, -, settled⟩ := startBook_of_run s run
      obtain ⟨lines, f, top, report⟩ := recoverTop_noted u t
      rw [e]
      refine ⟨_, _, (settled.trans top).trans (markIf_notes ..), bookReport.comp (bookReport.comp (fun _ => rfl) report) bookReport_id⟩
  exact ⟨_, _, notes.trans (startCount_spec s.startBook).2, report.comp bookReport_id⟩

/-! ## Steps 1 to 9 -/

/-- Steps 3 to 9 (R173 to R176). -/
def State.recoverState (s : State) : State :=
  s.startMark.startSlots.startMap.startReconcile.startOrphans.startBook.startCount

theorem unmarked_store : s.unmarked.store = s.store := rfl

/-- Steps 3 to 9: what they rebuild from the store, mark and report (R173 to R176). -/
theorem recoverState_spec (c : State) {t : State} (end_ : t = c.recoverState) {st : Store} (store : c.store = st) :
    t.table.map = (rebuiltTable st).map ∧ (∀ i : Fin 20, t.table.slots[i] = finalSlot st c.gearCount i) ∧
    (∀ p : Position, t.tally.orphans[p.index] = (rebuiltOrphan st p).resize c.gearCount) ∧
    t.tally = { c.tally with orphans := t.tally.orphans } ∧ c.sameExcept t [.tally, .table, .book, .ctl, .sup] ∧
    ∃ lines f, c.unmarked.Notes t lines f ∧
      (∀ r, f r = { r with
        markFound := markFound st
        slotsDamaged := r.slotsDamaged + ((List.finRange 20).filter fun i => (rebuildSlot st i).newly).length
        mapCleared := r.mapCleared + (Position.all.filter (clearedAt st (rebuiltSlots st))).length
        slotsStray := r.slotsStray + ((List.finRange 20).filter (rebuiltTable st).strays).length
        orphansRestarted := r.orphansRestarted + (Position.all.filter (orphanRestarts st)).length
        recordsDamaged := (f r).recordsDamaged, recoveryCloses := (f r).recoveryCloses, opening := (f r).opening }) ∧
      (markFound st = true → 5 ∈ lines) ∧ (∀ i, ∀ n ∈ (rebuildSlot st i).dirty, n ∈ lines) ∧
      (∀ p, clearedAt st (rebuiltSlots st) p = true → 5 ∈ lines) ∧
      (∀ i, (rebuiltTable st).strays i = true → identLine i ∈ lines) ∧
      ∀ p, orphanRestarts st p = true → orphanLine p ∈ lines := by
  have mark := startMark_notes c
  rw [store] at mark
  have frame₁ := startMark_frame_ctl c
  obtain ⟨map, slots, lines₂, table, dirty, cleared, strays⟩ := startTable_spec c.startMark
  have frame₂ : c.startMark.sameExcept c.startMark.startSlots.startMap.startReconcile tableBlocks :=
    ((startSlots_frame_table _).trans (startMap_frame_table _)).trans (startReconcile_frame_table _)
  rw [mark.store, unmarked_store, store] at map slots table dirty cleared strays
  unfold State.recoverState at end_
  generalize c.startMark.startSlots.startMap.startReconcile = e at *
  obtain ⟨orphans, tally, lines₃, restart, restarts⟩ := startOrphans_spec e
  have frame₃ := startOrphans_frame_tally e
  obtain ⟨lines₄, f, book, report⟩ := startBookCount_noted e.startOrphans
  have frame₄ : e.startOrphans.sameExcept t bookBlocks := by
    rw [end_]
    exact (startBook_frame_book _).trans ((startCount_frame _).mono (by simp))
  have count₁ : c.startMark.gearCount = c.gearCount := by
    rw [State.gearCount, frame₁.driveline (by simp)]; rfl
  have count₂ : e.gearCount = c.gearCount := by
    rw [State.gearCount, frame₂.driveline (by simp), frame₁.driveline (by simp)]; rfl
  have storeE : e.store = st := table.store.trans (mark.store.trans ((unmarked_store c).trans store))
  rw [storeE] at orphans restart restarts
  rw [← end_] at book
  have tallyT : t.tally = e.startOrphans.tally := frame₄.tally (by simp)
  have tallyE : e.tally = c.tally := (frame₂.tally (by simp)).trans (frame₁.tally (by simp))
  have tableT : t.table = e.table := (frame₄.table (by simp)).trans (frame₃.table (by simp))
  refine ⟨?_, fun i => ?_, fun p => ?_, ?_, ?_, _, _, ((mark.trans table).trans restart).trans book, fun r => ?_, fun found => ?_,
    fun i n mem => ?_, fun p clear => ?_, fun i stray => ?_, fun p again => ?_⟩
  · rw [tableT, map]
  · rw [tableT, slots, count₁]
  · rw [tallyT, orphans, count₂]
  · rw [tallyT, tally, tallyE]
  · exact .trans (frame₁.mono (by simp)) (.trans (frame₂.mono (by simp)) (.trans (frame₃.mono (by simp)) (frame₄.mono (by simp))))
  · exact report _
  · simp [found]
  · simp [dirty i n mem]
  · simp [cleared p clear]
  · simp [strays i stray]
  · simp [restarts p again]

/-- The state after step 2 (R172). -/
def State.withConfig (s : State) : State := s.blank.startRead.startConfig

theorem setRead_power : s.setRead.sup.power = s.sup.power := rfl

theorem startUp_eq : s.startUp = s.withConfig.recoverState.setRead := rfl

theorem withConfig_store : s.withConfig.store = s.store := (startConfig_frame_config _).store (by simp)

theorem withConfig_sup : s.withConfig.sup = { s.blank.sup with
      delay := (settingsRead s.store).1.delay
      report := { StartReport.none with
        corrected := (linesWith s.store .corrected).length, uncorrectable := (linesWith s.store .uncorrectable).length
        configDefaulted := ([1, 2, 3, 4].filter fun n => !configIntact s.store n).length } } := by
  have store : s.blank.startRead.store = s.store := rfl
  have none : s.blank.sup.report = .none := rfl
  rw [State.withConfig, startConfig_sup, startRead_sup, store, none, ← defaulted_count]
  simp only [StartReport.none, Nat.zero_add]
  rfl

theorem withConfig_power : s.withConfig.sup.power = .starting := congrArg Supervisor.power (withConfig_sup s)

theorem recoverState_power (c : State) : c.recoverState.sup.power = c.sup.power := by
  obtain ⟨-, -, -, -, -, lines, f, notes, -⟩ := recoverState_spec c rfl rfl
  rw [notes.sup]
  rfl

theorem startUp_power : s.startUp.sup.power = .starting :=
  (congrArg (fun t : State => t.sup.power) (startUp_eq s)).trans
    ((setRead_power _).trans ((recoverState_power _).trans (withConfig_power s)))

end

end Sys2Proof.Machine
end

-- ==== Start-up reads the lines (O57) ====
section
/-! SUPPORT. What the step on an empty queue makes of the stored lines (R102, R103, R109, R170, R172, R174). -/

namespace Sys2Proof.Machine

variable {s : State}

/-- The state after steps 1 to 9, in terms of the store: what was read, marked and reported. -/
structure State.ReadUp (s t : State) : Prop where
  frame : s.sameExcept t rebuildBlocks
  sup : t.sup = { power := .starting, dormancy := none, delay := (settingsRead s.store).1.delay, mark := false, report := t.sup.report,
                  unread := false }
  report : t.sup.report = { t.sup.report with
    corrected := (linesWith s.store .corrected).length, uncorrectable := (linesWith s.store .uncorrectable).length
    configDefaulted := ([1, 2, 3, 4].filter fun n => !configIntact s.store n).length
    slotsDamaged := ((List.finRange 20).filter fun i => (rebuildSlot s.store i).newly).length
    slotsStray := ((List.finRange 20).filter (rebuiltTable s.store).strays).length
    mapCleared := (Position.all.filter (clearedAt s.store (rebuiltSlots s.store))).length
    orphansRestarted := (Position.all.filter (orphanRestarts s.store)).length, markFound := markFound s.store }
  ctl : t.ctl = { StoreController.rest with
    queue := { WriteQueue.empty with commit := linesWith s.store .corrected }, dirty := t.ctl.dirty
    identity := identityFrom (storeGet s.store 0)
    identityLost := decide ((storeGet s.store 0).outcome = .uncorrectable) || !(storeGet s.store 0).image.isIdentity
    timing := (settingsRead s.store).1.timing }
  defaulted : ∀ n, 1 ≤ n → n ≤ 4 → configIntact s.store n = false → n ∈ t.ctl.dirty
  marked : markFound s.store = true → 5 ∈ t.ctl.dirty
  rebuilt : ∀ i, ∀ n ∈ (rebuildSlot s.store i).dirty, n ∈ t.ctl.dirty
  cleared : ∀ p, clearedAt s.store (rebuiltSlots s.store) p = true → 5 ∈ t.ctl.dirty
  strayed : ∀ i, (rebuiltTable s.store).strays i = true → identLine i ∈ t.ctl.dirty
  restarted : ∀ p, orphanRestarts s.store p = true → orphanLine p ∈ t.ctl.dirty
  channels : ∀ i : Fin 10, t.channels[i] = Channel.rest (channelsRead s.store).1[i]
  lines : ∀ i : Fin 5, t.lines[i].setting = (settingsRead s.store).1.lines[i]
  run : t.run.settings = (settingsRead s.store).1.engine
  table : t.driveline.table = (gearsRead s.store).1
  driveline : t.driveline.settings = (settingsRead s.store).1.driveline
  weights : t.tally.weights = (weightsRead s.store).1.1
  link : t.link = { s.link with settings := (weightsRead s.store).1.2 }
  fitment : t.fitment = none
  map : t.table.map = (rebuiltTable s.store).map
  slots : ∀ i : Fin 20, t.table.slots[i] = finalSlot s.store (gearsRead s.store).1.entries.length i
  orphans : ∀ p : Position, t.tally.orphans[p.index] = (rebuiltOrphan s.store p).resize (gearsRead s.store).1.entries.length

/-- What step 2 leaves of each part (R172). -/
structure State.Configured (s c : State) : Prop where
  sup : c.sup = { s.blank.sup with
    delay := (settingsRead s.store).1.delay
    report := { StartReport.none with
      corrected := (linesWith s.store .corrected).length, uncorrectable := (linesWith s.store .uncorrectable).length
      configDefaulted := ([1, 2, 3, 4].filter fun n => !configIntact s.store n).length } }
  ctl : c.ctl = { StoreController.rest with
    queue := { WriteQueue.empty with commit := linesWith s.store .corrected }, dirty := c.ctl.dirty
    identity := identityFrom (storeGet s.store 0)
    identityLost := decide ((storeGet s.store 0).outcome = .uncorrectable) || !(storeGet s.store 0).image.isIdentity
    timing := (settingsRead s.store).1.timing }
  defaulted : ∀ n, 1 ≤ n → n ≤ 4 → configIntact s.store n = false → n ∈ c.ctl.dirty
  channels : ∀ i : Fin 10, c.channels[i] = Channel.rest (channelsRead s.store).1[i]
  lines : ∀ i : Fin 5, c.lines[i].setting = (settingsRead s.store).1.lines[i]
  run : c.run.settings = (settingsRead s.store).1.engine
  table : c.driveline.table = (gearsRead s.store).1
  driveline : c.driveline.settings = (settingsRead s.store).1.driveline
  weights : c.tally.weights = (weightsRead s.store).1.1
  link : c.link = { s.link with settings := (weightsRead s.store).1.2 }
  fitment : c.fitment = none
  store : c.store = s.store

theorem withConfig_configured (s : State) : s.Configured s.withConfig := by
  have store : s.blank.startRead.store = s.store := rfl
  have link : s.blank.startRead.link = s.link := rfl
  have ctl : s.blank.startRead.ctl = { StoreController.rest with
      queue := { WriteQueue.empty with commit := linesWith s.store .corrected } } := startRead_ctl _
  have fitment : s.blank.startRead.fitment = none := rfl
  have sup := withConfig_sup s
  have kept := withConfig_store s
  unfold State.withConfig at *
  generalize s.blank.startRead = u at *
  exact {
    sup := sup
    ctl := by rw [startConfig_ctl, ctl, store]
    defaulted := fun n low high bad => mem_defaulted u low high (by rw [store]; exact bad)
    channels := fun i => by rw [startConfig_channels, store]
    lines := fun i => by rw [startConfig_lines, store]
    run := by rw [startConfig_run, store]
    table := by rw [startConfig_driveline, store]
    driveline := by rw [startConfig_driveline, store]
    weights := by rw [startConfig_tally, store]
    link := by rw [startConfig_link, store, link]
    fitment := ((startConfig_frame_config u).fitment (by simp)).trans fitment
    store := kept }

/-- Steps 3 to 9 after step 2. -/
theorem recoverState_readUp {c : State} (h : s.Configured c) (frame : s.sameExcept c.recoverState.setRead rebuildBlocks) :
    s.ReadUp c.recoverState.setRead := by
  obtain ⟨map, slots, orphans, tally, kept, lines, f, notes, report, marked, rebuilt, cleared, strayed, restarted⟩ :=
    recoverState_spec c rfl h.store
  have count : c.gearCount = (gearsRead s.store).1.entries.length := by rw [State.gearCount, h.table]
  rw [count] at slots orphans
  generalize c.recoverState = r at *
  have dirty (n : Nat) : n ∈ r.setRead.ctl.dirty ↔ n ∈ c.ctl.dirty ∨ n ∈ lines := notes.dirty n
  have sup : r.setRead.sup = { c.sup with mark := false, report := f c.sup.report, unread := false } := by
    rw [State.setRead, notes.sup]
    rfl
  exact {
    frame := frame
    sup := by rw [sup, h.sup]; rfl
    report := by
      rw [sup, h.sup]
      dsimp only
      rw [report]
      simp only [StartReport.none, Nat.zero_add]
    ctl := by
      have same : r.ctl = { c.ctl with dirty := r.ctl.dirty } := notes.ctl
      show r.ctl = _
      rw [same, h.ctl]
      rfl
    defaulted := fun n low high bad => (dirty n).2 (.inl (h.defaulted n low high bad))
    marked := fun found => (dirty 5).2 (.inr (marked found))
    rebuilt := fun i n mem => (dirty n).2 (.inr (rebuilt i n mem))
    cleared := fun p clear => (dirty 5).2 (.inr (cleared p clear))
    strayed := fun i stray => (dirty _).2 (.inr (strayed i stray))
    restarted := fun p again => (dirty _).2 (.inr (restarted p again))
    channels := fun i => by rw [← h.channels i, ← kept.channels (by simp)]; rfl
    lines := fun i => by rw [← h.lines i, ← kept.lines (by simp)]; rfl
    run := by rw [← h.run, ← kept.run (by simp)]; rfl
    table := by rw [← h.table, ← kept.driveline (by simp)]; rfl
    driveline := by rw [← h.driveline, ← kept.driveline (by simp)]; rfl
    weights := by
      have same : r.tally.weights = c.tally.weights := by rw [tally]
      exact same.trans h.weights
    link := (kept.link (by simp)).trans h.link
    fitment := (kept.fitment (by simp)).trans h.fitment
    map := map
    slots := slots
    orphans := orphans }

theorem startUp_readUp (s : State) : s.ReadUp s.startUp := by
  have frame := startUp_frame s
  rw [startUp_eq] at frame ⊢
  exact recoverState_readUp (withConfig_configured s) frame

/-! ## The slots -/

section
variable {st : Store} {n : Nat} {i : Fin 20} {p : Position}

theorem finalSlot_state (n : Nat) (i : Fin 20) : (finalSlot st n i).ident.state =
    if (rebuiltTable st).strays i = true then .stray else (rebuildSlot st i).slot.ident.state := by
  rw [finalSlot_ident]
  cases stray : (rebuiltTable st).strays i
  · rw [reconciled_of_not stray, rebuiltTable_slot]
    rfl
  · rw [reconciled_of stray]
    rfl

/-- A slot that is not FITTED by its lines stands as they give it. -/
theorem finalSlot_of_unfitted (unfitted : (rebuildSlot st i).slot.ident.state ≠ .fitted) (n : Nat) :
    finalSlot st n i = (rebuildSlot st i).slot := by
  have keeps : (rebuiltTable st).strays i = false := by
    rw [← Bool.not_eq_true, strays_iff, rebuiltTable_slot]
    exact fun h => unfitted h.1
  have away : (rebuiltTable st).map[Position.gearbox.index] ≠ some i := fun named =>
    unfitted ((rebuiltTable_map_iff st .gearbox i).1 named).2.1
  rw [finalSlot, if_neg away, reconciled_of_not keeps, rebuiltTable_slot]

/-- An entry names a slot exactly where it is stored so and the slot ends FITTED at the position (R103). -/
theorem final_map_iff (p : Position) (i : Fin 20) : (rebuiltTable st).map[p.index] = some i ↔ storedEntry st p = some i.val ∧
    (finalSlot st n i).ident.state = .fitted ∧ (finalSlot st n i).ident.position = some p := by
  rw [finalSlot_ident]
  have agrees := (rebuiltTable_agrees st).1 p i
  simp only [tabulate_get] at agrees
  exact ⟨fun named => ⟨((rebuiltTable_map_iff st p i).1 named).1, agrees.1 named⟩, fun h => agrees.2 h.2⟩

/-- Among slots: newly DAMAGED are those that end DAMAGED and were not stored so (R102, R109). -/
theorem newly_eq (n : Nat) (i : Fin 20) : (rebuildSlot st i).newly =
    decide ((finalSlot st n i).ident.state = .damaged ∧ storedState st i ≠ some .damaged) := by
  rw [(rebuildSlot_state st i).1, finalSlot_state]
  split
  · rename_i stray
    obtain ⟨fitted, -⟩ := (strays_iff _ i).1 stray
    rw [rebuiltTable_slot] at fitted
    simp [fitted]
  · rfl

/-- Newly STRAY are those that end STRAY and were stored FITTED (R103). -/
theorem strays_eq (n : Nat) (i : Fin 20) : (rebuiltTable st).strays i =
    decide ((finalSlot st n i).ident.state = .stray ∧ storedState st i = some .fitted) := by
  rw [finalSlot_state]
  cases stray : (rebuiltTable st).strays i with
  | true =>
    obtain ⟨fitted, -⟩ := (strays_iff _ i).1 stray
    rw [rebuiltTable_slot] at fitted
    simp [rebuildSlot_fitted fitted]
  | false =>
    symm
    refine decide_eq_false fun ⟨strayed, stored⟩ => ?_
    rw [if_neg (by decide)] at strayed
    have := (rebuildSlot_state st i).2
    simp [strayed, stored] at this

/-- An entry is cleared where it is stored and not kept (R103). -/
theorem clearedAt_eq (p : Position) : clearedAt st (rebuiltSlots st) p =
    ((storedEntry st p).isSome && ((rebuiltTable st).map[p.index]).isNone) := by
  rw [rebuiltTable_map]
  unfold clearedAt mapped
  split
  · rename_i k stored
    rw [(storedEntries_iff st p k).1 stored]
    rfl
  · rename_i none
    cases stored : storedEntry st p with
    | none => rfl
    | some k => exact absurd ((storedEntries_iff st p k).2 stored) (none k)

end

theorem step_of_starting (empty : s.pending = []) (live : s.live = true) (power : s.sup.power = .starting) (unread : s.sup.unread = true) :
    step s = .next s.startUp := by
  simp [step, State.tick, empty, live, power, unread]

end Sys2Proof.Machine
end

-- ==== O57 ====
section
/-! SUPPORT. The slots of the lines read, case by case (R102, R103, R109), and O57. -/

namespace Sys2Proof.Machine

section
variable {st : Store} {n : Nat} {i : Fin 20} {p : Position} {x : SlotIdent}

/-- The identity of a slot that was stored recorded, with the position it stands at or stood at last (R97, R102). -/
structure IdentStored (st : Store) (i : Fin 20) (x : SlotIdent) (p : Position) : Prop where
  read : (storeGet st (identLine i)).outcome ≠ .uncorrectable
  image : (storeGet st (identLine i)).image = .slotIdent x
  valid : x.valid = true
  place : x.position = some p ∨ x.position = none ∧ x.lastPosition = some p

theorem IdentStored.position_of_fitted (h : IdentStored st i x p) (fitted : x.state = .fitted) : x.position = some p := by
  have valid := h.valid
  unfold SlotIdent.valid at valid
  rw [fitted] at valid
  simp only [Bool.and_eq_true] at valid
  obtain ⟨-, ⟨⟨⟨-, position⟩, -⟩, -⟩, -⟩ := valid
  exact h.place.resolve_right fun k => by rw [k.1] at position; exact nomatch position

theorem IdentStored.at_of_position (h : IdentStored st i x p) {q : Position} (position : x.position = some q) : q = p := by
  rcases h.place with e | ⟨e, -⟩
  · exact Option.some.inj (position.symm.trans e)
  · exact nomatch position.symm.trans e

section Stored
variable {xs : List Scalar} {hs : List Hist} (h : IdentStored st i x p)
  (scalars : scalarsStored (storeGet st (scalarLine i)) p (decide (x.state = .damaged)) xs)
  (hists : histsStored (storeGet st (histLine i)) p (decide (x.state = .damaged)) hs)
include h scalars hists

theorem slot_of_stored : (rebuildSlot st i).slot = { ident := x, tally := { scalars := xs, hists := hs } } := by
  rw [rebuildSlot_of_recorded h.read h.image h.valid h.place, rebuildAt_of_stored scalars hists]

/-- The map names the slot for a position where that is the slot's own, and the slot keeps its entry (R103). -/
theorem map_of_stored (q : Position) : (rebuiltTable st).map[q.index] = some i ↔ q = p ∧ x.state = .fitted ∧
    storedEntry st p = some i.val ∧ ∃ k, x.kind = some k ∧ p ∈ k.fits := by
  rw [rebuiltTable_map_iff, slot_of_stored h scalars hists]
  constructor
  · rintro ⟨stored, fitted, position, fits⟩
    obtain rfl := h.at_of_position position
    exact ⟨rfl, fitted, stored, fits⟩
  · rintro ⟨rfl, fitted, stored, fits⟩
    exact ⟨stored, fitted, h.position_of_fitted fitted, fits⟩

theorem finalSlot_tally_of_stored : (finalSlot st n i).tally =
    { scalars := xs, hists := if (rebuiltTable st).map[p.index] = some i then hs.map (Hist.sizedTo n) else hs } := by
  have same := map_of_stored h scalars hists
  rw [finalSlot_tally, slot_of_stored h scalars hists]
  by_cases gear : p = .gearbox
  · subst gear
    split
    · exact resize_eq ..
    · rfl
  · have away : (rebuiltTable st).map[Position.gearbox.index] ≠ some i := fun named => gear ((same .gearbox).1 named).1.symm
    obtain ⟨-, -, profile, -⟩ := hists
    rw [if_neg away]
    split
    · rw [map_sizedTo_of_ne n profile gear]
    · rfl

theorem finalSlot_ident_of_kept (kept : x.state ≠ .fitted ∨ storedEntry st p = some i.val ∧ ∃ k, x.kind = some k ∧ p ∈ k.fits) :
    (finalSlot st n i).ident = x := by
  have slot := slot_of_stored h scalars hists
  have keeps : (rebuiltTable st).strays i = false := by
    by_cases fitted : x.state = .fitted
    · exact not_strays_of_mapped st ((map_of_stored h scalars hists p).2 ⟨rfl, fitted, kept.resolve_left (not_not.2 fitted)⟩)
    · rw [← Bool.not_eq_true, strays_iff, rebuiltTable_slot, slot]
      exact fun k => fitted k.1
  rw [finalSlot_ident, reconciled_of_not keeps, rebuiltTable_slot, slot]

theorem strays_of_stored (fitted : x.state = .fitted) (lost : ¬(storedEntry st p = some i.val ∧ ∃ k, x.kind = some k ∧ p ∈ k.fits)) :
    (rebuiltTable st).strays i = true := by
  rw [strays_iff, rebuiltTable_slot, slot_of_stored h scalars hists]
  exact ⟨fitted, fun q named => lost ((map_of_stored h scalars hists q).1 named).2.2⟩

theorem finalSlot_ident_of_strayed (fitted : x.state = .fitted)
    (lost : ¬(storedEntry st p = some i.val ∧ ∃ k, x.kind = some k ∧ p ∈ k.fits)) :
    (finalSlot st n i).ident = { x with state := .stray, position := none, lastPosition := some p } := by
  rw [finalSlot_ident, reconciled_of (strays_of_stored h scalars hists fitted lost), rebuiltTable_slot, slot_of_stored h scalars hists,
    ← h.position_of_fitted fitted]
  rfl

end Stored

/-- A slot with a damaged tally line, as start-up leaves it (R102). -/
theorem finalSlot_of_damaged (h : IdentStored st i x p)
    (bad : (∀ xs, ¬scalarsStored (storeGet st (scalarLine i)) p (decide (x.state = .damaged)) xs) ∨
      ∀ hs, ¬histsStored (storeGet st (histLine i)) p (decide (x.state = .damaged)) hs) :
    finalSlot st n i = damagedSlot x p (readScalars (decide (x.state = .damaged)) p (readLine st (scalarLine i)))
        (readHists (decide (x.state = .damaged)) p (readLine st (histLine i))) ∧
    (x.state ≠ .damaged → (rebuildSlot st i).dirty = slotLines i) := by
  have rebuilt := (rebuildSlot_of_recorded h.read h.image h.valid h.place).trans (rebuildAt_of_damaged bad)
  rw [finalSlot_of_unfitted (by rw [rebuilt]; exact fun k => nomatch k), rebuilt]
  exact ⟨rfl, fun whole => if_neg whole⟩

theorem finalSlot_of_lost (lost : (storeGet st (identLine i)).outcome = .uncorrectable) :
    finalSlot st n i = { ident := .bare .damaged, tally := .empty } ∧
    (storedState st i ≠ some .damaged → (rebuildSlot st i).dirty = slotLines i) := by
  have rebuilt := rebuildSlot_of_lost (i := i) lost
  rw [finalSlot_of_unfitted (by rw [rebuilt]; exact fun k => nomatch k), rebuilt]
  exact ⟨rfl, fun other => if_neg fun k => other (slotStoredDamaged_iff.1 k)⟩

section Empty
variable (read : (storeGet st (identLine i)).outcome ≠ .uncorrectable) (empty : emptyImage (storeGet st (identLine i)).image)
include read empty

theorem finalSlot_of_empty_lost (lost : (storeGet st (scalarLine i)).outcome = .uncorrectable ∨
    (storeGet st (histLine i)).outcome = .uncorrectable) :
    finalSlot st n i = { ident := .bare .damaged, tally := .empty } ∧ (rebuildSlot st i).dirty = slotLines i := by
  have rebuilt := (rebuildSlot_of_empty read empty).trans (rebuildEmpty_of_lost lost)
  rw [finalSlot_of_unfitted (by rw [rebuilt]; exact fun k => nomatch k), rebuilt]
  exact ⟨rfl, if_neg (by rw [not_stored_damaged_of_empty empty]; decide)⟩

theorem finalSlot_of_empty (scalars : (storeGet st (scalarLine i)).outcome ≠ .uncorrectable)
    (hists : (storeGet st (histLine i)).outcome ≠ .uncorrectable) :
    finalSlot st n i = .empty ∧ (rebuildSlot st i).dirty = notBlank st [scalarLine i, histLine i] := by
  have rebuilt := (rebuildSlot_of_empty read empty).trans (rebuildEmpty_of_read scalars hists)
  rw [finalSlot_of_unfitted (by rw [rebuilt]; exact fun k => nomatch k), rebuilt]
  exact ⟨rfl, rfl⟩

end Empty

end

section
variable {st : Store}

theorem channelsRead_of {v : Vector ChannelConfig 10} (good : configIntact st 1 = true) (image : (storeGet st 1).image = .channels v) :
    (channelsRead st).1 = v := by
  refine (channelsRead_read st).given v good ?_
  simp only [configIntact, image, Bool.and_eq_true, decide_eq_true_eq] at good
  rw [image]
  exact if_pos good.2.2

theorem gearsRead_of {x : GearTable} (good : configIntact st 2 = true) (image : (storeGet st 2).image = .gears x) :
    (gearsRead st).1 = x := by
  refine (gearsRead_read st).given x good ?_
  simp only [configIntact, image, Bool.and_eq_true, decide_eq_true_eq] at good
  rw [image]
  exact if_pos good.2.2

theorem settingsRead_of {x : SettingsLine} (good : configIntact st 3 = true) (image : (storeGet st 3).image = .settings x) :
    (settingsRead st).1 = x := by
  refine (settingsRead_read st).given x good ?_
  simp only [configIntact, image, Bool.and_eq_true, decide_eq_true_eq] at good
  rw [image]
  exact if_pos good.2.2

theorem weightsRead_of {w : Vector Nat 28} {x : NoticeSettings} (good : configIntact st 4 = true)
    (image : (storeGet st 4).image = .weights w x) : (weightsRead st).1 = (w, x) := by
  refine (weightsRead_read st).given (w, x) good ?_
  simp only [configIntact, image, Bool.and_eq_true, decide_eq_true_eq] at good
  rw [image]
  exact if_pos (Bool.and_eq_true_iff.2 ⟨good.2.1.2, good.2.2⟩)

end

theorem filter_length_pos_iff {α : Type} {xs : List α} {p : α → Bool} : 0 < (xs.filter p).length ↔ ∃ x ∈ xs, p x = true := by
  rw [List.length_pos_iff_exists_mem]
  simp [List.mem_filter]

/-- Settles O57: the state after steps 1 to 9 in terms of the store (`startUp_readUp`), and the slots case by case. -/
theorem startUpReadsLines : Obligations.StartUpReadsLines := by
  unfold Obligations.StartUpReadsLines
  intro s empty live power unread line lost found sizedTo
  have h := startUp_readUp s
  refine ⟨s.startUp, step_of_starting empty live power unread, ?_⟩
  generalize s.startUp = t at h
  have identity := congrArg StoreController.identity h.ctl
  have timing := congrArg StoreController.timing h.ctl
  have delay := congrArg Supervisor.delay h.sup
  have channels := channelsRead_read s.store
  have gears := gearsRead_read s.store
  have settings := settingsRead_read s.store
  have weights := weightsRead_read s.store
  have count : t.driveline.table.entries.length = (gearsRead s.store).1.entries.length := by rw [h.table]
  refine ⟨congrArg Supervisor.unread h.sup, congrArg Supervisor.power h.sup, h.fitment, ?_, h.frame.mono (by simp), ?_, ?_,
    congrArg StoreController.queue h.ctl, congrArg StoreController.flight h.ctl, ?_, h.defaulted, ?_, ?_, ?_, ?_, ?_, ?_, ?_, ?_, ?_, ?_,
    ?_, ?_, ?_, ?_, ?_, ?_, ?_⟩
  · rw [h.link]
  · rw [h.report]; rfl
  · rw [h.report]; rfl
  · intro bytes k b image at_
    rw [identity]
    exact identityFrom_getElem image at_
  · rw [h.report]
  · intro v good image i
    rw [h.channels, channelsRead_of good image]
    rfl
  · intro dflt i
    rw [h.channels, channels.default dflt]
    show (Vector.replicate 10 ChannelConfig.default)[i] = _
    simp
  · intro x good image
    rw [h.table, gearsRead_of good image]
  · intro dflt
    rw [h.table, gears.default dflt]
    rfl
  · intro x good image
    have read := settingsRead_of good image
    exact ⟨fun l => by rw [h.lines, read], by rw [h.run, read], by rw [h.driveline, read], by rw [timing, read], by rw [delay, read]⟩
  · intro dflt
    have read := settings.default dflt
    refine ⟨fun l => ?_, by rw [h.run, read]; rfl, by rw [h.driveline, read]; rfl, by rw [timing, read]; rfl, by rw [delay, read]; rfl⟩
    rw [h.lines, read]
    show (Vector.replicate 5 LineSetting.default)[l.index] = _
    simp [LineSetting.default]
  · intro w x good image
    have read := weightsRead_of good image
    exact ⟨by rw [h.weights, read], by rw [h.link, read]⟩
  · intro dflt
    have read := weights.default dflt
    refine ⟨by rw [h.weights, read], fun k => ?_, by rw [h.link, read]; rfl⟩
    rw [State.level, h.link, read]
    cases k <;> rfl
  · intro i
    have slot := h.slots i
    rw [← count] at slot
    have dirty {ns : List Nat} (same : (rebuildSlot s.store i).dirty = ns) (n : Nat) (mem : n ∈ ns) : n ∈ t.ctl.dirty :=
      h.rebuilt i n (by rw [same]; exact mem)
    have anew (same : (rebuildSlot s.store i).dirty = slotLines i) :
        identLine i ∈ t.ctl.dirty ∧ scalarLine i ∈ t.ctl.dirty ∧ histLine i ∈ t.ctl.dirty :=
      ⟨dirty same _ (by simp [slotLines]), dirty same _ (by simp [slotLines]), dirty same _ (by simp [slotLines])⟩
    have scalarAt : 6 + 3 * i.val + 1 = scalarLine i := by rw [scalarLine]; omega
    have histAt : 6 + 3 * i.val + 2 = histLine i := by rw [histLine]; omega
    dsimp only
    rw [slot, scalarAt, histAt]
    refine ⟨fun gone => ?_, fun read blank gone => ?_, fun read blank scalars hists => ?_, fun x p read image valid place => ?_⟩
    · obtain ⟨bare, lines⟩ := finalSlot_of_lost (n := t.driveline.table.entries.length) (i := i) gone
      exact ⟨bare, fun other => anew (lines other)⟩
    · obtain ⟨bare, lines⟩ := finalSlot_of_empty_lost (n := t.driveline.table.entries.length) (i := i) read blank gone
      exact ⟨bare, anew lines⟩
    · obtain ⟨bare, lines⟩ := finalSlot_of_empty (n := t.driveline.table.entries.length) (i := i) read blank scalars hists
      exact ⟨bare, fun used => dirty lines _ ((mem_notBlank scalars).2 ⟨by simp, used⟩),
        fun used => dirty lines _ ((mem_notBlank hists).2 ⟨by simp, used⟩)⟩
    · have ident : IdentStored s.store i x p := ⟨read, image, valid, place⟩
      refine ⟨fun xs hs scalars hists => ⟨?_, finalSlot_ident_of_kept ident scalars hists,
        fun fitted gone => ⟨finalSlot_ident_of_strayed ident scalars hists fitted gone,
          h.strayed i (strays_of_stored ident scalars hists fitted gone)⟩⟩, fun bad => ?_⟩
      · rw [finalSlot_tally_of_stored ident scalars hists, h.map]
        rfl
      · obtain ⟨slot', lines⟩ := finalSlot_of_damaged (n := t.driveline.table.entries.length) ident bad
        rw [slot']
        refine ⟨rfl, fun xs scalars => ?_, fun hs hists => ?_, fun none => ?_, fun none => ?_, fun whole => anew (lines ?_)⟩
        · show (readScalars _ _ _).getD _ = xs
          rw [(readScalars_iff xs).2 scalars]
          rfl
        · show (readHists _ _ _).getD _ = hs
          rw [(readHists_iff hs).2 hists]
          rfl
        · have lostScalars := Option.eq_none_iff_forall_ne_some.2 fun xs read => none xs ((readScalars_iff xs).1 read)
          show (readScalars _ _ _).getD _ = _
          rw [lostScalars]
          rfl
        · have lostHists := Option.eq_none_iff_forall_ne_some.2 fun hs read => none hs ((readHists_iff hs).1 read)
          show ((readHists _ _ _).getD _).map _ = _ ∧ ∀ h ∈ (readHists _ _ _).getD _, _
          rw [lostHists]
          exact ⟨absentHists_quantities p, absentHists_absent p⟩
        · exact of_decide_eq_false whole
  · rw [h.report]
    refine congrArg List.length (List.filter_congr fun i _ => ?_)
    rw [newly_eq t.driveline.table.entries.length i, h.slots, ← count]
  · rw [h.report]
    refine congrArg List.length (List.filter_congr fun i _ => ?_)
    rw [strays_eq t.driveline.table.entries.length i, h.slots, ← count]
  · intro p i
    rw [h.map, h.slots]
    exact final_map_iff p i
  · rw [h.report]
    refine congrArg List.length (List.filter_congr fun p _ => ?_)
    rw [clearedAt_eq, h.map]
  · intro some
    rw [h.report] at some
    obtain ⟨p, -, cleared⟩ := filter_length_pos_iff.1 some
    exact h.cleared p cleared
  · intro p
    refine ⟨fun x intact image => ?_, fun zero => ?_, fun bad => ?_⟩
    · rw [h.orphans, rebuiltOrphan_of_orphan s.store intact image, resize_eq, ← count]
      rfl
    · rw [h.orphans, rebuiltOrphan_of_zero s.store zero, zero_resize, ← count]
    · rw [← orphanLine_eq']
      exact h.restarted p (by rw [orphanIntact_eq, Bool.not_eq_false'] at bad; exact bad)
  · rw [h.report]
    refine congrArg List.length (List.filter_congr fun p _ => ?_)
    rw [orphanIntact_eq, Bool.not_not]

end Sys2Proof.Machine
end

-- ==== The end of start-up (O59) ====
section
/-! SUPPORT. Steps 10 to 12 of start-up (R177): the notices, the starting states, ACTIVE or HOLDUP. -/

namespace Sys2Proof.Machine

variable (s : State)

/-! ## Step 10: the notices -/

/-- The state with the Notice Set emptied. -/
def State.noNotices (s : State) : State := { s with link := { s.link with notices := Vector.replicate 14 none } }

theorem noNotices_notice (k : NoticeKind) : s.noNotices.notice k = none := by simp [State.notice, State.noNotices]

/-- Something in the report calls for START_RECOVERY (R177), in words. -/
theorem notable_iff (r : StartReport) : r.notable = true ↔
    0 < r.uncorrectable ∨ 0 < r.configDefaulted ∨ 0 < r.slotsDamaged ∨ 0 < r.slotsStray ∨ 0 < r.mapCleared ∨ 0 < r.orphansRestarted ∨
    0 < r.recordsDamaged ∨ 0 < r.recoveryCloses ∨ r.opening = .reset ∨ r.opening = .new ∨ r.opening = .reopen := by
  simp only [StartReport.notable, Bool.or_eq_true, decide_eq_true_eq, or_assoc]

theorem startNotices_spec :
    s.startNotices.link = { s.link with notices := s.startNotices.link.notices } ∧ s.sameExcept s.startNotices [.link] ∧
    (∀ k, k ≠ .clockUnset → k ≠ .startRecovery → s.startNotices.notice k = none) ∧
    (s.level .clockUnset ≠ 0 → s.startNotices.notice .clockUnset = some { detail := .empty, repeats := 0 }) ∧
    (s.startNotices.notice .startRecovery ≠ none ↔ s.level .startRecovery ≠ 0 ∧ s.sup.report.notable = true) := by
  let u := s.noNotices.raise .clockUnset .empty
  have link : u.link = { s.link with notices := u.link.notices } := raise_link ..
  have frame : s.sameExcept u [.link] := .trans (by simp [State.sameExcept, State.noNotices]) (raise_frame ..)
  have others (k : NoticeKind) (ne : k ≠ .clockUnset) : u.notice k = none := by
    rw [raise_notice_ne _ _ ne, noNotices_notice]
  have clock (on : s.level .clockUnset ≠ 0) : u.notice .clockUnset = some { detail := .empty, repeats := 0 } := by
    rw [raise_notice_self, noNotices_notice]
    exact noticeAfter_none (s := s.noNotices) (k := .clockUnset) (d := .empty) on
  have level : u.level .startRecovery = s.level .startRecovery := raise_level ..
  have report : u.sup.report = s.sup.report := congrArg Supervisor.report (frame.sup (by simp))
  by_cases notable : s.sup.report.notable = true
  · have same : s.startNotices = u.raise .startRecovery (.report u.sup.report) := if_pos (by rw [← report] at notable; exact notable)
    rw [same]
    refine ⟨?_, frame.trans (raise_frame ..), fun k ne other => ?_, fun on => ?_, ?_⟩
    · rw [raise_link, link]
    · rw [raise_notice_ne _ _ other, others k ne]
    · rw [raise_notice_ne _ _ (by decide), clock on]
    · rw [raise_notice_self, others _ (by decide), ← level]
      refine ⟨fun raised => ⟨fun off => raised (if_pos off), notable⟩, fun on => noticeAfter_ne_none u _ _ on.1 _⟩
  · have same : s.startNotices = u := if_neg (by rw [← report] at notable; exact notable)
    rw [same]
    exact ⟨link, frame, fun k ne _ => others k ne, clock, fun raised => absurd (others _ (by decide)) raised,
      fun ⟨_, k⟩ => absurd k notable⟩

/-! ## Steps 11 and 12: the starting states -/

/-- Step 11: the starting states (R18, R24, R40, R54, R75). -/
def State.startStates (s : State) : State := s.startSensing.startObservers

theorem startStates_frame : s.sameExcept s.startStates [.clock, .channels, .lines, .run, .driveline, .fitment] := by
  simp [State.sameExcept, State.startStates, State.startSensing, State.startObservers]

theorem started_eq (c : Channel) : c.started = {
    cfg := c.cfg, state := if c.cfg.enabled = true ∧ c.cfg.function ≠ .unassigned then .stopped else .disabled, speed := some 0,
    capture := none, short := 0, good := 0, tooth := 0, noise := 0, episode := false } := rfl

/-- Every dirty line is queued, and the timers of an ACTIVE recorder run (R81, R161, R177). -/
theorem becomeActive_spec :
    s.becomeActive.sup = { s.sup with power := .active } ∧ s.becomeActive.tally = { s.tally with accrual := some (s.now + 250000) } ∧
    s.becomeActive.ctl.scrubTimer = some (s.now + s.ctl.timing.step * 250000) ∧ s.becomeActive.ctl.dirty = s.ctl.dirty ∧
    (∀ n, s.becomeActive.ctl.holds n ↔ s.ctl.holds n ∨ n ∈ s.ctl.dirty) ∧ s.becomeActive.ctl.records = s.ctl.records ∧
    (s.ctl.dirty = [] → s.becomeActive.ctl.flight = s.ctl.flight ∧ s.becomeActive.ctl.queue = s.ctl.queue) ∧
    s.sameExcept s.becomeActive [.tally, .ctl, .sup] := by
  obtain ⟨holds, records, dirty, settings⟩ := enqueueAll_spec s .commit s.ctl.dirty
  obtain ⟨-, -, -, -, -, -, -, timing, -⟩ := settings
  have scrub : s.becomeActive.ctl.scrubTimer = some (s.now + (s.enqueueAll .commit s.ctl.dirty).ctl.timing.step * 250000) := rfl
  rw [timing] at scrub
  refine ⟨rfl, rfl, scrub, dirty, holds, records, fun clean => ?_, .trans ((enqueueAll_frame ..).mono (by simp))
    (.trans ((startActivity_frame _).mono (by simp)) ((setPower_frame ..).mono (by simp)))⟩
  show (List.foldl _ s.ctl s.ctl.dirty).flight = _ ∧ (List.foldl _ s.ctl s.ctl.dirty).queue = _
  rw [clean]
  exact ⟨rfl, rfl⟩

theorem shaft_of_channels {s t : State} (h : t.channels = s.channels) (f : ChannelFunction) : t.shaft f = s.shaft f := by
  simp only [State.shaft, State.channelOf, h]

theorem lineActive_of_lines {s t : State} (h : t.lines = s.lines) (l : LineId) : t.lineActive l = s.lineActive l := by
  rw [State.lineActive, h]
  rfl

/-- The recorder before the choice of step 12 between ACTIVE and HOLDUP. -/
def State.startEnding (s : State) : State := s.startNotices.startStates.becomeActive

/-- What ends start-up: with POWER_WARN the HOLDUP entry, else the arbiter (R169, R177). -/
theorem finishStart_eq : s.finishStart =
    if s.startEnding.pins.powerWarn then s.startEnding.enterHoldup else s.startEnding.supervise.arbitrate := rfl

theorem exec_endOfStartUp {s : State} (live : s.live = true) (power : s.sup.power = .starting) :
    exec .endOfStartUp s = .next s.tick.finishStart :=
  congrArg Host.Outcome.next (if_pos (by rw [live, power]; rfl))

theorem tick_of_read {s : State} (read : s.sup.unread = false) : s.tick = s := if_neg (by simp [read])

/-- What the commands after start-up find, whichever of ACTIVE and HOLDUP it ends in: the state before the choice, but for parts of
supervisor, tally, controller and link. -/
theorem startEnding_spec :
    s.startEnding.clock = { value := 0, isSet := false, tick := some (s.now + 250000) } ∧
    (∀ i : Fin 10, s.startEnding.channels[i] = s.channels[i].started) ∧
    (∀ l : LineId, s.startEnding.lines[l.index] = s.lines[l.index].started) ∧
    s.startEnding.run = { RunDetector.rest with
      state := if s.startEnding.shaft .engineSpeed = some .stopped then .off else .blind, settings := s.run.settings } ∧
    s.startEnding.driveline = { Driveline.rest with
      table := s.driveline.table, settings := s.driveline.settings
      clutch := if s.startEnding.lineActive .clutch = true then .engaged else .released
      pto := if s.startEnding.lineActive .ptoOn = true then .on else .off } ∧ s.startEnding.fitment = none ∧
    s.startEnding.sup = { s.sup with power := .active } ∧ s.startEnding.tally = { s.tally with accrual := some (s.now + 250000) } ∧
    s.startEnding.ctl.scrubTimer = some (s.now + s.ctl.timing.step * 250000) ∧ s.startEnding.ctl.dirty = s.ctl.dirty ∧
    (∀ n, s.startEnding.ctl.holds n ↔ s.ctl.holds n ∨ n ∈ s.ctl.dirty) ∧ s.startEnding.ctl.records = s.ctl.records ∧
    (s.ctl.dirty = [] → s.startEnding.ctl.flight = s.ctl.flight ∧ s.startEnding.ctl.queue = s.ctl.queue) ∧
    s.startEnding.link = s.startNotices.link ∧ s.startEnding.table = s.table ∧ s.startEnding.book = s.book ∧
    s.startEnding.store = s.store ∧ s.startEnding.pins = s.pins := by
  obtain ⟨-, early, -⟩ := startNotices_spec s
  unfold State.startEnding
  generalize s.startNotices = v at *
  have now : v.now = s.now := early.now (by simp)
  have channels : v.channels = s.channels := early.channels (by simp)
  have lines : v.lines = s.lines := early.lines (by simp)
  have run : v.run = s.run := early.run (by simp)
  have driveline : v.driveline = s.driveline := early.driveline (by simp)
  have ctl : v.ctl = s.ctl := early.ctl (by simp)
  have middle := startStates_frame v
  obtain ⟨sup, tally, scrub, dirty, holds, records, clean, frame⟩ := becomeActive_spec v.startStates
  have kept : v.startStates.ctl = s.ctl := ctl
  rw [kept] at scrub dirty holds records clean
  rw [show v.startStates.now = s.now from now] at tally scrub
  have sensed (i : Fin 10) : v.startStates.channels[i] = s.channels[i].started := by
    rw [← channels]
    exact tabulate_get ..
  have filtered (l : LineId) : v.startStates.lines[l.index] = s.lines[l.index].started := by
    rw [← lines]
    exact tabulate_get ..
  have shaft := shaft_of_channels (frame.channels (by simp)) .engineSpeed
  have active := lineActive_of_lines (frame.lines (by simp))
  refine ⟨(frame.clock (by simp)).trans ?_, fun i => ?_, fun l => ?_, ?_, ?_, frame.fitment (by simp), ?_, ?_, scrub, dirty, holds,
    records, clean, frame.link (by simp), (frame.table (by simp)).trans (early.table (by simp)),
    (frame.book (by simp)).trans (early.book (by simp)), (frame.store (by simp)).trans (early.store (by simp)),
    (frame.pins (by simp)).trans (early.pins (by simp))⟩
  · rw [← now]
    rfl
  · rw [frame.channels (by simp)]
    exact sensed i
  · rw [frame.lines (by simp)]
    exact filtered l
  · rw [frame.run (by simp), shaft, ← run]
    rfl
  · rw [frame.driveline (by simp), active, active, ← driveline]
    rfl
  · rw [sup, ← early.sup (by simp)]
    rfl
  · rw [tally, ← early.tally (by simp)]
    rfl

/-- What both ends of start-up share: the state before the choice, but for power state, link queues and Write Queue. -/
structure State.EndedFrom (u t : State) : Prop where
  frame : u.sameExcept t [.tally, .ctl, .sup, .link]
  sup : t.sup.report = u.sup.report ∧ t.sup.delay = u.sup.delay ∧ t.sup.unread = u.sup.unread
  notices : t.link.notices = u.link.notices
  tally : t.tally = u.tally
  scrub : t.ctl.scrubTimer = u.ctl.scrubTimer
  holds : ∀ n, u.ctl.holds n ∨ n ∈ u.ctl.dirty → t.ctl.holds n
  held : ∀ n, t.ctl.holds n → u.ctl.holds n ∨ n ∈ u.ctl.dirty ∨ n = 5 ∧ u.pins.powerWarn = true

theorem endedFrom_of_heldUp {u : State} (warn : u.pins.powerWarn = true) (awake : u.sup.power ≠ .dormant) : u.EndedFrom u.enterHoldup := by
  have held := enterHoldup_heldUp u
  exact {
    frame := (enterHoldup_frame u).mono (by simp)
    sup := by rw [held.sup]; exact ⟨rfl, rfl, rfl⟩
    notices := by rw [held.link]
    tally := held.tally awake
    scrub := held.scrub awake
    holds := held.holds
    held := fun n h => (held.held n h).imp_right fun k => k.imp_right fun e => ⟨e, warn⟩ }

theorem endedFrom_of_active {u : State} (active : u.sup.power = .active) (queued : ∀ n ∈ u.ctl.dirty, u.ctl.holds n) :
    u.EndedFrom u.supervise.arbitrate ∧ u.supervise.arbitrate.sup = u.supervise.sup ∧ u.supervise.arbitrate.link = u.link := by
  obtain ⟨holds, records, settings, sup, tally⟩ := arbitrate_spec u.supervise (.inl active)
  obtain ⟨-, -, -, -, -, scrub, -, -, -, -, -⟩ := settings
  have frame := arbitrate_frame u.supervise
  exact ⟨{
    frame := .trans ((supervise_frame u).mono (by simp)) (frame.mono (by simp))
    sup := by rw [sup]; exact ⟨rfl, rfl, rfl⟩
    notices := congrArg LinkPort.notices (frame.link (by simp))
    tally := tally
    scrub := scrub
    holds := fun n h => (holds n).2 (h.elim id (queued n))
    held := fun n h => .inl ((holds n).1 h) }, sup, frame.link (by simp)⟩

/-- Settles O59: the state before the choice of step 12, then HOLDUP entry or the arbiter. -/
theorem startUpEnds : Obligations.StartUpEnds := by
  unfold Obligations.StartUpEnds
  refine fun s live power => ⟨fun unread => ?_, fun read => ?_⟩
  · have before : s.tick = s.startUp := if_pos (by rw [live, power, unread]; rfl)
    have up : s.startUp.live = true := by
      rw [← live]
      exact congrArg (fun p : Pins => p.supply && !p.reset) ((startUp_frame s).pins (by simp))
    have after : s.startUp.tick = s.startUp := tick_of_read (congrArg Supervisor.unread (startUp_readUp s).sup)
    rw [exec_endOfStartUp live power, before, exec_endOfStartUp up (startUp_power s), after]
  · obtain ⟨clock, channels, lines, run, driveline, fitment, sup, tally, scrub, dirty, holds, records, clean, link, table, book, store,
      pins⟩ := startEnding_spec s
    obtain ⟨notices, -, others, unset, recovery⟩ := startNotices_spec s
    have exec_ := exec_endOfStartUp live power
    rw [tick_of_read read, finishStart_eq] at exec_
    generalize s.startEnding = u at *
    obtain ⟨t, run', ended, active, warned⟩ : ∃ t, exec .endOfStartUp s = .next t ∧ u.EndedFrom t ∧
        (s.pins.powerWarn = false → t.sup = u.supervise.sup ∧ t.link = u.link) ∧
        (s.pins.powerWarn = true → t = u.enterHoldup) := by
      by_cases warn : s.pins.powerWarn = true
      · rw [if_pos (by rw [pins]; exact warn)] at exec_
        exact ⟨_, exec_, endedFrom_of_heldUp (by rw [pins]; exact warn) (by rw [sup]; simp), fun off => absurd (off.symm.trans warn) (by simp),
          fun _ => rfl⟩
      · rw [if_neg (by rw [pins]; exact warn)] at exec_
        obtain ⟨ended, kept, same⟩ := endedFrom_of_active (u := u) (by rw [sup]) fun n mem => (holds n).2 (.inr (dirty ▸ mem))
        exact ⟨_, exec_, ended, fun _ => ⟨kept, same⟩, fun on => absurd on warn⟩
    have frame := ended.frame
    obtain ⟨report, delay, unread⟩ := ended.sup
    have notice (k : NoticeKind) : t.notice k = s.startNotices.notice k := by
      rw [State.notice, ended.notices, link]
      rfl
    have shaft : t.shaft .engineSpeed = u.shaft .engineSpeed := shaft_of_channels (frame.channels (by simp)) _
    have lineActive (l : LineId) : t.lineActive l = u.lineActive l := lineActive_of_lines (frame.lines (by simp)) l
    have drivelineT : t.driveline = u.driveline := frame.driveline (by simp)
    refine ⟨t, run', ?_, ?_, ?_, fun off => ?_, fun on => ?_, (frame.clock (by simp)).trans clock, fun i => ?_, fun l => ?_, ?_, ?_, ?_, ?_,
      ?_, ?_, ?_, ?_, ?_, ?_, (frame.fitment (by simp)).trans fitment, ended.tally.trans tally, ended.scrub.trans scrub, fun n h => ?_,
      fun n h => ?_, fun k a b => (notice k).trans (others k a b), fun on => (notice _).trans (unset on), ?_,
      (frame.table (by simp)).trans table, (frame.book (by simp)).trans book, (frame.store (by simp)).trans store⟩
    · rw [report, sup]
    · rw [delay, sup]
    · rw [unread, sup]
      exact read
    · obtain ⟨same, links⟩ := active off
      rw [same, links, link]
      refine ⟨?_, ?_, notices⟩
      · rw [supervise_sup, sup]
      · rw [supervise_sup, sup]
    · have held := enterHoldup_heldUp u
      rw [← warned on] at held
      obtain ⟨commit, checkpoint, repair⟩ := held.queue
      have free : u.freePlaces = s.freePlaces := by
        simp only [State.freePlaces, State.reserved, records, link]
        rw [notices]
      refine ⟨?_, ?_, ?_, fun room => ?_, commit, checkpoint, repair, fun idle empty none => ?_⟩
      · rw [held.sup]
      · rw [held.sup]
      · rw [held.link]
      · have intake : u.link.intake = s.link.intake := by rw [link, notices]
        rw [held.replies (by rw [free, intake]; exact room), link, notices]
        rfl
      · obtain ⟨flight, queue⟩ := clean none
        exact held.marks (flight.trans idle) (by rw [queue]; exact empty) (dirty.trans none)
    · rw [frame.channels (by simp), channels, started_eq]
    · rw [frame.lines (by simp), lines]
      rfl
    · rw [frame.run (by simp), run, shaft]
      rfl
    · rw [drivelineT, driveline]
    · rw [drivelineT, driveline]
    · rw [drivelineT, driveline]
      rfl
    · rw [drivelineT, driveline]
      rfl
    · rw [drivelineT, driveline]
      rfl
    · rw [drivelineT, driveline]
      rfl
    · rw [drivelineT, driveline]
      rfl
    · rw [drivelineT, driveline, lineActive]
    · rw [drivelineT, driveline, lineActive]
    · exact ended.holds n (h.elim (fun k => .inl ((holds n).2 (.inl k))) fun k => .inl ((holds n).2 (.inr k)))
    · rcases ended.held n h with k | k | ⟨k, warn⟩
      · exact ((holds n).1 k).imp_right .inl
      · exact .inr (.inl (dirty ▸ k))
      · exact .inr (.inr ⟨k, by rw [← pins]; exact warn⟩)
    · rw [notice, recovery, notable_iff]

end Sys2Proof.Machine
end

-- ==== Start-up, the run of the book (O58) ====
section
/-! SUPPORT. What the lines of a record's place tell (R131, R132, R175), and the run of a whole book and of a blank one. -/

namespace Sys2Proof.Machine

section
variable {st : Store} {q : Nat}

/-! ## The lines of a record -/

theorem headerLine_placeOf (q : Nat) : headerLine (placeOf q) = 82 + 4 * (q % 24) := rfl

theorem incrementsIntact_eq (k : Fin 3) : incrementsIntact st q k = (readIncrements st q k).isSome := by
  have line : headerLine (placeOf q) + 1 + k.val = 83 + 4 * (q % 24) + k.val := by rw [headerLine_placeOf]; omega
  unfold incrementsIntact readIncrements
  rw [line]
  dsimp only
  by_cases lost : (storeGet st (83 + 4 * (q % 24) + k.val)).outcome = .uncorrectable
  · simp [readLine_of_lost lost, lost]
  · rw [readLine_of_read lost]
    cases (storeGet st (83 + 4 * (q % 24) + k.val)).image with
    | increments x =>
      simp only [lost, not_false_eq_true, decide_true, Bool.true_and, ne_eq]
      cases seq : decide (x.seq = some q) <;> cases entries : entriesOk k x.entries <;> simp_all
    | _ => simp

theorem incrementsKept_eq (k : Fin 3) : incrementsKept st q k = (readIncrements st q k).getD [] := by
  unfold incrementsKept
  rw [incrementsIntact_eq]
  have line : headerLine (placeOf q) + 1 + k.val = 83 + 4 * (q % 24) + k.val := by rw [headerLine_placeOf]; omega
  cases kept : readIncrements st q k with
  | none => rfl
  | some es =>
    rw [if_pos (show (some es).isSome = true from rfl)]
    unfold readIncrements at kept
    rw [line] at kept
    by_cases lost : (storeGet st (83 + 4 * (q % 24) + k.val)).outcome = .uncorrectable
    · rw [readLine_of_lost lost] at kept
      exact nomatch kept
    · rw [readLine_of_read lost] at kept
      cases image : (storeGet st (83 + 4 * (q % 24) + k.val)).image with
      | increments x =>
        rw [image] at kept
        exact (Option.ite_none_right_eq_some.1 kept).2 |> Option.some.inj
      | _ => rw [image] at kept; exact nomatch kept

theorem readRecord_any : (readRecord st q).toList.any Option.isNone = !linesIntact st q := by
  rw [Bool.eq_iff_iff, Bool.not_eq_true', ← Bool.not_eq_true, List.any_eq_true]
  unfold linesIntact
  rw [List.all_eq_true]
  simp only [incrementsIntact_eq, List.mem_finRange, true_implies]
  rw [not_forall]
  constructor
  · rintro ⟨x, mem, none⟩
    obtain ⟨k, hk, rfl⟩ := Vector.mem_iff_getElem.1 (Vector.mem_toList_iff.1 mem)
    refine ⟨⟨k, hk⟩, ?_⟩
    rw [readRecord, tabulate_getElem] at none
    simpa using none
  · rintro ⟨k, bad⟩
    refine ⟨(readRecord st q)[k], Vector.mem_toList_iff.2 (Vector.getElem_mem _), ?_⟩
    rw [readRecord, tabulate_get]
    simpa using bad

/-- A number a record can have (R131). -/
def bookNumber (q : Nat) : Prop := 1 ≤ q ∧ q ≤ Config.max32

/-- A header that the line of its place gives (R131, R175). -/
theorem readPlace_of_header {h : Header} (read : (storeGet st (headerLine (placeOf q))).outcome ≠ .uncorrectable)
    (image : (storeGet st (headerLine (placeOf q))).image = .header h) (number : bookNumber q) (seq : h.seq = q)
    (complete : h.state ≠ .damaged → h.info ≠ none) : readPlace st (placeOf q) = .valid h := by
  unfold readPlace
  rw [readLine_of_read read, image]
  refine if_pos ⟨seq ▸ number.1, seq ▸ number.2, congrArg placeOf seq, ?_⟩
  rw [Header.complete, Bool.or_eq_true, decide_eq_true_eq, Option.isSome_iff_ne_none]
  exact or_iff_not_imp_left.2 complete

/-- The header that the header line gives a record of the run. -/
theorem headerKept_eq (number : bookNumber q) (own : readPlace st (placeOf q) = .damaged ∨ ∃ h, readPlace st (placeOf q) = .valid h ∧ h.seq = q) :
    headerKept st q = storedHeader st q := by
  unfold headerKept storedHeader
  rw [← headerLine_placeOf]
  dsimp only
  by_cases lost : (storeGet st (headerLine (placeOf q))).outcome = .uncorrectable
  · rw [if_pos lost, readPlace, readLine_of_lost lost]
  · rw [if_neg lost]
    rcases own with damaged | ⟨h, valid, seq⟩
    · rw [damaged]
      cases image : (storeGet st (headerLine (placeOf q))).image with
      | header h =>
        dsimp only
        refine if_neg fun ⟨seq, complete⟩ => ?_
        exact nomatch damaged.symm.trans (readPlace_of_header lost image number seq complete)
      | _ => rfl
    · obtain ⟨⟨-, -, -, complete⟩, read⟩ := readPlace_valid valid
      rw [readLine_of_read lost, Option.some.injEq] at read
      rw [valid, read]
      dsimp only
      refine if_pos ⟨seq, fun whole => ?_⟩
      rw [Header.complete, Bool.or_eq_true, decide_eq_true_eq, Option.isSome_iff_ne_none] at complete
      exact complete.resolve_left whole

end

/-! ## The run of a blank book and of a whole one (R175) -/

section
variable {st : Store}

theorem readPlace_of_blank {p : Fin 24} (read : (storeGet st (headerLine p)).outcome ≠ .uncorrectable)
    (blank : (storeGet st (headerLine p)).image = .blank) : readPlace st p = .free := by
  rw [readPlace, readLine_of_read read, blank]

theorem highest_of_free {reads : Vector PlaceRead 24} (free : ∀ p : Fin 24, reads[p] = .free) : highest reads = none := by
  unfold highest
  refine List.foldlRecOn (motive := (· = none)) _ _ rfl fun m none r mem => ?_
  obtain ⟨k, hk, rfl⟩ := Vector.mem_iff_getElem.1 (Vector.mem_toList_iff.1 mem)
  rw [none, show reads[k] = .free from free ⟨k, hk⟩]

theorem usableBounds_le {o n : Nat} (bounds : usableBounds st = some (o, n)) : o ≤ n := by
  unfold usableBounds at bounds
  split at bounds
  · split at bounds
    · rename_i usable
      simp only [Option.some.injEq, Prod.mk.injEq] at bounds
      omega
    · exact nomatch bounds
  · exact nomatch bounds

theorem not_allDamaged {reads : Vector PlaceRead 24} {lo len : Nat} (some : 0 < len) (first : reads[placeOf lo] ≠ .damaged) :
    allDamaged reads lo len = false := by
  rw [← Bool.not_eq_true]
  unfold allDamaged
  rw [Bool.and_eq_true, List.all_eq_true]
  exact fun ⟨_, all⟩ => first (of_decide_eq_true (all 0 (List.mem_range.2 (by omega))))

/-- Blank header lines give no run. -/
theorem bookRun_of_blank (blank : ∀ p : Fin 24, readPlace st p = .free) : bookRun st = [] := by
  have free : ∀ p : Fin 24, (placeReads st)[p] = .free := fun p => by rw [placeReads, tabulate_get, blank]
  have none : topOf (placeReads st) (usableBounds st) = none := by
    unfold topOf
    rw [highest_of_free free]
    cases bounds : usableBounds st with
    | none => rfl
    | some x =>
      obtain ⟨o, n⟩ := x
      have := usableBounds_le bounds
      refine if_neg ?_
      rw [not_allDamaged (by omega) (by rw [free]; decide)]
      decide
  unfold bookRun
  dsimp only
  rw [show topOf (tabulate 24 (readPlace st)) (usableBounds st) = Option.none from none]

/-- The highest number, where one place has it and none has a higher. -/
theorem highest_eq {reads : Vector PlaceRead 24} {n : Nat} {p : Fin 24} {h : Header} (top : reads[p] = .valid h) (seq : h.seq = n)
    (below : ∀ (k : Fin 24) (g : Header), reads[k] = .valid g → g.seq ≤ n) : highest reads = some n := by
  have bound (rs : List PlaceRead) (m : Option Nat) (le : ∀ a, m = some a → a ≤ n) (all : ∀ g, .valid g ∈ rs → g.seq ≤ n)
      (has : m = some n ∨ ∃ g, .valid g ∈ rs ∧ g.seq = n) :
      rs.foldl (fun m r => match r, m with
        | .valid h, none => some h.seq
        | .valid h, some n => some (max n h.seq)
        | _, m => m) m = some n := by
    induction rs generalizing m with
    | nil => exact has.resolve_right fun ⟨g, mem, _⟩ => nomatch mem
    | cons r rs ih =>
      have rest : ∀ g, .valid g ∈ rs → g.seq ≤ n := fun g mem => all g (List.mem_cons_of_mem r mem)
      rw [List.foldl_cons]
      cases r with
      | valid g =>
        have gn := all g List.mem_cons_self
        have next : m = some n ∨ g.seq = n ∨ ∃ g, .valid g ∈ rs ∧ g.seq = n := by
          rcases has with e | ⟨k, mem, e⟩
          · exact .inl e
          · rcases List.mem_cons.1 mem with same | mem
            · cases same
              exact .inr (.inl e)
            · exact .inr (.inr ⟨k, mem, e⟩)
        cases m with
        | none =>
          refine ih (some g.seq) (fun a e => Option.some.inj e ▸ gn) rest ?_
          rcases next with e | e | e
          · exact nomatch e
          · exact .inl (congrArg some e)
          · exact .inr e
        | some a =>
          have an := le a rfl
          refine ih (some (max a g.seq)) (fun b e => Option.some.inj e ▸ Nat.max_le.2 ⟨an, gn⟩) rest ?_
          rcases next with e | e | e
          · have := Option.some.inj e
            exact .inl (congrArg some (by omega))
          · exact .inl (congrArg some (by omega))
          · exact .inr e
      | free =>
        exact ih m le rest (has.imp_right fun ⟨g, mem, e⟩ => ⟨g, (List.mem_cons.1 mem).resolve_left (by simp), e⟩)
      | damaged =>
        exact ih m le rest (has.imp_right fun ⟨g, mem, e⟩ => ⟨g, (List.mem_cons.1 mem).resolve_left (by simp), e⟩)
  refine bound _ none (fun a e => nomatch e) (fun g mem => ?_) (.inr ⟨h, ?_, seq⟩)
  · obtain ⟨k, hk, e⟩ := Vector.mem_iff_getElem.1 (Vector.mem_toList_iff.1 mem)
    exact below ⟨k, hk⟩ g e
  · rw [← top]
    exact Vector.mem_toList_iff.2 (Vector.getElem_mem _)

/-- The run downward reaches as far as the places hold their numbers. -/
theorem runDown_of_valid {reads : Vector PlaceRead 24} (m room t : Nat) (inRoom : m ≤ room) (low : m ≤ t)
    (own : ∀ q, t - m < q → q ≤ t → ∃ h, reads[placeOf q] = .valid h ∧ h.seq = q) :
    ∃ rest, runDown reads room t = downFrom t m ++ rest := by
  induction m generalizing room t with
  | zero => exact ⟨_, rfl⟩
  | succ m ih =>
    obtain ⟨room, rfl⟩ : ∃ r, room = r + 1 := ⟨room - 1, by omega⟩
    obtain ⟨t, rfl⟩ : ∃ u, t = u + 1 := ⟨t - 1, by omega⟩
    obtain ⟨h, valid, seq⟩ := own (t + 1) (by omega) (Nat.le_refl _)
    obtain ⟨rest, run⟩ := ih room t (by omega) (by omega) fun q above le => own q (by omega) (by omega)
    refine ⟨rest, ?_⟩
    rw [runDown, valid]
    dsimp only
    rw [if_pos seq, run, downFrom_succ]
    rfl

theorem usableBounds_of_map {m : MapLine} {o n : Nat} (read : (storeGet st 5).outcome ≠ .uncorrectable)
    (image : (storeGet st 5).image = .map m) (bounds : m.bounds = some (o, n)) (le : o ≤ n) (short : n < o + 24) (max : n ≤ Config.max32) :
    usableBounds st = some (o, n) := by
  unfold usableBounds
  rw [readMap_of_map read image, Option.bind_some, bounds]
  exact if_pos ⟨le, short, max⟩

/-- A whole book with its bounds gives the run from the newest to the oldest (R175). -/
theorem bookRun_of_whole {o n : Nat} (bounds : usableBounds st = some (o, n)) (first : 1 ≤ o) (le : o ≤ n) (short : n < o + 24)
    (own : ∀ q, o ≤ q → q ≤ n → ∃ h, readPlace st (placeOf q) = .valid h ∧ h.seq = q)
    (free : ∀ p : Fin 24, (∀ q, o ≤ q → q ≤ n → placeOf q ≠ p) → readPlace st p = .free) :
    bookRun st = downFrom n (n + 1 - o) := by
  have reads (p : Fin 24) : (placeReads st)[p] = readPlace st p := tabulate_get ..
  have high : highest (placeReads st) = some n := by
    obtain ⟨h, valid, seq⟩ := own n le (Nat.le_refl _)
    refine highest_eq (p := placeOf n) (h := h) (by rw [reads, valid]) seq fun k g valid' => ?_
    rw [reads] at valid'
    by_contra past
    have away : ∀ q, o ≤ q → q ≤ n → placeOf q ≠ k := fun q low high same => by
      obtain ⟨h', valid'', seq'⟩ := own q low high
      rw [same, valid'] at valid''
      rw [PlaceRead.valid.inj valid''] at past
      omega
    exact nomatch valid'.symm.trans (free k away)
  have top : topOf (placeReads st) (usableBounds st) = some n := by
    unfold topOf
    rw [high, bounds]
    exact if_neg fun h => absurd h.1 (Nat.lt_irrefl n)
  obtain ⟨k, down, room, kn⟩ := runDown_eq (placeReads st) 24 n
  obtain ⟨rest, front⟩ := runDown_of_valid (reads := placeReads st) (n + 1 - o) 24 n (by omega) (by omega) fun q above qn => by
    rw [reads]
    exact own q (by omega) qn
  have long : n + 1 - o ≤ k := by
    have := congrArg List.length (down.symm.trans front)
    rw [List.length_append, downFrom_length, downFrom_length] at this
    omega
  have run : bookRun st = trimRun (placeReads st) (usableBounds st) (runDown (placeReads st) 24 n) := by
    unfold bookRun
    dsimp only
    rw [show topOf (tabulate 24 (readPlace st)) (usableBounds st) = some n from top]
    rfl
  rw [run, bounds, trimRun, down]
  exact (filter_downFrom kn o).trans (by rw [Nat.min_eq_right long])

end

end Sys2Proof.Machine
end

-- ==== Start-up rebuilds the book (O58) ====
section
/-! SUPPORT. Steps 8 and 9 rule by rule (R173, R175, R176), and O58. -/

namespace Sys2Proof.Machine

/-! ## The records of the run -/

section
variable {st : Store} {top q : Nat} {older : List Nat}

/-- A number of the run can be a record's, and its place is damaged or its own. -/
theorem run_own (run : bookRun st = top :: older) (mem : q ∈ bookRun st) : bookNumber q ∧
    (readPlace st (placeOf q) = .damaged ∨ ∃ h, readPlace st (placeOf q) = .valid h ∧ h.seq = q) := by
  obtain ⟨-, -, -, -, -, -, places⟩ := bookRun_spec st
  obtain ⟨short, low, max, -⟩ := run_numbers run
  have := (run_mem run q).1 mem
  exact ⟨⟨by omega, by omega⟩, places q mem⟩

theorem recordDamaged_eq : recordDamaged st q = ((storedHeader st q).isNone || !linesIntact st q) := by
  rw [recordDamaged, readRecord_any]

/-- A record is newly DAMAGED where its header line is damaged, or tells another state over a damaged increment line (R175). -/
theorem newlyDamaged_eq (kept : headerKept st q = storedHeader st q) : newlyDamaged st q = match headerKept st q with
    | some h => decide (h.state ≠ .damaged) && !linesIntact st q
    | none => true := by
  rw [newlyDamaged, recordDamaged_eq, storedDamaged, kept]
  cases storedHeader st q with
  | none => rfl
  | some h => cases linesIntact st q <;> simp

theorem rebuiltHeader_of_none (none : storedHeader st q = none) : rebuiltHeader st q = damagedHeader q Option.none := by
  rw [rebuiltHeader, none]

theorem rebuiltHeader_of_lines {h : Header} (stored : storedHeader st q = some h) :
    rebuiltHeader st q = if linesIntact st q = true then h else { h with state := .damaged, incomplete := true } := by
  rw [rebuiltHeader, stored]
  dsimp only
  rw [recordDamaged_eq, stored]
  cases linesIntact st q <;> rfl

/-- A record of the run is OPEN where its header line says so over intact increment lines (R175). -/
theorem rebuiltPlace_opens (kept : headerKept st q = storedHeader st q) : (rebuiltPlace st q).opens = match headerKept st q with
    | some h => decide (h.state = .opened) && linesIntact st q
    | none => false := by
  have opens : (rebuiltPlace st q).opens = decide ((rebuiltHeader st q).state = .opened) := rfl
  rw [opens, kept]
  cases stored : storedHeader st q with
  | none => rw [rebuiltHeader_of_none stored]; rfl
  | some h =>
    rw [rebuiltHeader_of_lines stored]
    cases linesIntact st q <;> simp

theorem recovered_lines (x : Place) : x.recovered.lines = x.lines := by
  unfold Place.recovered
  split <;> rfl

theorem recovered_of_not {x : Place} (shut : x.opens = false) : x.recovered = x := by
  rw [Place.recovered, shut]
  rfl

/-- The increment lines of a record of the run: an intact one's entries, none of a damaged one (R147, R175). -/
theorem rebuiltPlace_lines : (rebuiltPlace st q).lines = #v[
    { seq := some q, entries := incrementsKept st q 0 }, { seq := some q, entries := incrementsKept st q 1 },
    { seq := some q, entries := incrementsKept st q 2 }] := by
  simp only [incrementsKept_eq]
  rfl

/-! ## A record whose four lines are intact -/

section
variable {h : Header} {es : Fin 3 → List Entry} (stored : recordStored st q h es)
include stored

theorem recordStored_increments (k : Fin 3) : readIncrements st q k = some (es k) := by
  obtain ⟨-, -, -, -, lines⟩ := stored
  obtain ⟨read, image, good⟩ := lines k
  have line : headerLine (placeOf q) + 1 + k.val = 82 + 4 * (q % 24) + (k.val + 1) := by rw [headerLine_placeOf]; omega
  unfold readIncrements
  rw [line, readLine_of_read read, image]
  exact if_pos ⟨rfl, good⟩

theorem recordStored_linesIntact : linesIntact st q = true := by
  unfold linesIntact
  rw [List.all_eq_true]
  intro k _
  rw [incrementsIntact_eq, recordStored_increments stored]
  rfl

theorem recordStored_readPlace (number : bookNumber q) : readPlace st (placeOf q) = .valid h := by
  obtain ⟨read, image, seq, complete, -⟩ := stored
  exact readPlace_of_header (by rw [headerLine_placeOf]; exact read) (by rw [headerLine_placeOf]; exact image) number seq complete

theorem recordStored_header (number : bookNumber q) : storedHeader st q = some h := by
  rw [storedHeader, recordStored_readPlace stored number]

theorem recordStored_rebuilt (number : bookNumber q) : rebuiltPlace st q = { header := some h, lines := #v[
    { seq := some q, entries := es 0 }, { seq := some q, entries := es 1 }, { seq := some q, entries := es 2 }] } := by
  have header : rebuiltHeader st q = h := by
    rw [rebuiltHeader_of_lines (recordStored_header stored number), recordStored_linesIntact stored]
    rfl
  have lines := rebuiltPlace_lines (st := st) (q := q)
  simp only [incrementsKept_eq, recordStored_increments stored, Option.getD_some] at lines
  have whole : rebuiltPlace st q = { header := some (rebuiltHeader st q), lines := (rebuiltPlace st q).lines } := rfl
  rw [whole, header, lines]

theorem recordStored_standing (number : bookNumber q) :
    (recordDamaged st q || storedDamaged st q) = decide (h.state = .damaged) := by
  rw [recordDamaged_eq, storedDamaged, recordStored_header stored number, recordStored_linesIntact stored]
  simp

end

/-- A record with its header kept and its lines intact is stored whole. -/
theorem recordStored_of_intact {h : Header} (kept : headerKept st q = some h) (lines : linesIntact st q = true) :
    ∃ es, recordStored st q h es := by
  unfold headerKept at kept
  dsimp only at kept
  split at kept
  · exact nomatch kept
  · rename_i read
    split at kept
    · rename_i g image
      obtain ⟨⟨seq, complete⟩, same⟩ := Option.ite_none_right_eq_some.1 kept
      obtain rfl := Option.some.inj same
      refine ⟨fun k => incrementsKept st q k, read, image, seq, complete, fun k => ?_⟩
      have intact := List.all_eq_true.1 lines k (List.mem_finRange k)
      have line : 82 + 4 * (q % 24) + (k.val + 1) = 83 + 4 * (q % 24) + k.val := by omega
      dsimp only
      rw [line]
      unfold incrementsKept
      rw [if_pos intact]
      unfold incrementsIntact at intact
      dsimp only at intact
      rw [Bool.and_eq_true, decide_eq_true_eq] at intact
      obtain ⟨whole, shape⟩ := intact
      cases image' : (storeGet st (83 + 4 * (q % 24) + k.val)).image with
      | increments x =>
        rw [image'] at shape
        simp only [Bool.and_eq_true, decide_eq_true_eq] at shape
        obtain ⟨own, good⟩ := shape
        exact ⟨whole, by rw [← own], good⟩
      | _ => rw [image'] at shape; exact nomatch shape
    · exact nomatch kept

end

/-! ## The rules at the top (R176) -/

/-- Which rule R176 applies to the top, with the number and place of the record left OPEN and the opening reported. -/
inductive TopRule (st : Store) (top : Nat) (older : List Nat) : Nat → Place → RecoveryOpening → Prop
  | reset : (recordDamaged st top || storedDamaged st top) = true → TopRule st top older top (openedPlace (recoveryHeader top)) .reset
  | opened : (recordDamaged st top || storedDamaged st top) = false → (rebuiltHeader st top).state ≠ .closed →
      TopRule st top older top (rebuiltPlace st top) .absent
  | new : (recordDamaged st top || storedDamaged st top) = false → (rebuiltHeader st top).state = .closed →
      older.length + 1 < 24 ∧ top < Config.max32 → TopRule st top older (top + 1) (openedPlace (recoveryHeader (top + 1))) .new
  | reopen : (recordDamaged st top || storedDamaged st top) = false → (rebuiltHeader st top).state = .closed →
      ¬(older.length + 1 < 24 ∧ top < Config.max32) →
      TopRule st top older top { rebuiltPlace st top with header := some (rebuiltHeader st top).reopen } .reopen

theorem TopRule.number {st : Store} {top n : Nat} {older : List Nat} {x : Place} {o : RecoveryOpening}
    (rule : TopRule st top older n x o) : n = top ∨ n = top + 1 ∧ older.length + 1 < 24 := by
  cases rule with
  | new _ _ room => exact .inr ⟨rfl, room.1⟩
  | _ => exact .inl rfl

section
variable (s : State)

/-- The book settled, its open record given (R175, R176). -/
def openedBook (st : Store) (top : Nat) (older : List Nat) (n : Nat) (x : Place) : Book :=
  { settledBook st top older with newest := n, places := (settledBook st top older).places.set (placeOf n) x }

/-- Step 8 where a run can be formed, by the rule that applies to its top (R175, R176). -/
theorem startBook_top {top : Nat} {older : List Nat} (run : bookRun s.store = top :: older) (fresh : s.sup.report.opening = .absent) :
    ∃ (v : State) (n : Nat) (x : Place) (o : RecoveryOpening), TopRule s.store top older n x o ∧ s.startBook = v.startBounds ∧ v.book = openedBook s.store top older n x ∧
      v.store = s.store ∧ v.sup.report = { settledReport s.store older s.sup.report with opening := o } ∧
      (∀ m, m ∈ s.ctl.dirty ∨ m ∈ settledLines s.store older → m ∈ v.ctl.dirty) ∧
      (o = .new ∨ o = .reset → ∀ m ∈ placeLines (placeOf n), m ∈ v.ctl.dirty) := by
  obtain ⟨u, e, book, notes⟩ := startBook_of_run s run
  have header : u.book.places[placeOf top].header = some (rebuiltHeader s.store top) := by
    rw [book, settledBook, tabulate_get, settledPlace_top run]
    rfl
  have settled {ms : List Nat} {f : StartReport → StartReport} (ruled : u.Notes (u.recoverTop top) ms f) :
      ∀ m, m ∈ s.ctl.dirty ∨ m ∈ settledLines s.store older → m ∈ (u.recoverTop top).ctl.dirty :=
    fun m h => (ruled.dirty m).2 (.inl ((notes.dirty m).2 h))
  have same : (u.recoverTop top).store = s.store → recordDamaged u.store top = recordDamaged s.store top := fun _ => by rw [notes.store]
  cases damaged : recordDamaged s.store top || storedDamaged s.store top with
  | true =>
    obtain ⟨after, ruled⟩ := recoverTop_damaged u (t := top) (by rw [notes.store]; exact damaged)
    exact ⟨_, _, _, _, .reset damaged, e, by rw [after, book]; rfl, ruled.store.trans notes.store, by rw [ruled.report, notes.report],
      settled ruled, fun _ m mem => (ruled.dirty m).2 (.inr mem)⟩
  | false =>
    have intact : (recordDamaged u.store top || storedDamaged u.store top) = false := by rw [notes.store]; exact damaged
    by_cases closed : (rebuiltHeader s.store top).state = .closed
    · cases room : u.book.canOpen with
      | true =>
        obtain ⟨after, ruled⟩ := recoverTop_new intact header closed room
        exact ⟨_, _, _, _, .new damaged closed ((canOpen_settled run).1 (book ▸ room)), e, by rw [after, book]; rfl,
          ruled.store.trans notes.store, by rw [ruled.report, notes.report], settled ruled,
          fun _ m mem => (ruled.dirty m).2 (.inr (List.mem_append_left _ mem))⟩
      | false =>
        obtain ⟨after, ruled⟩ := recoverTop_reopen intact header closed room
        have full : ¬(older.length + 1 < 24 ∧ top < Config.max32) := fun k => by
          rw [book, (canOpen_settled run).2 k] at room
          exact nomatch room
        have place : u.book.places[placeOf top] = rebuiltPlace s.store top := by
          rw [book, settledBook, tabulate_get, settledPlace_top run]
        exact ⟨_, _, _, _, .reopen damaged closed full, e, by rw [after, place, book]; rfl, ruled.store.trans notes.store,
          by rw [ruled.report, notes.report], settled ruled, fun h => by simp at h⟩
    · have stays := recoverTop_opened intact header closed
      have unchanged : openedBook s.store top older top (rebuiltPlace s.store top) = settledBook s.store top older := by
        have same : (settledBook s.store top older).places.set (placeOf top) (rebuiltPlace s.store top) =
            (settledBook s.store top older).places := by
          rw [← settledPlace_top run, ← tabulate_get 24 (settledPlace s.store older) (placeOf top)]
          exact Vector.set_getElem_self _
        rw [openedBook, same]
        rfl
      rw [stays] at e
      refine ⟨u, _, _, _, .opened damaged closed, e, by rw [unchanged, book], notes.store, ?_, fun m h => (notes.dirty m).2 h,
        fun h => by simp at h⟩
      rw [notes.report, ← fresh]
      rfl

/-! ## The places of the opened book -/

section
variable {st : Store} {top n : Nat} {older : List Nat} {x : Place} {o : RecoveryOpening} (run : bookRun st = top :: older)
include run

theorem openedBook_older (rule : TopRule st top older n x o) {q : Nat} (mem : q ∈ older) :
    (openedBook st top older n x).places[placeOf q] = (rebuiltPlace st q).recovered ∧ placeOf q ≠ placeOf n := by
  obtain ⟨short, low, -, within⟩ := run_numbers run
  have := (within q).1 mem
  have apart : placeOf q ≠ placeOf n := by
    rcases rule.number with e | ⟨e, room⟩
    · exact fun h => by have := placeOf_inj (a := q) (b := n) (by omega) h; omega
    · exact fun h => by have := placeOf_inj (a := q) (b := n) (by omega) h; omega
  refine ⟨?_, apart⟩
  have ne : (placeOf n).val ≠ (placeOf q).val := fun h => apart (Fin.ext h.symm)
  show ((settledBook st top older).places.set (placeOf n) x)[placeOf q] = _
  refine (Vector.getElem_set_ne _ _ ne).trans ?_
  rw [← settledPlace_older run mem]
  exact tabulate_get ..

theorem openedBook_outside (rule : TopRule st top older n x o) {p : Fin 24}
    (out : ∀ q, (openedBook st top older n x).oldest ≤ q → q ≤ n → placeOf q ≠ p) :
    (openedBook st top older n x).places[p] = .free ∧ ∀ q ∈ bookRun st, placeOf q ≠ p := by
  obtain ⟨short, low, -, -⟩ := run_numbers run
  have le : top ≤ n := by rcases rule.number with e | e <;> omega
  have away : ∀ q ∈ bookRun st, placeOf q ≠ p := fun q mem => by
    obtain ⟨from_, to_⟩ := (run_mem run q).1 mem
    exact out q from_ (by omega)
  have ne : (placeOf n).val ≠ p.val := fun h => out n (by show top - older.length ≤ n; omega) (Nat.le_refl n) (Fin.ext h)
  refine ⟨?_, away⟩
  show ((settledBook st top older).places.set (placeOf n) x)[p] = _
  refine (Vector.getElem_set_ne _ _ ne).trans ?_
  rw [← settledPlace_outside run away]
  exact tabulate_get ..

theorem openedBook_top_of_new : (openedBook st top older (top + 1) x).places[placeOf top] = rebuiltPlace st top := by
  have ne : (placeOf (top + 1)).val ≠ (placeOf top).val := placeOf_ne (by omega)
  show ((settledBook st top older).places.set (placeOf (top + 1)) x)[placeOf top] = _
  refine (Vector.getElem_set_ne _ _ ne).trans ?_
  rw [← settledPlace_top run]
  exact tabulate_get ..

end

theorem openedBook_newest (st : Store) (top : Nat) (older : List Nat) (n : Nat) (x : Place) :
    (openedBook st top older n x).places[placeOf n] = x := Vector.getElem_set_self ..

/-! ## The last of steps 8 and 9 -/

/-- The book with the restart counted in its open record (R173). -/
def Book.counted (b : Book) (warned : Bool) : Book :=
  { b with places := b.places.set b.openPlace (b.places[b.openPlace].counted warned) }

/-- The line that the counting of a restart marks. -/
def countLines (b : Book) : List Nat := if b.places[b.openPlace].header.isSome then [headerLine b.openPlace] else []

theorem counted_place_self (b : Book) (w : Bool) : (b.counted w).places[b.openPlace] = b.places[b.openPlace].counted w :=
  Vector.getElem_set_self ..

theorem counted_place_ne (b : Book) (w : Bool) {p : Fin 24} (ne : p ≠ b.openPlace) : (b.counted w).places[p] = b.places[p] :=
  Vector.getElem_set_ne b.openPlace.isLt p.isLt fun h => ne (Fin.ext h.symm)

/-- The bounds are compared with the stored ones, and the restart is counted (R173, R176). -/
theorem boundsCount_spec : (s.startBounds.startCount).book = s.book.counted s.sup.report.markFound ∧
    ∃ lines, s.Notes s.startBounds.startCount lines id ∧
      (s.book.places[s.book.openPlace].header ≠ none → headerLine s.book.openPlace ∈ lines) ∧
      ((readMap s.store).bind (·.bounds) ≠ some (s.book.oldest, s.book.newest) → 5 ∈ lines) := by
  obtain ⟨book, notes⟩ := startCount_spec s.startBounds
  have bounds : s.Notes s.startBounds _ id := markIf_notes s _ 5
  have same : s.startBounds.book = s.book := (startBounds_frame s).book (by simp)
  have book' : s.startBounds.startCount.book = s.startBounds.book.counted s.startBounds.sup.report.markFound := book
  have notes' : s.startBounds.Notes s.startBounds.startCount (countLines s.startBounds.book) id := notes
  rw [same, bounds.report] at book'
  rw [same] at notes'
  refine ⟨book', _, bounds.trans notes', fun some => ?_, fun differ => ?_⟩
  · rw [countLines, Option.isSome_iff_ne_none.2 some]
    simp
  · rw [decide_eq_true differ]
    simp

end

end Sys2Proof.Machine
end

-- ==== O58 ====
section
/-! SUPPORT. The book of a recorder that has started up, and O58. -/

namespace Sys2Proof.Machine

/-! ## Before the book -/

/-- Steps 3 to 7 (R173, R102, R103, R174). -/
def State.beforeBook (c : State) : State := c.startMark.startSlots.startMap.startReconcile.startOrphans

theorem recoverState_eq (c : State) : c.recoverState = c.beforeBook.startBook.startCount := rfl

theorem beforeBook_spec (c : State) : c.beforeBook.store = c.store ∧
    c.beforeBook.sup.report.recordsDamaged = c.sup.report.recordsDamaged ∧
    c.beforeBook.sup.report.recoveryCloses = c.sup.report.recoveryCloses ∧ c.beforeBook.sup.report.opening = c.sup.report.opening ∧
    c.beforeBook.sup.report.markFound = markFound c.store := by
  have mark := startMark_notes c
  obtain ⟨-, -, lines₂, table, -⟩ := startTable_spec c.startMark
  obtain ⟨-, -, lines₃, restart, -⟩ := startOrphans_spec c.startMark.startSlots.startMap.startReconcile
  have all := (mark.trans table).trans restart
  refine ⟨all.store, ?_, ?_, ?_, ?_⟩ <;>
  · unfold State.beforeBook
    rw [all.report]
    rfl

/-- What the last steps make of the book that step 8 has formed. -/
structure State.Booked (s t v : State) : Prop where
  book : t.book = v.book.counted (markStored s.store)
  dirty : ∀ m ∈ v.ctl.dirty, m ∈ t.ctl.dirty
  report : t.sup.report = v.sup.report
  counted : v.book.places[v.book.openPlace].header ≠ none → headerLine v.book.openPlace ∈ t.ctl.dirty
  bounds : (readMap s.store).bind (·.bounds) ≠ some (v.book.oldest, v.book.newest) → 5 ∈ t.ctl.dirty

theorem booked_of {s c v : State} (before : c = s.withConfig.beforeBook) (formed : c.startBook = v.startBounds) (store : v.store = s.store)
    (mark : v.sup.report.markFound = markFound s.store) : s.Booked s.startUp v := by
  obtain ⟨book, lines, notes, counted, bounds⟩ := boundsCount_spec v
  rw [startUp_eq, recoverState_eq, ← before, formed]
  rw [mark, markFound_eq] at book
  rw [store] at bounds
  generalize v.startBounds.startCount = w at *
  exact {
    book := book
    dirty := fun m mem => (notes.dirty m).2 (.inl mem)
    report := notes.report
    counted := fun some => (notes.dirty _).2 (.inr (counted some))
    bounds := fun differ => (notes.dirty _).2 (.inr (bounds differ)) }

theorem withConfig_beforeBook (s : State) : s.withConfig.beforeBook.store = s.store ∧
    s.withConfig.beforeBook.sup.report.recordsDamaged = 0 ∧ s.withConfig.beforeBook.sup.report.recoveryCloses = 0 ∧
    s.withConfig.beforeBook.sup.report.opening = .absent ∧ s.withConfig.beforeBook.sup.report.markFound = markFound s.store := by
  have sup := (withConfig_configured s).sup
  have store := (withConfig_configured s).store
  have before := beforeBook_spec s.withConfig
  generalize s.withConfig = c at *
  rw [sup, store] at before
  exact before

/-- The lines of a place outside the run that are to be made blank (R175). -/
theorem mem_strayLines {st : Store} {p : Fin 24} {n : Nat} (mem : n ∈ placeLines p)
    (used : (storeGet st n).outcome = .uncorrectable ∨ (storeGet st n).image ≠ .blank) : n ∈ strayLines st p := by
  refine List.mem_filter.2 ⟨mem, decide_eq_true ?_⟩
  by_cases lost : (storeGet st n).outcome = .uncorrectable
  · rw [readLine_of_lost lost]
    exact fun h => nomatch h
  · rw [readLine_of_read lost]
    exact fun h => used.resolve_left lost (Option.some.inj h)

theorem mem_outsideLines {st : Store} {run : List Nat} {p : Fin 24} {n : Nat} (out : ∀ q ∈ run, placeOf q ≠ p) (mem : n ∈ placeLines p)
    (used : (storeGet st n).outcome = .uncorrectable ∨ (storeGet st n).image ≠ .blank) :
    n ∈ (List.finRange 24).flatMap (outsideLines st run) := by
  refine List.mem_flatMap.2 ⟨p, List.mem_finRange p, ?_⟩
  have none : run.find? (fun q => decide (placeOf q = p)) = none :=
    List.find?_eq_none.2 fun q hq => by simpa using out q hq
  rw [outsideLines, none]
  exact mem_strayLines mem used

/-- The bounds differ from the stored ones, where line 5 is lost or stores others. -/
theorem bounds_differ {st : Store} {b : Nat × Nat} (differ : ∀ m, ¬(storeGet st 5).outcome = .uncorrectable →
    (storeGet st 5).image = .map m → m.bounds ≠ some b) : (readMap st).bind (·.bounds) ≠ some b := by
  by_cases lost : (storeGet st 5).outcome = .uncorrectable
  · rw [readMap_of_lost lost]
    exact fun h => nomatch h
  · cases image : (storeGet st 5).image with
    | blank =>
      rw [readMap_of_blank lost image]
      exact fun h => nomatch h
    | map m =>
      rw [readMap_of_map lost image]
      exact differ m lost image
    | _ =>
      rw [readMap_of_other (by simp [image]) (by simp [image])]
      exact fun h => nomatch h

/-- The book that steps 8 and 9 leave, with what they mark and report: the fresh book, or that of the rule at the top (R175, R176). -/
structure State.Formed (s t v : State) : Prop extends s.Booked t v where
  header : v.book.places[v.book.openPlace].header ≠ none
  outside : ∀ p : Fin 24, (∀ q, v.book.oldest ≤ q → q ≤ v.book.newest → placeOf q ≠ p) → v.book.places[p] = .free ∧
    ∀ n ∈ placeLines p, (storeGet s.store n).outcome = .uncorrectable ∨ (storeGet s.store n).image ≠ .blank → n ∈ t.ctl.dirty
  opened : v.sup.report.opening = .cleared ∨ v.sup.report.opening = .new ∨ v.sup.report.opening = .reset →
    ∀ n ∈ placeLines (placeOf v.book.newest), n ∈ t.ctl.dirty
  damaged : v.sup.report.recordsDamaged = ((bookRun s.store).tail.filter (newlyDamaged s.store)).length
  closed : v.sup.report.recoveryCloses = ((bookRun s.store).tail.filter fun q => (rebuiltPlace s.store q).opens).length
  fresh : bookRun s.store = [] → v.sup.report.opening = .cleared ∧ v.book.oldest = 1 ∧ v.book.newest = 1 ∧
    v.book.places[placeOf 1] = openedPlace (openedHeader 1 .idle none 0 .cleared none)
  ruled : ∀ top older, bookRun s.store = top :: older → ∃ n x, TopRule s.store top older n x v.sup.report.opening ∧
    v.book = openedBook s.store top older n x ∧ ∀ m ∈ settledLines s.store older, m ∈ t.ctl.dirty

theorem formed_of_empty {s : State} (run : bookRun s.store = []) : ∃ v, s.Formed s.startUp v := by
  obtain ⟨c, before⟩ : ∃ c, c = s.withConfig.beforeBook := ⟨_, rfl⟩
  obtain ⟨store, noneDamaged, noneClosed, -, found⟩ := withConfig_beforeBook s
  rw [← before] at store noneDamaged noneClosed found
  have formed := startBook_of_empty c (by rw [store]; exact run)
  obtain ⟨placed, placing⟩ := startPlaces_spec c (bookRun c.store)
  obtain ⟨book, opening⟩ := recoverEmpty_spec c.placed
  have notes : c.Notes c.placed.recoverEmpty _ _ := placing.trans opening
  have placed' : c.placed.book = _ := placed
  rw [placed'] at book
  rw [store] at notes book
  have booked := booked_of before formed (notes.store.trans store) (by rw [notes.report]; exact found)
  generalize c.placed.recoverEmpty = v at *
  generalize s.startUp = t at *
  have newest : v.book.newest = 1 := by rw [book]
  have oldest : v.book.oldest = 1 := by rw [book]
  have first : v.book.places[placeOf 1] = openedPlace (openedHeader 1 .idle none 0 .cleared none) := by
    rw [book]
    exact Vector.getElem_set_self ..
  have at_ : v.book.openPlace = placeOf 1 := congrArg placeOf newest
  have cleared : v.sup.report.opening = .cleared := by rw [notes.report]; rfl
  refine ⟨v, { booked with
    header := by simp only [at_, first]; exact fun h => nomatch h
    outside := fun p out => ?_
    opened := fun _ n mem => booked.dirty n ((notes.dirty n).2 (.inr ?_))
    damaged := by rw [notes.report, run]; exact noneDamaged
    closed := by rw [notes.report, run]; exact noneClosed
    fresh := fun _ => ⟨cleared, oldest, newest, first⟩
    ruled := fun top older cons => nomatch run.symm.trans cons }⟩
  · have away : ∀ q ∈ bookRun s.store, placeOf q ≠ p := by rw [run]; exact fun q h => nomatch h
    refine ⟨?_, fun n mem used => booked.dirty n ((notes.dirty n).2 (.inr ?_))⟩
    · have ne : (placeOf 1).val ≠ p.val := fun e => out 1 (by rw [oldest]) (by rw [newest]) (Fin.ext e)
      rw [book]
      refine (Vector.getElem_set_ne (placeOf 1).isLt p.isLt ne).trans ?_
      exact (tabulate_get ..).trans (startedPlace_of_not away)
    · exact List.mem_append_left _ (mem_outsideLines away mem used)
  · rw [newest] at mem
    exact List.mem_append_right _ (List.mem_append_left _ mem)

theorem formed_of_run {s : State} {top : Nat} {older : List Nat} (run : bookRun s.store = top :: older) : ∃ v, s.Formed s.startUp v := by
  obtain ⟨c, before⟩ : ∃ c, c = s.withConfig.beforeBook := ⟨_, rfl⟩
  obtain ⟨store, noneDamaged, noneClosed, fresh, found⟩ := withConfig_beforeBook s
  rw [← before] at store noneDamaged noneClosed fresh found
  obtain ⟨v, n, x, o, rule, formed, book, vstore, report, settled, opened⟩ :=
    startBook_top c (by rw [store]; exact run) fresh
  rw [store] at rule book report settled vstore
  have booked := booked_of before formed vstore (by rw [report]; exact found)
  have opening : v.sup.report.opening = o := by rw [report]
  generalize s.startUp = t at *
  have newest : v.book.newest = n := by rw [book]; rfl
  have at_ : v.book.openPlace = placeOf n := congrArg placeOf newest
  have header : x.header ≠ none := by cases rule <;> exact fun h => nomatch h
  have last : v.book.places[placeOf n] = x := by rw [book]; exact openedBook_newest ..
  refine ⟨v, { booked with
    header := by simp only [at_, last]; exact header
    outside := fun p out => ?_
    opened := fun some m mem => ?_
    damaged := ?_
    closed := ?_
    fresh := fun none => nomatch none.symm.trans run
    ruled := fun top' older' cons => ?_ }⟩
  · rw [newest] at out
    have clear := openedBook_outside run rule (p := p) (by rw [← book]; exact out)
    refine ⟨by rw [book]; exact clear.1, fun m mem used => booked.dirty m (settled m (.inr ?_))⟩
    exact List.mem_append_left _ (List.mem_append_left _ (mem_outsideLines clear.2 mem used))
  · rw [opening] at some
    rw [newest] at mem
    refine booked.dirty m (opened (some.resolve_left fun cleared => ?_) m mem)
    rw [cleared] at rule
    exact nomatch rule
  · rw [report, run]
    show _ + (older.filter (newlyDamaged s.store)).length = _
    rw [noneDamaged, Nat.zero_add]
    rfl
  · rw [report, run]
    show _ + (older.filter fun q => (rebuiltPlace s.store q).opens).length = _
    rw [noneClosed, Nat.zero_add]
    rfl
  · obtain ⟨rfl, rfl⟩ := List.cons.inj (run.symm.trans cons)
    exact ⟨n, x, by rw [opening]; exact rule, book, fun m mem => booked.dirty m (settled m (.inr mem))⟩

theorem startUp_formed (s : State) : ∃ v, s.Formed s.startUp v := by
  cases run : bookRun s.store with
  | nil => exact formed_of_empty run
  | cons top older => exact formed_of_run run

/-! ## A record below the top (R175, rule 1 of R176) -/

section
variable {st : Store} {q : Nat}

theorem settledLines_mem {older : List Nat} (mem : q ∈ older) :
    (newlyDamaged st q = true → ∀ n ∈ placeLines (placeOf q), n ∈ settledLines st older) ∧
    ((rebuiltPlace st q).opens = true → headerLine (placeOf q) ∈ settledLines st older) := by
  refine ⟨fun damaged n line => List.mem_append_left _ (List.mem_append_right _ (List.mem_flatMap.2 ⟨q, mem, ?_⟩)),
    fun opens => List.mem_append_right _ (List.mem_flatMap.2 ⟨q, mem, ?_⟩)⟩
  · rw [if_pos damaged]
    exact line
  · rw [if_pos opens]
    exact List.mem_singleton_self _

theorem rebuiltHeader_of_stored {h : Header} {es : Fin 3 → List Entry} (stored : recordStored st q h es) (number : bookNumber q) :
    rebuiltHeader st q = h := by
  have place := congrArg Place.header (recordStored_rebuilt stored number)
  exact Option.some.inj place

theorem recovered_of_header {h : Header} (header : (rebuiltPlace st q).header = some h) (shut : h.state ≠ .opened) :
    (rebuiltPlace st q).recovered = rebuiltPlace st q := by
  refine recovered_of_not ?_
  rw [Place.opens, header]
  exact decide_eq_false shut

/-- A record below the top whose header line is damaged. -/
theorem recovered_of_lost (kept : headerKept st q = storedHeader st q) (none : headerKept st q = Option.none) :
    (rebuiltPlace st q).recovered.header = some (damagedHeader q Option.none) ∧ newlyDamaged st q = true := by
  have header : (rebuiltPlace st q).header = some (damagedHeader q Option.none) :=
    congrArg some (rebuiltHeader_of_none (kept.symm.trans none))
  refine ⟨?_, by rw [newlyDamaged_eq kept, none]⟩
  rw [recovered_of_header header (fun h => nomatch h)]
  exact header

/-- A record below the top with its header line kept over a damaged increment line. -/
theorem recovered_of_scarred {h : Header} (kept : headerKept st q = storedHeader st q) (some' : headerKept st q = some h)
    (scar : linesIntact st q = false) :
    (rebuiltPlace st q).recovered.header = some { h with state := .damaged, incomplete := true } ∧
    newlyDamaged st q = decide (h.state ≠ .damaged) := by
  have header : (rebuiltPlace st q).header = some { h with state := .damaged, incomplete := true } := by
    refine congrArg some ((rebuiltHeader_of_lines (kept.symm.trans some')).trans (if_neg ?_))
    rw [scar]
    exact fun h => nomatch h
  refine ⟨?_, ?_⟩
  · rw [recovered_of_header header (fun h => nomatch h)]
    exact header
  · rw [newlyDamaged_eq kept, some']
    dsimp only
    rw [scar]
    exact Bool.and_true _

/-- A record below the top that is stored whole: an OPEN one is closed. -/
theorem recovered_of_stored {h : Header} {es : Fin 3 → List Entry} (stored : recordStored st q h es) (number : bookNumber q) :
    (rebuiltPlace st q).recovered = { header := some (if h.state = .opened then h.close .recovery none else h), lines := #v[
      { seq := some q, entries := es 0 }, { seq := some q, entries := es 1 }, { seq := some q, entries := es 2 }] } ∧
    (rebuiltPlace st q).opens = decide (h.state = .opened) := by
  have place := recordStored_rebuilt stored number
  have opens : (rebuiltPlace st q).opens = decide (h.state = .opened) := by rw [place, Place.opens]
  refine ⟨?_, opens⟩
  rw [Place.recovered, opens, place]
  by_cases opened : h.state = .opened
  · rw [decide_eq_true opened, if_pos opened]
    rfl
  · rw [decide_eq_false opened, if_neg opened]
    rfl

theorem linesIntact_eq_false {k : Fin 3} (scar : incrementsIntact st q k = false) : linesIntact st q = false := by
  rw [linesIntact, List.all_eq_false]
  exact ⟨k, List.mem_finRange k, by rw [scar]; exact fun h => nomatch h⟩

end

/-! ## The record at the top (rules 2 to 4 of R176) -/

section
variable {st : Store} {top n : Nat} {older : List Nat} {x : Place} {o : RecoveryOpening}
variable (rule : TopRule st top older n x o)
include rule

theorem TopRule.of_damaged (damaged : (recordDamaged st top || storedDamaged st top) = true) :
    n = top ∧ x = openedPlace (recoveryHeader top) ∧ o = .reset := by
  cases rule with
  | reset => exact ⟨rfl, rfl, rfl⟩
  | opened intact | new intact | reopen intact => exact nomatch damaged.symm.trans intact

section
variable {h : Header} {es : Fin 3 → List Entry} (stored : recordStored st top h es) (number : bookNumber top)
include stored number

theorem TopRule.of_opened (opened : h.state = .opened) : n = top ∧ x = rebuiltPlace st top ∧ o = .absent := by
  have header := rebuiltHeader_of_stored stored number
  have standing := recordStored_standing stored number
  cases rule with
  | reset damaged => simp [damaged, opened] at standing
  | opened => exact ⟨rfl, rfl, rfl⟩
  | new _ closed | reopen _ closed => rw [header, opened] at closed; exact nomatch closed

theorem TopRule.of_closed (closed : h.state = .closed) :
    (older.length + 1 < 24 ∧ top < Config.max32 → n = top + 1 ∧ x = openedPlace (recoveryHeader (top + 1)) ∧ o = .new) ∧
    (¬(older.length + 1 < 24 ∧ top < Config.max32) →
      n = top ∧ x = { rebuiltPlace st top with header := some h.reopen } ∧ o = .reopen) := by
  have header := rebuiltHeader_of_stored stored number
  have standing := recordStored_standing stored number
  cases rule with
  | reset damaged => simp [damaged, closed] at standing
  | opened _ other => exact absurd (header ▸ closed) other
  | new _ _ room => exact ⟨fun _ => ⟨rfl, rfl, rfl⟩, fun full => absurd room full⟩
  | reopen _ _ full => exact ⟨fun room => absurd room full, fun _ => ⟨rfl, by rw [header], rfl⟩⟩

end

end

/-- A record that is not stored whole is damaged. -/
theorem recordDamaged_of_not {st : Store} {q : Nat} (kept : headerKept st q = storedHeader st q)
    (none : ∀ h es, ¬recordStored st q h es) : recordDamaged st q = true := by
  rw [recordDamaged_eq, ← kept]
  cases header : headerKept st q with
  | none => rfl
  | some h =>
    cases lines : linesIntact st q with
    | true =>
      obtain ⟨es, stored⟩ := recordStored_of_intact header lines
      exact absurd stored (none h es)
    | false => rfl

/-- Settles O58: the run of R175, the rules of R176 and the restart count. -/
theorem startUpRebuildsBook : Obligations.StartUpRebuildsBook := by
  unfold Obligations.StartUpRebuildsBook
  intro s empty live power unread run lost restarted counted idle lines place
  refine ⟨fun blank => bookRun_of_blank fun p => readPlace_of_blank (blank p).1 (blank p).2,
    fun m o n read image bounds first le short max whole outside => ?_, s.startUp, step_of_starting empty live power unread, ?_⟩
  · refine bookRun_of_whole (usableBounds_of_map read image bounds le short max) first le short (fun q low high => ?_) fun p out => ?_
    · obtain ⟨h, es, stored⟩ := whole q low high
      exact ⟨h, recordStored_readPlace stored ⟨by omega, high.trans max⟩, stored.2.2.1⟩
    · obtain ⟨read, blank⟩ := outside p fun q low high same => out q low high (Fin.ext same)
      exact readPlace_of_blank read blank
  · have h := startUp_readUp s
    obtain ⟨v, formed⟩ := startUp_formed s
    generalize s.startUp = t at *
    have counting (q : Nat) (reason : OpenReason) :
        (openedPlace (openedHeader q .idle none 0 reason none)).counted (markStored s.store) = idle q reason := rfl
    have newest : t.book.newest = v.book.newest := by rw [formed.book]; rfl
    have oldest : t.book.oldest = v.book.oldest := by rw [formed.book]; rfl
    have open_ : t.book.places[v.book.openPlace] = v.book.places[v.book.openPlace].counted (markStored s.store) := by
      rw [formed.book]
      exact counted_place_self ..
    have other {p : Fin 24} (ne : p ≠ v.book.openPlace) : t.book.places[p] = v.book.places[p] := by
      rw [formed.book]
      exact counted_place_ne v.book _ ne
    have kept {q : Nat} (mem : q ∈ run) : headerKept s.store q = storedHeader s.store q := by
      cases isRun : bookRun s.store with
      | nil => rw [show run = [] from isRun] at mem; exact nomatch mem
      | cons top older =>
        obtain ⟨number, own⟩ := run_own isRun mem
        exact headerKept_eq number own
    refine ⟨by rw [h.sup], by rw [h.report]; exact markFound_eq _, fun found => h.marked (by rw [markFound_eq]; exact found), ?_,
      fun differ => formed.bounds ?_, fun some n mem => ?_, fun p out => ?_, ?_, ?_, fun none => ?_, fun top older isRun => ?_⟩
    · rw [newest]
      exact formed.counted formed.header
    · rw [← newest, ← oldest]
      exact bounds_differ differ
    · rw [formed.report] at some
      rw [newest] at mem
      exact formed.opened some n mem
    · rw [newest, oldest] at out
      obtain ⟨free, marks⟩ := formed.outside p fun q low high same => out q low high (congrArg Fin.val same)
      refine ⟨(other fun same => ?_).trans free, marks⟩
      have := formed.header
      simp only [← same, free] at this
      exact this rfl
    · rw [formed.report, formed.damaged]
      exact congrArg List.length (List.filter_congr fun q mem => newlyDamaged_eq (kept (List.mem_of_mem_tail mem)))
    · rw [formed.report, formed.closed]
      exact congrArg List.length (List.filter_congr fun q mem => rebuiltPlace_opens (kept (List.mem_of_mem_tail mem)))
    · obtain ⟨opening, first, last, place⟩ := formed.fresh none
      refine ⟨oldest.trans first, newest.trans last, ?_, by rw [formed.report, opening]⟩
      have at_ : v.book.openPlace = placeOf 1 := congrArg placeOf last
      simp only [at_, place] at open_
      exact open_.trans (counting 1 .cleared)
    · obtain ⟨n, x, rule, book, settled⟩ := formed.ruled top older isRun
      have newest' : v.book.newest = n := by rw [book]; rfl
      have at_ : v.book.openPlace = placeOf n := congrArg placeOf newest'
      have vlast : v.book.places[placeOf n] = x := by rw [book]; exact openedBook_newest ..
      have last : t.book.places[placeOf n] = x.counted (markStored s.store) := by
        simp only [at_] at open_
        exact open_.trans (congrArg (Place.counted · _) vlast)
      have mem_top : top ∈ run := by rw [show run = _ from isRun]; exact List.mem_cons_self
      have number : bookNumber top := (run_own isRun mem_top).1
      have fresh' (e : n = top ∧ x = openedPlace (recoveryHeader top) ∧ v.sup.report.opening = .reset) : t.book.newest = top ∧
          t.book.places[placeOf top] = idle top .recovery ∧ t.sup.report.opening = .reset := by
        obtain ⟨rfl, rfl, reset⟩ := e
        exact ⟨newest.trans newest', last.trans (counting _ .recovery), by rw [formed.report]; exact reset⟩
      refine ⟨by rw [oldest, book]; rfl, fun q mem => ?_, fun h es stored => ⟨fun opened => ?_, fun closed short room => ?_,
        fun closed full => ?_, fun damaged => ?_⟩, fun none => ?_⟩
      · have mem_run : q ∈ run := by rw [show run = _ from isRun]; exact List.mem_cons_of_mem _ mem
        obtain ⟨place', apart⟩ := openedBook_older isRun rule mem
        have now : t.book.places[placeOf q] = (rebuiltPlace s.store q).recovered := by
          rw [other (by rw [at_]; exact apart), book]
          exact place'
        obtain ⟨damagedLines, openLine⟩ := settledLines_mem (st := s.store) mem
        dsimp only
        rw [now]
        refine ⟨(recovered_lines _).trans rebuiltPlace_lines, fun none => ?_, fun h some ⟨k, scar⟩ => ?_, fun h es stored => ?_⟩
        · obtain ⟨header, newly⟩ := recovered_of_lost (kept mem_run) none
          exact ⟨header, fun m line => settled m (damagedLines newly m line)⟩
        · obtain ⟨header, newly⟩ := recovered_of_scarred (kept mem_run) some (linesIntact_eq_false scar)
          exact ⟨header, fun old m line => settled m (damagedLines (newly.trans (decide_eq_true old)) m line)⟩
        · obtain ⟨whole, opens⟩ := recovered_of_stored stored (run_own isRun mem_run).1
          refine ⟨whole, fun opened => ?_⟩
          rw [← headerLine_placeOf]
          exact settled _ (openLine (opens.trans (decide_eq_true opened)))
      · obtain ⟨rfl, rfl, opening⟩ := rule.of_opened stored number opened
        rw [recordStored_rebuilt stored number] at last
        exact ⟨newest.trans newest', last, by rw [formed.report]; exact opening⟩
      · obtain ⟨rfl, rfl, opening⟩ := (rule.of_closed stored number closed).1 ⟨short, room⟩
        refine ⟨newest.trans newest', ?_, last.trans (counting _ .recovery), by rw [formed.report]; exact opening⟩
        rw [other (by rw [at_]; exact fun e => placeOf_ne (by omega) (congrArg Fin.val e.symm)), book, openedBook_top_of_new isRun,
          recordStored_rebuilt stored number]
      · obtain ⟨rfl, rfl, opening⟩ := (rule.of_closed stored number closed).2 full
        rw [recordStored_rebuilt stored number] at last
        exact ⟨newest.trans newest', last, by rw [formed.report]; exact opening⟩
      · exact fresh' (rule.of_damaged ((recordStored_standing stored number).trans (decide_eq_true damaged)))
      · exact fresh' (rule.of_damaged (by rw [recordDamaged_of_not (kept mem_top) none]; rfl))

end Sys2Proof.Machine
end

-- ==== SET_GEAR_TABLE (O31) ====
section
/-! SET_GEAR_TABLE (04 R56, R57; R4, R128): the table a payload carries, and every holder of GEAR_SECONDS resized. -/

namespace Sys2Proof.Machine

/-! ## The table a payload carries (R55, R56) -/

theorem exec_setGearTable (s : State) (tag : Byte) (payload : List Byte) :
    exec (.setGearTable tag payload) s = .next (s.serve ⟨0x05, tag, payload⟩ setGearTableMeaning) := rfl

theorem setGearTableMeaning_eq {p : List Byte} (len : p.length = 3 + 4 * field p 2 1) (s : State) :
    setGearTableMeaning p s = gearTableChecked p s := if_pos len

theorem exists_directionOfCode (n : Nat) : (∃ d, Direction.ofCode n = some d) ↔ n ≤ 1 :=
  (exists_getElem?_iff ..).trans Nat.lt_succ_iff

/-- The values of entry k in a payload lie within R55. -/
def gearEntryInRange (p : List Byte) (k : Nat) : Prop :=
  500 ≤ field p (3 + 4 * k) 2 ∧ field p (3 + 4 * k) 2 ≤ 20000 ∧ 5 ≤ field p (5 + 4 * k) 1 ∧ field p (5 + 4 * k) 1 ≤ 200 ∧
    field p (6 + 4 * k) 1 ≤ 1

theorem gearEntry_ok_iff (e : GearEntry) : e.ok = true ↔ 500 ≤ e.ratio ∧ e.ratio ≤ 20000 ∧ 5 ≤ e.tolerance ∧ e.tolerance ≤ 200 := by
  rw [GearEntry.ok, Bool.and_eq_true, within_iff, within_iff, and_assoc]

theorem readGearEntry_inRange {p : List Byte} {k : Nat} (read : readGearEntry p k ≠ none) : gearEntryInRange p k := by
  have tolerance : 3 + 4 * k + 2 = 5 + 4 * k := by omega
  have direction : 3 + 4 * k + 3 = 6 + 4 * k := by omega
  unfold readGearEntry at read
  rw [tolerance, direction] at read
  cases code : Direction.ofCode (field p (6 + 4 * k) 1) with
  | none => rw [code] at read; exact absurd rfl read
  | some d =>
    rw [code] at read
    dsimp only at read
    split at read
    · rename_i ok
      obtain ⟨low, high, low', high'⟩ := (gearEntry_ok_iff _).1 ok
      exact ⟨low, high, low', high', (exists_directionOfCode _).1 ⟨d, code⟩⟩
    · exact absurd rfl read

theorem readGearEntry_eq {p : List Byte} {k : Nat} {e : GearEntry} (ok : e.ok = true) (ratio : field p (3 + 4 * k) 2 = e.ratio)
    (tolerance : field p (5 + 4 * k) 1 = e.tolerance) (direction : Direction.ofCode (field p (6 + 4 * k) 1) = some e.direction) :
    readGearEntry p k = some e := by
  have second : 3 + 4 * k + 2 = 5 + 4 * k := by omega
  have third : 3 + 4 * k + 3 = 6 + 4 * k := by omega
  rw [readGearEntry, second, third, direction, ratio, tolerance]
  exact if_pos ok

/-- A payload with a value outside R55 carries no table. -/
theorem readGearTable_eq_none {p : List Byte} (bad : ¬(field p 2 1 ≤ 12 ∧ 50 ≤ field p 0 2 ∧ field p 0 2 ≤ 2000 ∧
    ∀ k, k < field p 2 1 → gearEntryInRange p k)) : readGearTable p = none := by
  unfold readGearTable
  split
  · rename_i head
    obtain ⟨low, high⟩ := (within_iff ..).1 head.2
    cases entries : allSome ((List.range (field p 2 1)).map (readGearEntry p)) with
    | none => rfl
    | some es =>
      refine absurd ⟨head.1, low, high, fun k lt => readGearEntry_inRange ?_⟩ bad
      exact allSome_isSome entries _ (List.mem_map.2 ⟨k, List.mem_range.2 lt, rfl⟩)
  · rfl

/-- A payload whose fields are those of a table within R55 carries that table. -/
theorem readGearTable_eq {p : List Byte} {x : GearTable} (settle : field p 0 2 = x.settle) (count : field p 2 1 = x.entries.length)
    (entry : ∀ (k : Nat) (h : k < x.entries.length), field p (3 + 4 * k) 2 = x.entries[k].ratio ∧
      field p (5 + 4 * k) 1 = x.entries[k].tolerance ∧ Direction.ofCode (field p (6 + 4 * k) 1) = some x.entries[k].direction)
    (short : x.entries.length ≤ 12) (low : 50 ≤ x.settle) (high : x.settle ≤ 2000) (ok : ∀ e ∈ x.entries, e.ok = true) :
    readGearTable p = some x := by
  have entries : allSome ((List.range x.entries.length).map (readGearEntry p)) = some x.entries := by
    refine allSome_map fun k lt => ?_
    obtain ⟨ratio, tolerance, direction⟩ := entry k lt
    exact readGearEntry_eq (ok _ (List.getElem_mem lt)) ratio tolerance direction
  rw [readGearTable, settle, count, entries]
  exact if_pos ⟨short, (within_iff ..).2 ⟨low, high⟩⟩

/-- Windows of one direction that share no value (R56). -/
theorem not_anyOverlap_iff (es : List GearEntry) : anyOverlap es = false ↔
    es.Pairwise fun a b => a.direction = b.direction → a.upper < b.lower ∨ b.upper < a.lower := by
  induction es with
  | nil => simp [anyOverlap]
  | cons e es ih =>
    rw [anyOverlap, Bool.or_eq_false_iff, ih, List.pairwise_cons, List.any_eq_false]
    refine and_congr_left fun _ => forall₂_congr fun a _ => ?_
    simp only [GearEntry.overlaps, Bool.and_eq_true, decide_eq_true_eq, not_and, Nat.not_le]
    refine ⟨fun h same => ?_, fun h ⟨same, low⟩ => (h same).resolve_right (Nat.not_lt.2 low)⟩
    by_cases low : e.lower ≤ a.upper
    · exact .inl (h ⟨same, low⟩)
    · exact .inr (Nat.not_le.1 low)

/-! ## The holders of GEAR_SECONDS (R57, R128) -/

section
variable (s : State) (n : Nat)

theorem gearSlot_of_none (free : s.table.map[Position.gearbox.index] = none) : s.gearSlot = none := by
  unfold State.gearSlot
  rw [free]

theorem gearSlot_of_fitted {i : Fin 20} (named : s.table.map[Position.gearbox.index] = some i)
    (fitted : s.table.slots[i].ident.state = .fitted) : s.gearSlot = some i := by
  unfold State.gearSlot
  rw [named]
  exact if_pos fitted

theorem resizeSlot_of_none (none : s.gearSlot = none) : s.resizeSlot n = s := by rw [State.resizeSlot, none]

theorem resizeSlot_of_some {i : Fin 20} (some : s.gearSlot = some i) :
    s.resizeSlot n = (s.setSlot i (s.table.slots[i].resize n)).markDirty (histLine i) := by rw [State.resizeSlot, some]

theorem resizeSlot_marksOnly : s.marksOnly (s.resizeSlot n) := by
  cases gear : s.gearSlot with
  | none => rw [resizeSlot_of_none s n gear]; exact .refl s
  | some i => rw [resizeSlot_of_some s n gear]; rfl

theorem resizeGears_marksOnly : s.marksOnly (s.resizeGears n) := (resizeSlot_marksOnly s n).trans rfl

theorem resizeGears_tally : (s.resizeGears n).tally = { s.tally with
    orphans := s.tally.orphans.set Position.gearbox.index (s.tally.orphans[Position.gearbox.index].resize n) } := by
  have tally : (s.resizeSlot n).tally = s.tally := (resizeSlot_frame s n).tally (by simp)
  rw [← tally]
  rfl

theorem resizeGears_fitment : (s.resizeGears n).fitment = s.fitment.map fun c => c.resize n := by
  have fitment : (s.resizeSlot n).fitment = s.fitment := (resizeSlot_frame s n).fitment (by simp)
  rw [← fitment]
  rfl

theorem newTable_frame (x : GearTable) : s.sameExcept (s.newTable x) [.driveline] := by simp [State.sameExcept, State.newTable]

end

theorem stagedResize_eq (x : Staged) (n : Nat) : x.resize n = { x with
    carried := x.carried.filter fun z => decide (z.quantity ≠ .gearSeconds ∨ z.index < n) } := by
  rw [Staged.resize]
  congr 1
  exact List.filter_congr fun z _ => (Bool.decide_or _ _).symm

theorem contextResize_eq (c : Context) (n : Nat) (resized : Tally → Tally) (whole : ∀ y : Tally, y.resize n = resized y) :
    c.resize n = if c.position ≠ .gearbox then c else { c with
      interim := resized c.interim
      outgoing := c.outgoing.map fun o => (o.1, { o.2 with tally := resized o.2.tally })
      staged := c.staged.map fun y => { y with
        carried := y.carried.filter fun z => decide (z.quantity ≠ .gearSeconds ∨ z.index < n) } } := by
  by_cases here : c.position = .gearbox
  · rw [Context.resize, if_pos here, if_neg (not_not.2 here)]
    simp only [Slot.resize, whole, stagedResize_eq]
  · rw [Context.resize, if_neg here, if_pos here]

theorem setGearTable_of_other {s : State} {x : GearTable} (other : x.entries.length ≠ s.driveline.table.entries.length) :
    s.setGearTable x = .deferred [] (2 :: s.gearLines) (((s.newTable x).markDirty 2).resizeGears x.entries.length) := if_neg other

theorem setGearTable_of_same {s : State} {x : GearTable} (same : x.entries.length = s.driveline.table.entries.length) :
    s.setGearTable x = (s.newTable x).configured 2 := if_pos same

/-- Settles O31: `readGearTable` and `anyOverlap` decide the refusals; a changed entry count runs `resizeGears`. -/
theorem gearTableSet : Obligations.GearTableSet := by
  unfold Obligations.GearTableSet
  intro s tag payload r f
  have run : exec (.setGearTable tag payload) s = .next (s.serve r setGearTableMeaning) := exec_setGearTable ..
  refine ⟨fun ready len bad => ready_refused ready run fun d => ?_, ?_⟩
  · rw [setGearTableMeaning_eq len, gearTableChecked, readGearTable_eq_none bad]
  · intro x n p hist resized ready len settle count entry short low high ok
    have checked (d) : setGearTableMeaning payload (s.taking d) =
        if anyOverlap x.entries then .refused .overlap (s.taking d) else (s.taking d).setGearTable x := by
      rw [setGearTableMeaning_eq (by rw [len, count]), gearTableChecked,
        readGearTable_eq settle count entry short low high fun e mem => (gearEntry_ok_iff e).2 (ok e mem)]
    refine ⟨fun shared => ready_refused ready run fun d => (checked d).trans (if_pos ?_), fun apart => ?_⟩
    · exact Bool.of_not_eq_false (mt (not_anyOverlap_iff _).1 shared)
    have taken (d) : setGearTableMeaning payload (s.taking d) = (s.taking d).setGearTable x :=
      (checked d).trans (if_neg (by rw [(not_anyOverlap_iff _).2 apart]; exact fun h => nomatch h))
    by_cases same : n = s.driveline.table.entries.length
    · obtain ⟨d, t, next, answered, power, awaits, settings, after, frame⟩ := ready_configured (u := fun d => (s.taking d).newTable x)
        (n := 2) ready run (fun d => (taken d).trans (setGearTable_of_same same)) fun d => newTable_frame _ x
      exact ⟨t, next, answered, power, after.driveline (by simp), fun _ => ⟨awaits, frame.mono (by simp)⟩,
        fun other => absurd same other, settings, frame.mono (by simp)⟩
    · let u (d : Timer) : State := ((s.taking d).newTable x).markDirty 2
      have before (d) : (s.taking d).sameExcept (u d) [.driveline, .ctl] :=
        .trans ((newTable_frame _ x).mono (by simp)) ((markDirty_frame _ 2).mono (by simp))
      have resizing (d) : (u d).sameExcept ((u d).resizeGears n) [.tally, .table, .fitment, .ctl] := resizeGears_frame ..
      have marks (d) : (s.taking d).marksOnly ((u d).resizeGears n) := .trans rfl (resizeGears_marksOnly (u d) n)
      obtain ⟨d, t, next, answered, power, awaits, settings, after, frame⟩ := ready_marks (body := []) (lines := 2 :: s.gearLines) (g := fun d => (u d).resizeGears n)
        (bs := [.driveline, .tally, .table, .fitment, .ctl]) ready run (fun d => (taken d).trans (setGearTable_of_other (s := s.taking d) same))
        (fun d => .trans ((before d).mono (by simp)) ((resizing d).mono (by simp))) marks
      have table : t.table = ((u d).resizeSlot n).table := after.table (by simp)
      have whole (y : Tally) : y.resize n = resized y := resize_eq y n
      have gearLines : s.awaiting t r (2 :: s.gearLines) := awaits
      refine ⟨t, next, answered, power, ?_, fun k => absurd k same, fun _ => ⟨?_, fun free => ?_, fun i named fitted => ?_, ?_⟩,
        settings, frame.mono (by simp)⟩
      · exact (after.driveline (by simp)).trans ((resizing d).driveline (by simp))
      · exact (after.tally (by simp)).trans ((resizeGears_tally (u d) n).trans (by rw [whole]; rfl))
      · have none := gearSlot_of_none s free
        rw [State.gearLines, none] at gearLines
        have stays : ((u d).resizeSlot n).table = (u d).table := congrArg State.table (resizeSlot_of_none (u d) n none)
        exact ⟨gearLines, table.trans stays⟩
      · have some := gearSlot_of_fitted s named fitted
        rw [State.gearLines, some] at gearLines
        refine ⟨gearLines, table.trans ((congrArg State.table (resizeSlot_of_some (u d) n some)).trans ?_)⟩
        show { s.table with slots := s.table.slots.set i { s.table.slots[i] with tally := s.table.slots[i].tally.resize n } } = _
        rw [whole]
      · have moved := (after.fitment (by simp)).trans (resizeGears_fitment (u d) n)
        exact moved.trans (Option.map_congr fun c _ => contextResize_eq c n resized whole)

end Sys2Proof.Machine
end

-- ==== COMMIT_FITMENT (O41) ====
section
/-! COMMIT_FITMENT (07 R121 to R124): its checks in order, the table, tallies and book it leaves, and the lines it dirties. -/

namespace Sys2Proof.Machine

/-! ## Which lines an operation dirties -/

/-- From s to t dirty lines stay dirty, and the lines dirtied are among `lines`. -/
structure State.Dirties (s t : State) (lines : List Nat) : Prop where
  grows : ∀ n ∈ s.ctl.dirty, n ∈ t.ctl.dirty
  only  : ∀ n ∈ t.ctl.dirty, n ∈ s.ctl.dirty ∨ n ∈ lines

namespace State.Dirties

variable {s t u : State} {ms ns : List Nat}

theorem of_ctl (ctl : t.ctl = s.ctl) : s.Dirties t ns := ⟨fun n h => by rwa [ctl], fun n h => .inl (by rwa [ctl] at h)⟩

theorem of_notes {f : StartReport → StartReport} (h : s.Notes t ms f) (sub : ms ⊆ ns) : s.Dirties t ns :=
  ⟨fun n mem => (h.dirty n).2 (.inl mem), fun n mem => ((h.dirty n).1 mem).imp_right fun listed => sub listed⟩

theorem trans (h : s.Dirties t ns) (k : t.Dirties u ns) : s.Dirties u ns :=
  ⟨fun n mem => k.grows n (h.grows n mem), fun n mem => (k.only n mem).elim (h.only n) .inr⟩

theorem after (k : t.Dirties u ns) (ctl : t.ctl = s.ctl) : s.Dirties u ns := .trans (.of_ctl ctl) k

theorem same (h : s.Dirties t ns) (ctl : u.ctl = t.ctl) : s.Dirties u ns := h.trans (.of_ctl ctl)

theorem mono (h : s.Dirties t ms) (sub : ms ⊆ ns) : s.Dirties t ns :=
  ⟨h.grows, fun n mem => (h.only n mem).imp_right fun listed => sub listed⟩

end State.Dirties

section
variable (s : State)

theorem markDirty_dirties (n) : s.Dirties (s.markDirty n) [n] := .of_notes (markDirty_notes s n) (List.Subset.refl _)

theorem markAll_dirties (ns) : s.Dirties (s.markAll ns) ns := .of_notes (markAll_notes s ns) (List.Subset.refl _)

theorem markIf_dirties (b n) : s.Dirties (s.markIf b n) [n] := by
  refine .of_notes (markIf_notes s b n) ?_
  cases b
  · exact List.nil_subset _
  · exact List.Subset.refl _

theorem raiseSaturated_ctl (h p b a q e) : (s.raiseSaturated h p b a q e).ctl = s.ctl := (raiseSaturated_frame ..).ctl (by simp)

theorem mergeOrphan_dirties (c : Context) : s.Dirties (s.mergeOrphan c) [orphanLine c.position] := by
  refine .trans (.trans ?_ (.of_ctl ((noteMerges_frame ..).ctl (by simp)))) (markDirty_dirties _ (orphanLine c.position))
  exact .after (markIf_dirties (s.setOrphan ..) _ (orphanLine c.position)) rfl

theorem removeOutgoing_dirties {c : Context} {o : Fin 20 × Slot} (out : c.outgoing = some o) :
    s.Dirties (s.removeOutgoing c) (5 :: slotLines o.1) := by
  rw [State.removeOutgoing, out]
  have emptied : s.Dirties (s.emptySlot o.1) (5 :: slotLines o.1) :=
    .after ((markAll_dirties (s.setSlot ..) (slotLines o.1)).mono (List.subset_cons_self ..)) rfl
  have unmapped : s.Dirties ((s.emptySlot o.1).setEntry c.position none) (5 :: slotLines o.1) := emptied.same rfl
  exact unmapped.trans ((markDirty_dirties _ 5).mono (List.cons_subset_cons 5 (List.nil_subset _)))

theorem fitIncoming_dirties (p x) (i : Fin 20) : s.Dirties (s.fitIncoming p x i) (5 :: slotLines i) := by
  have filled : s.Dirties ((s.setSlot i (x.fitted p s.timeField s.gearCount)).markAll (slotLines i)) (5 :: slotLines i) :=
    .after ((markAll_dirties (s.setSlot ..) (slotLines i)).mono (List.subset_cons_self ..)) rfl
  have mapped : s.Dirties (((s.setSlot i (x.fitted p s.timeField s.gearCount)).markAll (slotLines i)).setEntry p (some i))
    (5 :: slotLines i) := filled.same rfl
  exact mapped.trans ((markDirty_dirties _ 5).mono (List.cons_subset_cons 5 (List.nil_subset _)))

theorem openRecord_dirties (h : Header) : s.Dirties (s.openRecord h) (placeLines (placeOf h.seq) ++ [5]) := by
  have formed : s.Dirties (s.formRecord h) (placeLines (placeOf h.seq) ++ [5]) :=
    .after ((markAll_dirties (s.setPlace (placeOf h.seq) (openedPlace h)) _).mono (List.subset_append_left ..)) rfl
  exact formed.trans (.after ((markDirty_dirties _ 5).mono (List.subset_append_right ..)) rfl)

theorem headerLine_mem_placeLines (p : Fin 24) : headerLine p ∈ placeLines p := by simp [placeLines, headerLine]

theorem turnPage_dirties (close kind contract segment reason) :
    s.Dirties (s.turnPage close kind contract segment reason) (turnLines s.book.newest ++ [5]) := by
  have closing : s.Dirties (s.closeOpen close) [headerLine (placeOf s.book.newest)] := by
    unfold State.closeOpen
    dsimp only
    split
    · exact .after (markDirty_dirties (s.setPlace ..) (headerLine (placeOf s.book.newest))) rfl
    · exact .of_ctl rfl
  refine (closing.mono fun n mem => ?_).trans ((openRecord_dirties ..).mono ?_)
  · obtain rfl := List.mem_singleton.1 mem
    exact List.mem_append_left _ (List.mem_append_right _ (headerLine_mem_placeLines _))
  · exact List.append_subset.2 ⟨fun n mem => List.mem_append_left _ (List.mem_append_left _ mem), List.subset_append_right ..⟩

theorem testService_dirties (i : Fin 20) : s.Dirties (s.testService i) [identLine i] := by
  rw [testService_eq]
  split
  · exact .trans (.trans (.of_ctl rfl) (markDirty_dirties _ (identLine i))) (.of_ctl (raise_ctl ..))
  · exact .of_ctl rfl

theorem testLife_dirties (i : Fin 20) : s.Dirties (s.testLife i) [identLine i] := by
  rw [testLife_eq]
  split
  · exact .trans (.trans (.of_ctl rfl) (markDirty_dirties _ (identLine i))) (.of_ctl (raise_ctl ..))
  · exact .of_ctl rfl

/-! ## A deferred record while a write is in flight (R152, R153) -/

theorem enqueue_flightLine (x : StoreController) (c : WriteClass) (n : Nat) : (x.enqueue c n).flightLine = x.flightLine := by
  by_cases here : x.flightLine = some n
  · obtain ⟨f, flight, rfl⟩ := Option.map_eq_some_iff.1 here
    rw [enqueue_of_flight flight, StoreController.flightLine, StoreController.flightLine, flight]
    rfl
  · rw [enqueue_of_beside here]
    rfl

theorem enqueueAll_flightLine (c : WriteClass) (ns : List Nat) : (s.enqueueAll c ns).ctl.flightLine = s.ctl.flightLine := by
  have fold (x : StoreController) : (ns.foldl (fun x n => x.enqueue c n) x).flightLine = x.flightLine := by
    induction ns generalizing x with
    | nil => rfl
    | cons n ns ih => rw [List.foldl_cons, ih, enqueue_flightLine]
  exact fold s.ctl

/-- While a write is in flight a new deferred record leaves it and the dirty lines alone. -/
theorem defer_of_flight {m : Nat} (flight : s.ctl.flightLine = some m) (tag kind : Byte) (lines : List Nat) :
    (s.defer tag kind lines).ctl.flightLine = some m ∧ (s.defer tag kind lines).ctl.dirty = s.ctl.dirty := by
  let u := s.createRecord tag kind lines
  have line : (u.enqueueAll .commit lines).ctl.flightLine = some m := (enqueueAll_flightLine u ..).trans flight
  obtain ⟨-, -, dirty, -⟩ := enqueueAll_spec u .commit lines
  have busy : (u.enqueueAll .commit lines).ctl.flight ≠ none := fun none => by
    rw [StoreController.flightLine, none] at line
    exact nomatch line
  have same : s.defer tag kind lines = u.enqueueAll .commit lines := arbitrate_of_busy busy
  exact ⟨same ▸ line, same ▸ dirty⟩

/-! ## The table after a commit (R122) -/

variable (c : Context)

theorem removeOutgoing_slot {j : Fin 20} : (s.removeOutgoing c).table.slots[j] =
    if c.outgoing.map Prod.fst = some j then .empty else s.table.slots[j] := by
  cases out : c.outgoing with
  | none => rw [removeOutgoing_none s out]; rfl
  | some o =>
    rw [removeOutgoing_table s out]
    by_cases here : o.1 = j
    · rw [Option.map_some, if_pos (congrArg some here)]
      subst here
      exact Vector.getElem_set_self ..
    · rw [Option.map_some, if_neg fun e => here (Option.some.inj e)]
      exact Vector.getElem_set_ne o.1.isLt j.isLt fun e => here (Fin.ext e)

theorem removeOutgoing_map_ne {q : Position} (ne : q ≠ c.position) :
    (s.removeOutgoing c).table.map[q.index] = s.table.map[q.index] := by
  cases out : c.outgoing with
  | none => rw [removeOutgoing_none s out]
  | some o =>
    rw [removeOutgoing_table s out]
    exact Vector.getElem_set_ne c.position.index.isLt q.index.isLt (index_val_ne ne)

theorem removeOutgoing_map_self (out : c.outgoing ≠ none) : (s.removeOutgoing c).table.map[c.position.index] = none := by
  obtain ⟨o, out⟩ := Option.ne_none_iff_exists'.1 out
  rw [removeOutgoing_table s out]
  exact Vector.getElem_set_self ..

theorem merged_frame : s.sameExcept (s.merged c) [.tally, .table, .ctl, .link] :=
  .trans ((removeOutgoing_frame ..).mono (by simp)) ((mergeOrphan_frame_tally ..).mono (by simp))

theorem merged_table : (s.merged c).table = (s.removeOutgoing c).table := (mergeOrphan_frame_tally ..).table (by simp)

theorem testIncoming_of_some (i : Fin 20) : (s.testIncoming (some i)).table = { s.table with
    slots := s.table.slots.set i (s.table.slots[i].withLimits (testedLimits s.table.slots[i].tally)) } := testBoth_slots s i

/-- The incoming slot's record once its thresholds are tested (R94, R122). -/
def Staged.installed (x : Staged) (p : Position) (at_ : Option Nat) (n : Nat) : Slot :=
  (x.fitted p at_ n).withLimits (testedLimits (x.fitted p at_ n).tally)

theorem fitStaged_of_none : s.fitStaged c none = s := by
  unfold State.fitStaged
  cases c.staged <;> rfl

theorem fitStaged_of_some {x : Staged} (staged : c.staged = some x) (i : Fin 20) :
    s.fitStaged c (some i) = s.fitIncoming c.position x i := by
  unfold State.fitStaged
  rw [staged]

/-- What a commit does once the incoming slot is FITTED: the period split, the context's end and the tests (R123, R141, R94). -/
def State.concluded (s : State) (inc : Option (Fin 20)) : State := ({ s.split with fitment := none }.noteNearFull).testIncoming inc

theorem commit_eq (inc) : s.commit c inc = ((s.merged c).fitStaged c inc).concluded inc := rfl

theorem split_noted_table : ({ s.split with fitment := none }.noteNearFull).table = s.table :=
  ((noteNearFull_frame _).table (by simp)).trans (split_table s)

theorem concluded_table_of_some (i : Fin 20) : (s.concluded (some i)).table = { s.table with
    slots := s.table.slots.set i (s.table.slots[i].withLimits (testedLimits s.table.slots[i].tally)) } := by
  have table := split_noted_table s
  unfold State.concluded
  generalize { s.split with fitment := none }.noteNearFull = u at *
  rw [testIncoming_of_some, table]

theorem commit_table_of_none : (s.commit c none).table = (s.removeOutgoing c).table := by
  rw [commit_eq, fitStaged_of_none]
  exact (split_noted_table _).trans (merged_table s c)

theorem commit_table_of_some {x : Staged} (staged : c.staged = some x) (i : Fin 20) : (s.commit c (some i)).table = {
    slots := (s.removeOutgoing c).table.slots.set i (x.installed c.position s.timeField s.gearCount)
    map := (s.removeOutgoing c).table.map.set c.position.index (some i) } := by
  have time : (s.merged c).timeField = s.timeField := by rw [State.timeField, (merged_frame s c).clock (by simp)]; rfl
  have gears : (s.merged c).gearCount = s.gearCount := by rw [State.gearCount, (merged_frame s c).driveline (by simp)]; rfl
  have fitted := fitIncoming_table (s.merged c) c.position x i
  rw [time, gears, merged_table] at fitted
  rw [commit_eq, fitStaged_of_some _ c staged, concluded_table_of_some, fitted]
  simp only [Fin.getElem_fin, Vector.getElem_set_self, Vector.set_set]
  rfl

/-! ## Tallies and book after a commit (R122, R123) -/

theorem commit_tally (inc) : (s.commit c inc).tally = { s.tally with
    orphans := s.tally.orphans.set c.position.index (c.interim.merge s.tally.orphans[c.position.index]) } := by
  have later : (s.merged c).sameExcept (s.commit c inc) [.table, .fitment, .book, .ctl, .link] :=
    .trans (.trans (.trans (.trans ((fitStaged_frame ..).mono (by simp)) ((turnPage_frame ..).mono (by simp)))
      ((setFitment_frame _ none).mono (by simp))) ((noteNearFull_frame _).mono (by simp))) ((testIncoming_frame ..).mono (by simp))
  have before : (s.removeOutgoing c).tally = s.tally := (removeOutgoing_frame ..).tally (by simp)
  have merged : (s.merged c).tally = _ := mergeOrphan_tally (s.removeOutgoing c) c
  rw [later.tally (by simp), merged, before]

theorem split_book {u : State} {h : Header} {info : PeriodInfo} (opened : u.book.openHeader = some h) (present : h.info = some info) :
    u.split.book = { u.book with
      newest := u.book.newest + 1
      places := (u.book.places.set u.book.openPlace { u.book.places[u.book.openPlace] with
          header := some (h.close .fitment u.timeField) }).set (placeOf (u.book.newest + 1))
        (openedPlace (openedHeader (u.book.newest + 1) info.kind info.contract (min 255 (info.segment + 1)) .continuation u.timeField)) } := by
  have current : u.openInfo = some info := openInfo_eq opened present
  have kind : u.openKind.getD .idle = info.kind := by rw [openKind_eq current]; rfl
  have contract : u.openContract = info.contract := by rw [State.openContract, current]; rfl
  have segment : u.nextSegment = min 255 (info.segment + 1) := by rw [State.nextSegment, current]; rfl
  rw [State.split, turnPage_book _ _ _ _ _ opened, kind, contract, segment]

theorem commit_book (inc) {h : Header} {info : PeriodInfo} (opened : s.book.openHeader = some h) (present : h.info = some info) :
    (s.commit c inc).book = { s.book with
      newest := s.book.newest + 1
      places := (s.book.places.set s.book.openPlace { s.book.places[s.book.openPlace] with
          header := some (h.close .fitment s.timeField) }).set (placeOf (s.book.newest + 1))
        (openedPlace (openedHeader (s.book.newest + 1) info.kind info.contract (min 255 (info.segment + 1)) .continuation s.timeField)) } := by
  let u := (s.merged c).fitStaged c inc
  have frame : s.sameExcept u [.tally, .table, .ctl, .link] := (merged_frame s c).trans ((fitStaged_frame ..).mono (by simp))
  have later : u.split.sameExcept (s.commit c inc) [.table, .fitment, .ctl, .link] :=
    .trans (.trans ((setFitment_frame _ none).mono (by simp)) ((noteNearFull_frame _).mono (by simp))) ((testIncoming_frame ..).mono (by simp))
  have book : u.book = s.book := frame.book (by simp)
  have time : u.timeField = s.timeField := by rw [State.timeField, frame.clock (by simp)]; rfl
  have split := split_book (u := u) (by rw [book]; exact opened) present
  rw [later.book (by simp), split, time]
  simp only [book]

/-! ## Marks, notices and lines of a commit (R124) -/

theorem removeOutgoing_mild : s.Mild (s.removeOutgoing c) [] := by
  cases out : c.outgoing with
  | none => rw [removeOutgoing_none s out]; exact .refl ..
  | some o =>
    rw [State.removeOutgoing, out]
    exact .trans (.trans (.trans (.of_frame (setSlot_frame s o.1 .empty) rfl) (markAll_mild ..)) (.of_frame (setEntry_frame ..) rfl))
      (markDirty_mild _ 5)

theorem fitStaged_mild (inc) : s.Mild (s.fitStaged c inc) [] := by
  unfold State.fitStaged
  split
  · rename_i x i _
    exact .trans (.trans (.trans (.of_frame (setSlot_frame s i _) rfl) (markAll_mild ..)) (.of_frame (setEntry_frame ..) rfl))
      (markDirty_mild _ 5)
  · exact .refl ..

/-- The notice kinds that a commit can raise. -/
abbrev commitKinds : List NoticeKind := [.saturated, .bookNearFull, .serviceDue, .lifeLimit]

theorem noteNearFull_mild : s.Mild s.noteNearFull [.bookNearFull] := by
  unfold State.noteNearFull
  split
  · exact raise_mild ..
  · exact .refl ..

theorem testIncoming_mild (inc) : s.Mild (s.testIncoming inc) commitKinds := by
  cases inc with
  | none => exact .refl ..
  | some i => exact .trans ((testService_mild ..).mono (by simp)) ((testLife_mild ..).mono (by simp))

theorem commit_mild (inc) : s.Mild (s.commit c inc) commitKinds := by
  have merged : s.Mild (s.merged c) commitKinds := .trans ((removeOutgoing_mild s c).mono (by simp)) ((mergeOrphan_mild ..).mono (by simp))
  have split (u : State) : u.Mild u.split commitKinds := .of_frame (turnPage_frame ..) (turnPage_marksOnly ..)
  have closed (u : State) : u.Mild { u with fitment := none } commitKinds := .of_frame (setFitment_frame u none) rfl
  exact .trans (.trans (.trans (.trans (merged.trans ((fitStaged_mild ..).mono (by simp))) (split _)) (closed _))
    ((noteNearFull_mild _).mono (by simp))) (testIncoming_mild ..)

theorem slotLines_of_incoming {out : Option (Fin 20)} {n : Nat} {j : Fin 20} (mem : n ∈ slotLines j) :
    n ∈ commitSlotLines out (some j) := by
  refine List.mem_append_left _ ?_
  simp only [slotLines, List.mem_cons, List.not_mem_nil, or_false] at mem ⊢
  tauto

theorem slotLines_of_outgoing {inc : Option (Fin 20)} {n : Nat} {o : Fin 20} (mem : n ∈ slotLines o) :
    n ∈ commitSlotLines (some o) inc := by
  by_cases same : inc = some o
  · rw [same]
    exact slotLines_of_incoming mem
  · refine List.mem_append_right _ ?_
    show n ∈ if inc = some o then [] else slotLines o
    rwa [if_neg same]

/-- A commit dirties listed lines only. -/
theorem commit_dirties (inc) : s.Dirties (s.commit c inc) (s.commitLines c inc) := by
  have last {n : Nat} (mem : n ∈ [orphanLine c.position, 5]) : n ∈ s.commitLines c inc := List.mem_append_right _ mem
  have slots {n : Nat} (mem : n ∈ commitSlotLines (c.outgoing.map Prod.fst) inc) : n ∈ s.commitLines c inc :=
    List.mem_append_left _ (List.mem_append_right _ mem)
  have incoming {i : Fin 20} (chosen : inc = some i) : 5 :: slotLines i ⊆ s.commitLines c inc :=
    List.cons_subset.2 ⟨last (by simp), fun n mem => slots (by rw [chosen]; exact slotLines_of_incoming mem)⟩
  have removed : s.Dirties (s.removeOutgoing c) (s.commitLines c inc) := by
    cases out : c.outgoing with
    | none => rw [removeOutgoing_none s out]; exact .of_ctl rfl
    | some o =>
      refine (removeOutgoing_dirties s out).mono (List.cons_subset.2 ⟨last (by simp), fun n mem => slots ?_⟩)
      rw [out]
      exact slotLines_of_outgoing mem
  have merged : (s.removeOutgoing c).Dirties (s.merged c) (s.commitLines c inc) :=
    (mergeOrphan_dirties ..).mono (List.cons_subset.2 ⟨last (by simp), List.nil_subset _⟩)
  have fitted : (s.merged c).Dirties ((s.merged c).fitStaged c inc) (s.commitLines c inc) := by
    unfold State.fitStaged
    split
    · exact (fitIncoming_dirties ..).mono (incoming rfl)
    · exact .of_ctl rfl
  have newest : ((s.merged c).fitStaged c inc).book.newest = s.book.newest := by
    rw [(fitStaged_frame ..).book (by simp), (merged_frame s c).book (by simp)]
  have turned : ((s.merged c).fitStaged c inc).Dirties ((s.merged c).fitStaged c inc).split (s.commitLines c inc) :=
    (turnPage_dirties ..).mono (by
      rw [newest]
      exact List.append_subset.2 ⟨fun n mem => List.mem_append_left _ (List.mem_append_left _ mem),
        List.cons_subset.2 ⟨last (by simp), List.nil_subset _⟩⟩)
  have noted (u : State) : u.Dirties ({ u with fitment := none }.noteNearFull) (s.commitLines c inc) :=
    .of_ctl ((noteNearFull_frame _).ctl (by simp))
  have tested (u : State) : u.Dirties (u.testIncoming inc) (s.commitLines c inc) := by
    cases inc with
    | none => exact .of_ctl rfl
    | some i =>
      have ident : [identLine i] ⊆ s.commitLines c (some i) :=
        List.cons_subset.2 ⟨incoming rfl (by simp [slotLines]), List.nil_subset _⟩
      exact ((testService_dirties ..).mono ident).trans ((testLife_dirties ..).mono ident)
  exact ((((removed.trans merged).trans fitted).trans turned).trans (noted _)).trans (tested _)

theorem dirtyFlight_marksOnly (lines : List Nat) : s.marksOnly (s.dirtyFlight lines) := by
  unfold State.dirtyFlight
  split
  · unfold State.markIf
    split
    · rfl
    · exact .refl s
  · exact .refl s

theorem dirtyFlight_dirty {m : Nat} (flight : s.ctl.flightLine = some m) (lines : List Nat) :
    m ∈ (s.dirtyFlight lines).ctl.dirty ↔ m ∈ s.ctl.dirty ∨ m ∈ lines := by
  obtain ⟨f, flying, rfl⟩ := Option.map_eq_some_iff.1 flight
  rw [State.dirtyFlight, flying]
  refine ((markIf_notes ..).dirty _).trans (or_congr_right ?_)
  cases listed : lines.contains f.line <;> simpa using listed

/-- A commit leaves the line in flight dirty where it was or where it is listed. -/
theorem commit_dirtyFlight (inc) {m : Nat} (flight : s.ctl.flightLine = some m) :
    m ∈ ((s.commit c inc).dirtyFlight (s.commitLines c inc)).ctl.dirty ↔ m ∈ s.ctl.dirty ∨ m ∈ s.commitLines c inc := by
  have same : (s.commit c inc).ctl.flightLine = some m := by rw [(commit_mild s c inc).ctl]; exact flight
  obtain ⟨grows, only⟩ := commit_dirties s c inc
  rw [dirtyFlight_dirty _ same]
  exact ⟨fun h => h.elim (only m) .inr, fun h => h.imp_left (grows m)⟩

end

end Sys2Proof.Machine
end

-- ==== O41 ====
section
/-! The checks of COMMIT_FITMENT (07 R121), and O41. -/

namespace Sys2Proof.Machine

theorem exec_commitFitment (s : State) (tag : Byte) (payload : List Byte) :
    exec (.commitFitment tag payload) s = .next (s.serve ⟨0x14, tag, payload⟩ commitMeaning) := rfl

theorem commitMeaning_eq (s : State) : commitMeaning [] s = (s.withContext s.commitChecked).touched :=
  congrArg Answer.touched (sized_nil ..)

section
variable (s : State) (c : Context)

theorem commitChecked_eq : s.commitChecked c =
    if c.action ≠ .install ∧ c.exported = false then .refused .notExported s
    else if c.action ≠ .remove ∧ c.staged = none then .refused .nothingStaged s
    else if c.action ≠ .remove ∧ s.chosen c = none then .refused .noFreeSlot s
    else if !s.book.canOpen then .refused .bookFull s
    else s.commitTaken c (s.chosen c) := rfl

/-! ## The slot that a commit chooses (R122) -/

/-- An EMPTY slot other than the outgoing one. -/
def State.spare (out : Option (Fin 20)) (i : Fin 20) : Prop := out ≠ some i ∧ s.table.slots[i].ident.state = .empty

theorem spare_iff (out : Option (Fin 20)) (i : Fin 20) :
    (decide (some i ≠ out) && decide (s.table.slots[i].ident.state = .empty)) = true ↔ s.spare out i := by
  rw [Bool.and_eq_true, decide_eq_true_iff, decide_eq_true_iff]
  exact and_congr_left' ne_comm

theorem incoming_of_spare {out : Option (Fin 20)} {i : Fin 20} (spare : s.spare out i) (lowest : ∀ j, j < i → ¬s.spare out j) :
    s.incoming out = some i := by
  have found : (List.finRange 20).find? (fun i => decide (some i ≠ out) && decide (s.table.slots[i].ident.state = .empty)) = some i := by
    refine List.find?_eq_some_iff_getElem.2 ⟨(spare_iff ..).2 spare, i.val, by simp, by simp, fun j below => ?_⟩
    rw [List.getElem_finRange, Bool.not_eq_true', ← Bool.not_eq_true]
    exact mt (spare_iff ..).1 (lowest _ below)
  rw [State.incoming, found]

theorem incoming_of_none {out : Option (Fin 20)} (none : ∀ j, ¬s.spare out j) : s.incoming out = out := by
  have absent : (List.finRange 20).find? (fun i => decide (some i ≠ out) && decide (s.table.slots[i].ident.state = .empty)) = Option.none :=
    List.find?_eq_none.2 fun j _ => mt (spare_iff ..).1 (none j)
  rw [State.incoming, absent]

theorem chosen_of_remove (remove : c.action = .remove) : s.chosen c = none := if_pos remove

theorem chosen_of_other (other : c.action ≠ .remove) : s.chosen c = s.incoming (c.outgoing.map Prod.fst) := if_neg other

/-- A slot can be chosen where one leaves or one is EMPTY. -/
theorem chosen_eq_none_iff (other : c.action ≠ .remove) : s.chosen c = none ↔
    ¬(c.outgoing ≠ none ∨ ∃ i : Fin 20, s.table.slots[i].ident.state = .empty) := by
  rw [chosen_of_other s c other]
  by_cases spare : ∃ j, s.spare (c.outgoing.map Prod.fst) j
  · obtain ⟨i, found⟩ : ∃ i, s.incoming (c.outgoing.map Prod.fst) = some i := by
      unfold State.incoming
      cases found : (List.finRange 20).find? fun i =>
          decide (some i ≠ c.outgoing.map Prod.fst) && decide (s.table.slots[i].ident.state = .empty) with
      | some i => exact ⟨i, rfl⟩
      | none =>
        obtain ⟨j, spare⟩ := spare
        exact absurd ((spare_iff ..).2 spare) (List.find?_eq_none.1 found j (List.mem_finRange j))
    rw [found]
    obtain ⟨j, -, empty⟩ := spare
    exact ⟨fun h => (nomatch h), fun h => absurd (.inr ⟨j, empty⟩) h⟩
  · have away := not_exists.1 spare
    rw [incoming_of_none s away]
    cases out : c.outgoing with
    | some o => exact ⟨fun h => (nomatch h), fun h => absurd (.inl (Option.some_ne_none o)) h⟩
    | none =>
      refine ⟨fun _ => ?_, fun _ => rfl⟩
      rintro (some | ⟨i, empty⟩)
      · exact some rfl
      · exact away i ⟨by rw [out]; exact fun h => (nomatch h), empty⟩

end

/-! ## The answer of a taken commit (R122, R124) -/

section
variable {s : State} {c : Context}

theorem commit_fitment (inc) : (s.commit c inc).fitment = none :=
  (testIncoming_frame ..).fitment (by simp) |>.trans ((noteNearFull_frame _).fitment (by simp))

/-- What a taken commit leaves before its record is made. -/
abbrev State.committed (s : State) (c : Context) (inc : Option (Fin 20)) : State := (s.commit c inc).dirtyFlight (s.commitLines c inc)

theorem committed_frame (s : State) (c : Context) (inc) : s.sameExcept (s.committed c inc) [.tally, .table, .fitment, .book, .ctl, .link] :=
  .trans (commit_frame s c inc) ((dirtyFlight_frame ..).mono (by simp))

theorem committed_marksOnly (s : State) (c : Context) (inc) : s.marksOnly (s.committed c inc) :=
  (commit_mild s c inc).ctl.trans (dirtyFlight_marksOnly ..)

/-- The body of a taken commit's answer. -/
def State.commitBody (s : State) (inc : Option (Fin 20)) : List Byte :=
  optCode (inc.map Fin.val) ++ leBytes 4 s.book.newest ++ leBytes 4 (s.book.newest + 1)

theorem commitMeaning_of_taken (opened : s.fitment = some c) (exported : c.action ≠ .install → c.exported = true)
    (staged : c.action ≠ .remove → c.staged ≠ none ∧ s.chosen c ≠ none) (room : s.book.canOpen = true) :
    commitMeaning [] s = .deferred (s.commitBody (s.chosen c)) (s.commitLines c (s.chosen c)) (s.committed c (s.chosen c)) := by
  have checked : s.commitChecked c = s.commitTaken c (s.chosen c) := by
    rw [commitChecked_eq, if_neg, if_neg, if_neg, if_neg]
    · rw [room]; exact fun h => nomatch h
    · exact fun h => (staged h.1).2 h.2
    · exact fun h => (staged h.1).1 h.2
    · exact fun h => nomatch (exported h.1).symm.trans h.2
  have closed : (s.committed c (s.chosen c)).fitment = none := ((dirtyFlight_frame ..).fitment (by simp)).trans (commit_fitment _)
  rw [commitMeaning_eq, withContext_some opened, checked]
  exact congrArg (Answer.deferred _ _) (touchDeadline_of_none closed)

section
variable (s : State) (c : Context) {inc : Option (Fin 20)} (fits : ∀ i, inc = some i → ∃ x, c.staged = some x)
include fits

theorem commit_slot_ne {j : Fin 20} (other : inc ≠ some j) :
    (s.commit c inc).table.slots[j] = (s.removeOutgoing c).table.slots[j] := by
  cases inc with
  | none => rw [commit_table_of_none]
  | some i =>
    obtain ⟨x, staged⟩ := fits i rfl
    rw [commit_table_of_some s c staged]
    exact Vector.getElem_set_ne i.isLt j.isLt fun e => other (congrArg some (Fin.ext e))

theorem commit_map_ne {q : Position} (ne : q ≠ c.position) : (s.commit c inc).table.map[q.index] = s.table.map[q.index] := by
  rw [← removeOutgoing_map_ne s c ne]
  cases inc with
  | none => rw [commit_table_of_none]
  | some i =>
    obtain ⟨x, staged⟩ := fits i rfl
    rw [commit_table_of_some s c staged]
    exact Vector.getElem_set_ne c.position.index.isLt q.index.isLt (index_val_ne ne)

end

theorem commit_map_self {x : Staged} (staged : c.staged = some x) (i : Fin 20) :
    (s.commit c (some i)).table.map[c.position.index] = some i := by
  rw [commit_table_of_some s c staged]
  exact Vector.getElem_set_self ..

theorem commit_slot_self {x : Staged} (staged : c.staged = some x) (i : Fin 20) :
    (s.commit c (some i)).table.slots[i] = x.installed c.position s.timeField s.gearCount := by
  rw [commit_table_of_some s c staged]
  exact Vector.getElem_set_self ..

/-- The lines of a commit as R124 lists them. -/
theorem commitLines_eq (s : State) (c : Context) (inc : Option (Fin 20)) : s.commitLines c inc =
    placeLines (placeOf (s.book.newest + 1)) ++ placeLines (placeOf s.book.newest) ++
      (match inc with
        | some i => [7 + 3 * i.val, 8 + 3 * i.val, 6 + 3 * i.val]
        | none => []) ++
      (match c.outgoing.map Prod.fst with
        | some o => if inc = some o then [] else [6 + 3 * o.val, 7 + 3 * o.val, 8 + 3 * o.val]
        | none => []) ++ [66 + c.position.code, 5] := by
  rw [← orphanLine_eq']
  unfold State.commitLines commitSlotLines turnLines
  rw [← List.append_assoc]
  cases inc <;> rfl

theorem commitBody_eq (s : State) (inc : Option (Fin 20)) : s.commitBody inc = leBytes 1 (match inc with
    | some i => i.val
    | none => 0xFF) ++ leBytes 4 s.book.newest ++ leBytes 4 (s.book.newest + 1) := by
  cases inc <;> rfl

/-- A ready request that is answered DEFERRED while a write is in flight leaves that write, and the dirty lines of its meaning. -/
theorem ready_deferred_flight {r : Request} {m : Meaning} {body : List Byte} {lines : List Nat} {g : Timer → State} {n : Nat}
    (ready : s.ready r) (judged : ∀ d, m r.payload (s.taking d) = .deferred body lines (g d))
    (flight : ∀ d, (g d).ctl.flightLine = some n) :
    ∃ d, (s.serve r m).ctl.flightLine = some n ∧ (s.serve r m).ctl.dirty = (g d).ctl.dirty := by
  obtain ⟨d, served⟩ := serve_ready ready m
  rw [judged] at served
  obtain ⟨line, dirty⟩ := defer_of_flight ((g d).reply (.deferred r.tag body)) (flight d) r.tag r.kind lines
  rw [served]
  exact ⟨d, line, dirty⟩

end

/-- Settles O41: `commitChecked` gives the refusals; a taken commit leaves `committed`, whose table, tallies and book the layer gives. -/
theorem fitmentCommitted : Obligations.FitmentCommitted := by
  unfold Obligations.FitmentCommitted
  intro s tag r refused
  have run : exec (.commitFitment tag []) s = .next (s.serve r commitMeaning) := exec_commitFitment ..
  refine ⟨fun ready closed => ?_, ?_, ?_⟩
  · refine ready_noFitment ready run closed fun d => ?_
    show commitMeaning [] (s.taking d) = _
    rw [commitMeaning_eq, withContext_none (s := s.taking d) closed]
    rfl
  · intro ready c opened exported staged free
    have refuses {reason : Reason} (judged : ∀ d, (s.taking d).commitChecked c = .refused reason (s.taking d)) : refused reason := by
      refine ready_turnedAway ready run fun d => ?_
      show commitMeaning [] (s.taking d) = _
      rw [commitMeaning_eq, withContext_some (s := s.taking d) opened, judged]
      rfl
    have exported_iff : exported ↔ ¬(c.action ≠ .install ∧ c.exported = false) := by
      rw [not_and, Bool.not_eq_false, ← or_iff_not_imp_left]
    have staged_iff : staged ↔ ¬(c.action ≠ .remove ∧ c.staged = none) := by
      rw [not_and, ← or_iff_not_imp_left]
    have free_iff : free ↔ ¬(c.action ≠ .remove ∧ s.chosen c = none) := by
      by_cases remove : c.action = .remove
      · exact ⟨fun _ h => h.1 remove, fun _ => .inl remove⟩
      · rw [chosen_eq_none_iff s c remove, not_and_not_right]
        exact ⟨fun h _ => h.resolve_left remove, fun h => .inr (h remove)⟩
    rw [exported_iff, staged_iff, free_iff]
    refine ⟨fun bad => refuses fun d => if_pos (not_not.1 bad), fun exported bad => refuses fun d => ?_,
      fun exported staged bad => refuses fun d => ?_, fun exported staged free full => refuses fun d => ?_⟩
    · exact (if_neg exported).trans (if_pos (not_not.1 bad))
    · exact (if_neg exported).trans ((if_neg staged).trans (if_pos (not_not.1 bad)))
    · refine (if_neg exported).trans ((if_neg staged).trans ((if_neg free).trans (if_pos ?_)))
      rw [Bool.not_eq_true', ← Bool.not_eq_true]
      exact mt (canOpen_iff s.book).1 full
  · intro c inc h info p out n time isEmpty ready opened exported remove staged room max header present
    have canOpen : s.book.canOpen = true := (canOpen_iff s.book).2 ⟨room, max⟩
    have chosen : s.chosen c = inc := by
      by_cases action : c.action = .remove
      · rw [chosen_of_remove s c action, remove action]
      · obtain ⟨-, i, rfl, ⟨other, empty, lowest⟩ | ⟨same, none⟩⟩ := staged action
        · rw [chosen_of_other s c action]
          exact incoming_of_spare s ⟨other, empty⟩ fun j below spare => lowest j below spare.1 spare.2
        · rw [chosen_of_other s c action, incoming_of_none s fun j spare => none j spare.1 spare.2]
          exact same
    have taken (d) : commitMeaning r.payload (s.taking d) =
        .deferred (s.commitBody inc) (s.commitLines c inc) ((s.taking d).committed c inc) := by
      have chosen' : (s.taking d).chosen c = inc := chosen
      have meaning := commitMeaning_of_taken (s := s.taking d) opened exported (fun other => ⟨(staged other).1, by
        obtain ⟨-, i, some, -⟩ := staged other
        rw [chosen', some]
        exact fun h => nomatch h⟩) canOpen
      rw [chosen'] at meaning
      exact meaning
    have frame (d) := committed_frame (s.taking d) c inc
    have marks (d) : s.marksOnly ((s.taking d).committed c inc) := committed_marksOnly (s.taking d) c inc
    obtain ⟨d, t, next, link, power, awaits, settings, after, kept⟩ := ready_awaits ready run taken frame (by simp) (by simp)
      (fun d => (marks d).records) (fun d => (marks d).holds) (fun d => (marks d).sameSettings)
    have dirtied : ((s.taking d).commit c inc).sameExcept ((s.taking d).committed c inc) [.ctl] := dirtyFlight_frame ..
    have table : t.table = ((s.taking d).commit c inc).table := (after.table (by simp)).trans (dirtied.table (by simp))
    have mild : (s.taking d).Mild ((s.taking d).commit c inc) commitKinds := commit_mild (s.taking d) c inc
    have fits : ∀ i, inc = some i → ∃ x, c.staged = some x := fun i some => by
      by_cases action : c.action = .remove
      · exact nomatch some.symm.trans (remove action)
      · exact Option.ne_none_iff_exists'.1 (staged action).1
    refine ⟨t, next, ?_, power, ?_, fun j other here => ?_, fun j other away => ?_, fun q ne => ?_, fun i some => ?_, fun none leaves => ?_,
      fun i x some component => ?_, ?_, ?_, ⟨?_, fun m flight => ?_⟩, settings, kept.mono (by simp)⟩
    · have replied : s.replied t (.deferred tag (s.commitBody inc)) := by
        rw [State.replied, link, dirtied.link (by simp), mild.link]
        rfl
      rw [commitBody_eq] at replied
      exact replied
    · exact (after.fitment (by simp)).trans ((dirtied.fitment (by simp)).trans (commit_fitment inc))
    · rw [table, commit_slot_ne _ c fits other, removeOutgoing_slot]
      exact if_pos here
    · rw [table, commit_slot_ne _ c fits other, removeOutgoing_slot]
      exact if_neg away
    · rw [table]
      exact commit_map_ne (s.taking d) c fits ne
    · obtain ⟨x, component⟩ := fits i some
      rw [table, some]
      exact commit_map_self component i
    · rw [table, none, commit_table_of_none]
      exact removeOutgoing_map_self _ c fun absent => leaves (congrArg (Option.map Prod.fst) absent)
    · have slot : t.table.slots[i] = x.installed p time s.gearCount := by
        rw [table, some]
        exact commit_slot_self component i
      rw [slot]
      exact ⟨rfl, rfl, rfl⟩
    · exact (after.tally (by simp)).trans ((dirtied.tally (by simp)).trans (commit_tally (s.taking d) c inc))
    · exact (after.book (by simp)).trans ((dirtied.book (by simp)).trans (commit_book (s.taking d) c inc header present))
    · rw [commitLines_eq] at awaits
      exact awaits
    · have flight' (d) : ((s.taking d).committed c inc).ctl.flightLine = some m := by rw [marks d]; exact flight
      obtain ⟨d', line, dirty⟩ := ready_deferred_flight ready taken flight'
      obtain rfl : s.serve r commitMeaning = t := Host.Outcome.next.inj (run.symm.trans next)
      have listed := commit_dirtyFlight (s.taking d') c inc flight
      rw [← dirty, commitLines_eq] at listed
      exact ⟨line, listed⟩

end Sys2Proof.Machine
end

-- ==== What the observers read and count ====
section
/-! SUPPORT. What one event hands on from block to block (R34, R78): what the observers read, what bears tallies, and what a usage leaves
beside them. -/

namespace Sys2Proof.Machine

/-! ## What the observers read -/

/-- From u to t nothing changes that the Run Detector and the Driveline Observer read of time, channels and lines. -/
structure State.Sees (u t : State) : Prop where
  now   : t.now = u.now
  lines : t.lines = u.lines
  shaft : ∀ f, t.shaft f = u.shaft f
  speed : ∀ f, t.shaftSpeed f = u.shaftSpeed f

namespace State.Sees

variable {s t u : State}

theorem of_same (now : t.now = u.now) (lines : t.lines = u.lines) (channels : t.channels = u.channels) : u.Sees t where
  now := now
  lines := lines
  shaft f := by simp only [State.shaft, State.channelOf, channels]
  speed f := by simp only [State.shaftSpeed, State.channelOf, channels]

theorem of_frame {bs : List Block} (h : u.sameExcept t bs) (out : ∀ b ∈ [Block.time, .lines, .channels], b ∉ bs := by decide) : u.Sees t :=
  of_same (h.now (out _ (by simp))) (h.lines (out _ (by simp))) (h.channels (out _ (by simp)))

theorem refl (s : State) : s.Sees s := of_same rfl rfl rfl

theorem trans (h : s.Sees u) (k : u.Sees t) : s.Sees t :=
  ⟨k.now.trans h.now, k.lines.trans h.lines, fun f => (k.shaft f).trans (h.shaft f), fun f => (k.speed f).trans (h.speed f)⟩

theorem lineActive (h : u.Sees t) (l : LineId) : t.lineActive l = u.lineActive l := by rw [State.lineActive, h.lines]; rfl

theorem isTurning (h : u.Sees t) (f : ChannelFunction) : t.isTurning f = u.isTurning f := by rw [State.isTurning, h.shaft]; rfl

end State.Sees

/-! ## What bears tallies and increments -/

/-- From s to t no tally, slot, fitment or record changes. -/
structure State.Bears (s t : State) : Prop where
  orphans : t.tally.orphans = s.tally.orphans
  weights : t.tally.weights = s.tally.weights
  table   : t.table = s.table
  fitment : t.fitment = s.fitment
  book    : t.book = s.book

namespace State.Bears

variable {s t u : State}

theorem of_frame {bs : List Block} (h : s.sameExcept t bs)
    (out : ∀ b ∈ [Block.tally, .table, .fitment, .book], b ∉ bs := by decide) : s.Bears t :=
  ⟨by rw [h.tally (out _ (by simp))], by rw [h.tally (out _ (by simp))], h.table (out _ (by simp)), h.fitment (out _ (by simp)),
    h.book (out _ (by simp))⟩

theorem refl (s : State) : s.Bears s := ⟨rfl, rfl, rfl, rfl, rfl⟩

theorem trans (h : s.Bears u) (k : u.Bears t) : s.Bears t :=
  ⟨k.orphans.trans h.orphans, k.weights.trans h.weights, k.table.trans h.table, k.fitment.trans h.fitment, k.book.trans h.book⟩

theorem symm (h : s.Bears t) : t.Bears s := ⟨h.orphans.symm, h.weights.symm, h.table.symm, h.fitment.symm, h.book.symm⟩

theorem holder (h : s.Bears t) (p : Position) : t.holder p = s.holder p := by
  simp only [State.holder, State.unheldHolder, h.table, h.fitment]

theorem tallyOf (h : s.Bears t) (p : Position) (x : Holder) : t.tallyOf p x = s.tallyOf p x := by
  cases x <;> simp only [State.tallyOf, h.table, h.fitment, h.orphans]

end State.Bears

/-- Exactly the quanta xs have been routed, and every position's holder is as before. -/
structure State.Counted (s t : State) (xs : List Quantum) : Prop where
  routed : s.routed t xs
  holder : ∀ p, t.holder p = s.holder p

namespace State.Counted

variable {s s' t t' u : State} {xs ys : List Quantum}

theorem congr (h : s.Counted t xs) (a : s.Bears s') (b : t.Bears t') : s'.Counted t' xs := by
  refine ⟨?_, fun p => (b.holder p).trans ((h.holder p).trans (a.holder p).symm)⟩
  have routed := h.routed
  unfold State.routed State.ownHolder at *
  simpa only [a.holder, a.tallyOf, b.tallyOf, a.orphans, b.orphans, a.weights, b.weights, a.table, b.table, a.fitment, b.fitment, a.book,
    b.book] using routed

theorem after (h : s.Counted t xs) (b : t.Bears t') : s.Counted t' xs := h.congr (.refl s) b

theorem of_later (h : u.Counted t xs) (a : s.Bears u) : s.Counted t xs := h.congr a.symm (.refl t)

theorem trans (h : s.Counted u xs) (k : u.Counted t ys) : s.Counted t (xs ++ ys) :=
  ⟨h.routed.trans k.routed h.holder, fun p => (k.holder p).trans (h.holder p)⟩

theorem nil (h : s.Bears t) : s.Counted t [] := .after ⟨routed_nil s, fun _ => rfl⟩ h

theorem cast (h : s.Counted t xs) (same : xs = ys) : s.Counted t ys := same ▸ h

end State.Counted

section
variable (s : State)

theorem take_counted (u : Usage) : s.Counted (s.take u) u.quanta :=
  ⟨take_routed s u, (routeAll_routed s u.quanta).2⟩

/-! ## What a usage leaves beside tallies (R79) -/

/-- The notice kinds that a quantum can raise. -/
abbrev countKinds : List NoticeKind := [.saturated, .serviceDue, .lifeLimit]

theorem addPeriod_mild (p q n) : s.Mild (s.addPeriod p q n) [] :=
  .trans (.of_frame (setPlace_frame ..) rfl) (markIf_mild ..)

theorem State.Mild.ite {s t u : State} {ks : List NoticeKind} {c : Prop} [Decidable c] (h : s.Mild t ks) (k : s.Mild u ks) :
    s.Mild (if c then t else u) ks := by
  split
  · exact h
  · exact k

theorem testThresholds_mild (h q) : s.Mild (s.testThresholds h q) countKinds := by
  cases h with
  | slot i => exact .trans (.ite ((testService_mild ..).mono (by simp)) (.refl ..)) (.ite ((testLife_mild ..).mono (by simp)) (.refl ..))
  | interim => exact .refl ..
  | orphan => exact .refl ..

theorem deliver_mild (x : Quantum) : s.Mild (s.deliver x) countKinds := by
  have borne (u : State) : u.Mild (if x.quantity.isHist then u else u.addPeriod x.position x.quantity x.amount) countKinds := by
    split
    · exact .refl ..
    · exact (addPeriod_mild ..).mono (by simp)
  have held (h t) : s.Mild (s.setTally x.position h t) countKinds := (setTally_mild ..).mono (by simp)
  have noted (u : State) (h p b a q e) : u.Mild (u.raiseSaturated h p b a q e) countKinds := (raiseSaturated_mild ..).mono (by simp)
  unfold State.deliver
  dsimp only
  have all := fun h t h₁ p₁ b₁ a₁ q₁ e₁ h₂ p₂ b₂ a₂ q₂ e₂ =>
    (((held h t).trans (borne _)).trans (noted _ h₁ p₁ b₁ a₁ q₁ e₁)).trans (noted _ h₂ p₂ b₂ a₂ q₂ e₂)
  split
  · exact all ..
  · exact (all ..).trans (testThresholds_mild ..)

theorem routeAll_mild (xs : List Quantum) : s.Mild (s.routeAll xs) countKinds := by
  refine .foldl (fun s x => ?_) xs s
  unfold State.route
  split
  · exact .refl ..
  · exact deliver_mild ..

theorem take_mild (u : Usage) : s.Mild (s.take u) countKinds := routeAll_mild ..

/-! ## The arbiter and the wake -/

theorem arbitrate_bears : s.Bears s.arbitrate := by
  unfold State.arbitrate
  (repeat' split) <;> exact ⟨rfl, rfl, rfl, rfl, rfl⟩

theorem checkpoint_bears : s.Bears s.checkpoint := .trans (.of_frame (enqueueAll_frame ..)) (arbitrate_bears _)

theorem keyOffCheckpoint_bears : s.Bears s.keyOffCheckpoint := by
  unfold State.keyOffCheckpoint
  split
  · exact .refl s
  · exact checkpoint_bears s

theorem wake_bears : s.Bears s.wake := by
  unfold State.wake
  split <;> exact ⟨rfl, rfl, rfl, rfl, rfl⟩

theorem supervise_bears : s.Bears s.supervise := .of_frame (supervise_frame s)

end

end Sys2Proof.Machine
end

-- ==== The Run Detector's transitions (O18, O19) ====
section
/-! The Run Detector (03 R41 to R53): what entering a run state does at clutch, PTO, tow detector and checkpoint timer, and the two confirm
timers. -/

namespace Sys2Proof.Machine

/-! ## Transitions seen from before and after -/

section
variable {s t u v : State} {new : RunState}

theorem stands_congr (sees : u.Sees t) (settings : t.driveline.settings = u.driveline.settings) : t.stands ↔ u.stands := by
  simp only [State.stands, sees.shaft, sees.speed, settings]

theorem pends_congr (sees : u.Sees t) (driveline : t.driveline = u.driveline) : t.pends ↔ u.pends := by
  simp only [State.pends, sees.now, driveline]

theorem standing_iff (s : State) : s.standing = true ↔ s.stands := by
  rw [State.standing, Bool.or_eq_true, Bool.and_eq_true, State.isTurning, decide_eq_true_iff, decide_eq_true_iff, decide_eq_true_iff]
  exact Iff.rfl

/-- What follows a transition leaves it as it is. -/
theorem State.ranTo.then (h : s.ranTo u new) (sees : u.Sees t) (run : t.run = u.run) (driveline : t.driveline = u.driveline)
    (timer : new = .running → t.ctl.checkpointTimer = u.ctl.checkpointTimer ∧ t.ctl.timing = u.ctl.timing) : s.ranTo t new := by
  obtain ⟨state, pto, tow, dropped, pends, clutch, checkpoint⟩ := h
  have stands := stands_congr sees (by rw [driveline])
  refine ⟨by rw [run]; exact state, by rw [driveline, sees.lineActive]; exact pto, by rw [driveline]; exact tow, ?_, ?_, ?_, ?_⟩
  · simp only [State.launchDropped, State.clutchSame, driveline]
    exact dropped
  · rw [stands, pends_congr sees driveline]
    exact pends
  · rw [stands]
    simp only [State.clutchSame, driveline]
    exact clutch
  · intro running other none unset
    obtain ⟨same, timing⟩ := timer running
    rw [same, timing, sees.now]
    exact checkpoint running other none unset

/-- A transition is one from before, where run state, driveline and checkpoint timer were the same. -/
theorem State.ranTo.of_later (h : u.ranTo t new) (state : u.run.state = s.run.state) (driveline : u.driveline = s.driveline)
    (timer : u.ctl.checkpointTimer = s.ctl.checkpointTimer) : s.ranTo t new := by
  unfold State.ranTo State.launchDropped State.clutchSame at *
  rwa [state, driveline, timer] at h

end

section
variable (s : State)

/-! ## Clutch and tow at a transition (R64, R71) -/

theorem launchOff_dropped : s.launchDropped s.launchOff := by
  unfold State.launchOff
  by_cases pending : s.driveline.clutch = .launchPending
  · rw [if_pos pending]
    exact ⟨fun _ => ⟨rfl, rfl⟩, fun other => absurd pending other⟩
  · rw [if_neg pending]
    exact ⟨fun k => absurd k pending, fun _ => ⟨rfl, rfl⟩⟩

/-- What a run-state transition does at the clutch. -/
theorem clutchOnRun_spec (old new : RunState) :
    (old = .running → s.launchDropped (s.clutchOnRun old new)) ∧
    (old ≠ .running → new = .running → s.driveline.clutch = .engaged → s.stands → (s.clutchOnRun old new).pends) ∧
    (old ≠ .running → ¬(new = .running ∧ s.driveline.clutch = .engaged ∧ s.stands) → s.clutchSame (s.clutchOnRun old new)) := by
  unfold State.clutchOnRun
  refine ⟨fun was => ?_, fun was running engaged stands => ?_, fun was other => ?_⟩
  · rw [if_pos was]
    exact launchOff_dropped s
  · rw [if_neg was, if_pos ⟨running, engaged, (standing_iff s).2 stands⟩]
    exact ⟨rfl, rfl⟩
  · rw [if_neg was, if_neg fun k => other ⟨k.1, k.2.1, (standing_iff s).1 k.2.2⟩]
    exact ⟨rfl, rfl⟩

/-- Clutch and launch window are all that a transition does at the clutch. -/
theorem clutchOnRun_driveline (old new : RunState) : (s.clutchOnRun old new).driveline = { s.driveline with
    clutch := (s.clutchOnRun old new).driveline.clutch, launchTimer := (s.clutchOnRun old new).driveline.launchTimer } := by
  unfold State.clutchOnRun State.launchOff
  (repeat' split) <;> rfl

theorem towOnRun_of_calm {new : RunState} (calm : ¬(new = .running ∧ s.driveline.tow ≠ .notTowing)) : s.towOnRun new = s := if_neg calm

theorem towOnRun_of_towing {new : RunState} (ends : new = .running ∧ s.driveline.tow ≠ .notTowing) : s.towOnRun new =
    { s with driveline := { s.driveline with tow := .notTowing, quietTimer := none } } := (if_pos ends).trans (setTow_notTowing _)

theorem towOnRun_driveline (new : RunState) : (s.towOnRun new).driveline = { s.driveline with
    tow := if new = .running then .notTowing else s.driveline.tow
    quietTimer := if new = .running ∧ s.driveline.tow ≠ .notTowing then none else s.driveline.quietTimer } := by
  by_cases ends : new = .running ∧ s.driveline.tow ≠ .notTowing
  · rw [towOnRun_of_towing s ends, if_pos ends, if_pos ends.1]
  · have tow : (if new = .running then TowState.notTowing else s.driveline.tow) = s.driveline.tow := by
      by_cases running : new = .running
      · rw [if_pos running]
        exact (Classical.not_not.1 fun k => ends ⟨running, k⟩).symm
      · rw [if_neg running]
    rw [towOnRun_of_calm s ends, if_neg ends, tow]

theorem towOnRun_ctl (new : RunState) : (s.towOnRun new).ctl = s.ctl := by
  by_cases ends : new = .running ∧ s.driveline.tow ≠ .notTowing
  · rw [towOnRun_of_towing s ends]
  · rw [towOnRun_of_calm s ends]

theorem noteUse_ctl (before : Bool) : (s.noteUse before).ctl = { s.ctl with
    checkpointTimer := (if !before && s.inUse && s.ctl.checkpointTimer.isNone
      then some (s.now + s.ctl.timing.interval * 250000) else s.ctl.checkpointTimer) } := by
  unfold State.noteUse
  split <;> rfl

/-! ## Entering a run state (R53) -/

/-- The Run Detector after the first two steps of a transition (R53). -/
def State.restated (s : State) (new : RunState) : State := { s with run := { s.run with state := new, stopTimer := none } }.evalConfirm

theorem restated_frame (new : RunState) : s.sameExcept (s.restated new) [.run] := by
  simp [State.sameExcept, State.restated, State.evalConfirm]

variable (new : RunState)

theorem enterRun_eq : s.enterRun new = ((((s.restated new).clutchOnRun s.run.state new).ptoUpdate).towOnRun new).noteUse s.inUse := rfl

theorem enterRun_run : (s.enterRun new).run = (s.restated new).run := by
  rw [enterRun_eq, (noteUse_frame ..).run (by simp), (towOnRun_frame ..).run (by simp), (ptoUpdate_frame _).run (by simp),
    (clutchOnRun_frame ..).run (by simp)]

theorem enterRun_driveline : (s.enterRun new).driveline = { ((s.restated new).clutchOnRun s.run.state new).driveline with
    pto := ptoState (s.lineActive .ptoOn) new
    tow := if new = .running then .notTowing else s.driveline.tow
    quietTimer := if new = .running ∧ s.driveline.tow ≠ .notTowing then none else s.driveline.quietTimer } := by
  have pto : ((s.restated new).clutchOnRun s.run.state new).ptoUpdate.driveline =
      { ((s.restated new).clutchOnRun s.run.state new).driveline with pto := ptoState (s.lineActive .ptoOn) new } := by
    have run : ((s.restated new).clutchOnRun s.run.state new).run.state = new := by rw [(clutchOnRun_frame ..).run (by simp)]; rfl
    rw [State.ptoUpdate, run, State.lineActive, (clutchOnRun_frame ..).lines (by simp)]
    rfl
  have tow : ((s.restated new).clutchOnRun s.run.state new).driveline.tow = s.driveline.tow := by rw [clutchOnRun_driveline]; rfl
  have quiet : ((s.restated new).clutchOnRun s.run.state new).driveline.quietTimer = s.driveline.quietTimer := by
    rw [clutchOnRun_driveline]; rfl
  rw [enterRun_eq, (noteUse_frame ..).driveline (by simp), towOnRun_driveline, pto]
  dsimp only
  rw [tow, quiet]

theorem enterRun_ctl : (s.enterRun new).ctl = { s.ctl with checkpointTimer := (s.enterRun new).ctl.checkpointTimer } := by
  have before : ((((s.restated new).clutchOnRun s.run.state new).ptoUpdate).towOnRun new).ctl = s.ctl := by
    rw [towOnRun_ctl, (ptoUpdate_frame _).ctl (by simp), (clutchOnRun_frame ..).ctl (by simp)]
    rfl
  rw [enterRun_eq, noteUse_ctl, before]

/-- Entering RUNNING from rest starts a checkpoint timer that does not run (R158). -/
theorem enterRun_checkpoint (running : new = .running) (other : s.run.state ≠ .running) (still : s.driveline.tow = .notTowing)
    (unset : s.ctl.checkpointTimer = none) :
    (s.enterRun new).ctl.checkpointTimer = some (s.now + s.ctl.timing.interval * 250000) := by
  have idle : s.inUse = false := by
    rw [← Bool.not_eq_true, inUse_iff, not_or, not_not]
    exact ⟨other, still⟩
  have before : s.sameExcept ((s.restated new).clutchOnRun s.run.state new).ptoUpdate [.run, .driveline] := enterRun_observers_frame s new
  have now : ((((s.restated new).clutchOnRun s.run.state new).ptoUpdate).towOnRun new).now = s.now :=
    ((towOnRun_frame ..).now (by simp)).trans (before.now (by simp))
  have use : ((((s.restated new).clutchOnRun s.run.state new).ptoUpdate).towOnRun new).inUse = true := by
    refine (inUse_iff _).2 (.inl ?_)
    rw [(towOnRun_frame ..).run (by simp), (ptoUpdate_frame _).run (by simp), (clutchOnRun_frame ..).run (by simp)]
    exact running
  rw [enterRun_eq, noteUse_ctl, towOnRun_ctl, before.ctl (by simp), now, idle, use, unset]
  rfl

/-- A run-state transition and what it does at clutch, PTO, tow detector and checkpoint timer. -/
theorem enterRun_ranTo : s.ranTo (s.enterRun new) new := by
  have frame := enterRun_frame s new
  have sees : (s.restated new).Sees (s.enterRun new) := .trans (.of_frame (restated_frame s new).symm) (.of_frame frame)
  obtain ⟨dropped, pends, same⟩ := clutchOnRun_spec (s.restated new) s.run.state new
  have driveline := enterRun_driveline s new
  have clutch : (s.enterRun new).driveline.clutch = ((s.restated new).clutchOnRun s.run.state new).driveline.clutch := by rw [driveline]
  have launch : (s.enterRun new).driveline.launchTimer = ((s.restated new).clutchOnRun s.run.state new).driveline.launchTimer := by
    rw [driveline]
  have settings : (s.enterRun new).driveline.settings = (s.restated new).driveline.settings := by
    rw [driveline, clutchOnRun_driveline]
  have stands : (s.enterRun new).stands ↔ (s.restated new).stands := stands_congr sees settings
  refine ⟨enterRun_state s new, ?_, by rw [driveline], fun was => ?_, fun was running engaged standing => ?_, fun was other => ?_,
    fun running other still unset => ?_⟩
  · rw [driveline, sees.lineActive]
    rfl
  · have kept := dropped was
    simp only [State.launchDropped, State.clutchSame, ← clutch, ← launch] at kept ⊢
    exact kept
  · obtain ⟨pending, timer⟩ := pends was running engaged (stands.1 standing)
    refine ⟨clutch.trans pending, launch.trans (timer.trans ?_)⟩
    rw [settings, sees.now, (clutchOnRun_frame ..).now (by simp), clutchOnRun_driveline]
  · obtain ⟨sameClutch, sameTimer⟩ := same was fun k => other ⟨k.1, k.2.1, stands.2 k.2.2⟩
    exact ⟨clutch.trans sameClutch, launch.trans sameTimer⟩
  · rw [enterRun_checkpoint s new running other still unset, enterRun_ctl, frame.now (by simp)]

/-! ## The confirm conditions (R43) -/

theorem runCondition_of_state (state : s.run.state ≠ .off ∧ s.run.state ≠ .cranking) : s.runCondition = false := by
  simp [State.runCondition, state]

theorem stopCondition_of_state (state : s.run.state ≠ .running ∧ s.run.state ≠ .cranking) : s.stopCondition = false := by
  simp [State.stopCondition, state]

theorem evalConfirm_runTimer_of_not (not : s.runCondition = false) : s.evalConfirm.run.runTimer = none := by
  show s.confirmTimer s.runCondition s.run.runTimer = none
  rw [not]
  rfl

theorem evalConfirm_stopTimer_of_not (not : s.stopCondition = false) : s.evalConfirm.run.stopTimer = none := by
  show s.confirmTimer s.stopCondition s.run.stopTimer = none
  rw [not]
  rfl

theorem enterRun_runTimer (other : new ≠ .off ∧ new ≠ .cranking) : (s.enterRun new).run.runTimer = none := by
  rw [enterRun_run]
  exact evalConfirm_runTimer_of_not _ (runCondition_of_state _ other)

theorem enterRun_stopTimer (other : new ≠ .running ∧ new ≠ .cranking) : (s.enterRun new).run.stopTimer = none := by
  rw [enterRun_run]
  exact evalConfirm_stopTimer_of_not _ (stopCondition_of_state _ other)

theorem enterRun_crank : (s.enterRun new).run.measure = s.run.measure ∧ (s.enterRun new).run.attempt = s.run.attempt ∧
    (s.enterRun new).run.settings = s.run.settings := by
  rw [enterRun_run]
  exact ⟨rfl, rfl, rfl⟩

theorem enterRun_bears : s.Bears (s.enterRun new) := .of_frame (enterRun_frame s new)

end

theorem supervise_notice (s : State) (k : NoticeKind) : s.supervise.notice k = s.notice k := rfl

/-! ## The run confirm timer (R44, R45) -/

section
variable {s : State} {due : Nat}

/-- The state in which a run confirm expiry is judged. -/
def State.runDue (s : State) (due : Nat) : State := { s.reach due with run := { s.run with runTimer := none } }

theorem runDue_frame (s : State) (due : Nat) : s.sameExcept (s.runDue due) [.time, .run] := by simp [State.sameExcept, State.runDue]

theorem runDue_runCondition (s : State) (due : Nat) : (s.runDue due).runCondition = s.runCondition := rfl

theorem exec_runConfirmExpiry (running : s.run.runTimer = some due) (holds : s.runCondition = true) :
    exec .runConfirmExpiry s = .next (s.runDue due).runConfirmed.supervise := by
  show execRunConfirmExpiry s = _
  rw [execRunConfirmExpiry, running]
  exact congrArg Host.Outcome.next (if_pos ((runDue_runCondition s due).trans holds))

theorem runConfirmed_of_off (off : s.run.state = .off) : s.runConfirmed =
    ((s.enterRun .running).take .uncrankedStart).raise .uncrankedStart (.keyCrank (s.lineActive .key) (s.lineActive .crank)) := by
  rw [State.runConfirmed, off]

theorem runConfirmed_of_cranking (cranking : s.run.state = .cranking) :
    s.runConfirmed = (s.enterRun .running).take .crankedStart := by
  rw [State.runConfirmed, cranking]

theorem runCondition_state (holds : s.runCondition = true) : s.run.state = .off ∨ s.run.state = .cranking := by
  by_contra other
  rw [runCondition_of_state s (not_or.1 other)] at holds
  exact nomatch holds

/-- What follows entering RUNNING changes nothing that `ranTo` reads. -/
theorem enterRun_ranTo_then {t : State} {bs : List Block} {new : RunState} (after : (s.enterRun new).sameExcept t bs)
    (marks : (s.enterRun new).marksOnly t)
    (out : ∀ b ∈ [Block.time, .lines, .channels, .run, .driveline], b ∉ bs := by decide) : s.ranTo t new :=
  (enterRun_ranTo s new).then (.of_frame after fun b mem => out b (by simp only [List.mem_cons] at mem ⊢; tauto))
    (after.run (out _ (by simp))) (after.driveline (out _ (by simp))) fun _ => by rw [marks]; exact ⟨rfl, rfl⟩

end

/-- Settles O18: by the run state, OFF or CRANKING, that the run condition leaves. -/
theorem runConfirmStartsEngine : Obligations.RunConfirmStartsEngine := by
  unfold Obligations.RunConfirmStartsEngine
  intro s due running holds
  refine ⟨_, exec_runConfirmExpiry running holds, ?_⟩
  have before := runDue_frame s due
  have run : (s.runDue due).run.state = s.run.state := rfl
  generalize made : s.runDue due = u at *
  have bears : s.Bears u := .of_frame before
  have entered := enterRun_frame u .running
  have measured : u.run.measure = s.run.measure ∧ u.run.attempt = s.run.attempt ∧ u.run.settings = s.run.settings := by
    subst made; exact ⟨rfl, rfl, rfl⟩
  have time : u.now = max s.now due := by subst made; rfl
  obtain ⟨measure, attempt, settings⟩ := enterRun_crank u .running
  -- what both cases leave after the transition
  have concluded {v : State} {bs : List Block} (after : (u.enterRun .running).sameExcept v bs) (marks : (u.enterRun .running).marksOnly v)
      (out : ∀ b ∈ [Block.time, .lines, .channels, .run, .driveline], b ∉ bs := by decide) :
      v.supervise.now = max s.now due ∧ s.ranTo v.supervise .running ∧ v.supervise.run.runTimer = none ∧
        v.supervise.run.measure = s.run.measure ∧ v.supervise.run.attempt = s.run.attempt ∧ v.supervise.run.settings = s.run.settings := by
    have last := supervise_frame v
    have ran : u.ranTo v.supervise .running :=
      (enterRun_ranTo_then after marks out).then (.of_frame last) (last.run (by simp)) (last.driveline (by simp)) fun _ => ⟨rfl, rfl⟩
    have same : v.supervise.run = (u.enterRun .running).run := (last.run (by simp)).trans (after.run (out _ (by simp)))
    refine ⟨?_, ran.of_later run (before.driveline (by simp)) (by rw [before.ctl (by simp)]), ?_, ?_, ?_, ?_⟩
    · rw [last.now (by simp), after.now (out _ (by simp)), entered.now (by simp), time]
    · rw [same]; exact enterRun_runTimer u .running ⟨by decide, by decide⟩
    · rw [same, measure, measured.1]
    · rw [same, attempt, measured.2.1]
    · rw [same, settings, measured.2.2]
  have early : s.Bears (u.enterRun .running) := bears.trans (enterRun_bears u .running)
  have linked : (u.enterRun .running).link = s.link := (entered.link (by simp)).trans (before.link (by simp))
  have whole {v : State} {bs : List Block} (after : (u.enterRun .running).sameExcept v bs) (sub : bs ⊆ usageBlocks) :
      s.sameExcept v.supervise [.time, .run, .driveline, .tally, .table, .fitment, .book, .ctl, .sup, .link] :=
    .trans (.trans (before.mono (by simp)) (entered.mono (by simp)))
      (.trans (after.mono fun b mem => by have := sub mem; simp only [List.mem_cons, List.not_mem_nil] at this ⊢; tauto)
        ((supervise_frame v).mono (by simp)))
  rcases runCondition_state holds with off | cranking
  · rw [runConfirmed_of_off (run.trans off)]
    have mild := take_mild (u.enterRun .running) .uncrankedStart
    have raised := raise_frame ((u.enterRun .running).take .uncrankedStart) .uncrankedStart (.keyCrank (u.lineActive .key) (u.lineActive .crank))
    have after := (take_frame (u.enterRun .running) .uncrankedStart).trans (raised.mono (by simp))
    obtain ⟨now, ran, timer, crank⟩ := concluded after (mild.ctl.trans (.of_ctl (raise_ctl ..)))
    have counted := (((take_counted (u.enterRun .running) .uncrankedStart).of_later early).after (.of_frame raised)).after (supervise_bears _)
    refine ⟨now, ran, timer, crank.1, crank.2.1, crank.2.2, fun other => (nomatch off.symm.trans other), fun _ => counted.routed,
      fun other => (nomatch off.symm.trans other), fun _ on => ?_, whole after (List.Subset.refl _)⟩
    have level : ((u.enterRun .running).take .uncrankedStart).level .uncrankedStart = s.level .uncrankedStart :=
      (mild.level _).trans (level_of_settings (by rw [linked]) _)
    rw [supervise_notice, raise_notice_self]
    exact noticeAfter_ne_none _ _ _ (by rw [level]; exact on) _
  · rw [runConfirmed_of_cranking (run.trans cranking)]
    have mild := take_mild (u.enterRun .running) .crankedStart
    have after := take_frame (u.enterRun .running) .crankedStart
    obtain ⟨now, ran, timer, crank⟩ := concluded after mild.ctl
    have counted := ((take_counted (u.enterRun .running) .crankedStart).of_later early).after (supervise_bears _)
    refine ⟨now, ran, timer, crank.1, crank.2.1, crank.2.2, fun _ => counted.routed, fun other => (nomatch cranking.symm.trans other),
      fun _ => ?_, fun other => (nomatch cranking.symm.trans other), whole after (List.Subset.refl _)⟩
    rw [supervise_notice]
    exact (mild.others .uncrankedStart (by decide)).trans (notice_of_link linked _)

end Sys2Proof.Machine
end

-- ==== The stop confirm timer (O19) ====
section
/-! The stop confirm timer (03 R46, R48, R49): the run state becomes OFF, and with the key off a checkpoint follows. -/

namespace Sys2Proof.Machine

section
variable {s : State} {due : Nat}

/-- The state in which a stop confirm expiry is judged. -/
def State.stopDue (s : State) (due : Nat) : State := { s.reach due with run := { s.run with stopTimer := none } }

theorem stopDue_frame (s : State) (due : Nat) : s.sameExcept (s.stopDue due) [.time, .run] := by simp [State.sameExcept, State.stopDue]

theorem stopDue_stopCondition (s : State) (due : Nat) : (s.stopDue due).stopCondition = s.stopCondition := rfl

theorem exec_stopConfirmExpiry (running : s.run.stopTimer = some due) (holds : s.stopCondition = true) :
    exec .stopConfirmExpiry s = .next (s.stopDue due).stopConfirmed.supervise := by
  show execStopConfirmExpiry s = _
  rw [execStopConfirmExpiry, running]
  exact congrArg Host.Outcome.next (if_pos ((stopDue_stopCondition s due).trans holds))

theorem stopConfirmed_of_cranking (cranking : s.run.state = .cranking) : s.stopConfirmed =
    ((s.enterRun .off).take .failedCrank).raise .failedStart (.tenths (min 65535 s.run.attempt)) := by
  rw [State.stopConfirmed, cranking]
  rfl

theorem stopConfirmed_of_running (running : s.run.state = .running) : s.stopConfirmed = (s.enterRun .off).keyOffCheckpoint := by
  rw [State.stopConfirmed, running]

theorem stopCondition_state (holds : s.stopCondition = true) : s.run.state = .running ∨ s.run.state = .cranking := by
  by_contra other
  rw [stopCondition_of_state s (not_or.1 other)] at holds
  exact nomatch holds

/-- RUNNING to OFF with KEY INACTIVE, in ACTIVE: every dirty line from 5 on is queued or in flight (R49, R159). -/
theorem keyOff_holds (keyOff : s.lineActive .key = false) (active : s.sup.power = .active) {n : Nat} (dirty : n ∈ s.ctl.dirty)
    (low : 5 ≤ n) (high : n ≤ 177) : (s.enterRun .off).keyOffCheckpoint.ctl.holds n := by
  have frame := enterRun_frame s .off
  have key : (s.enterRun .off).lineActive .key = false := by rw [State.lineActive, frame.lines (by simp)]; exact keyOff
  have stay : (s.enterRun .off).keyOffCheckpoint = (s.enterRun .off).checkpoint := if_neg (by rw [key]; exact fun h => (nomatch h))
  obtain ⟨holds, -⟩ := checkpoint_spec (s := s.enterRun .off) (by rw [frame.sup (by simp)]; exact active)
  rw [stay]
  exact (holds n).2 (.inr ⟨by rw [enterRun_ctl]; exact dirty, low, high⟩)

end

/-- What follows entering OFF changes nothing that `ranTo` reads. -/
theorem enterOff_ranTo_then {s t : State} {bs : List Block} (after : (s.enterRun .off).sameExcept t bs)
    (out : ∀ b ∈ [Block.time, .lines, .channels, .run, .driveline], b ∉ bs := by decide) : s.ranTo t .off :=
  (enterRun_ranTo s .off).then (.of_frame after fun b mem => out b (by simp only [List.mem_cons] at mem ⊢; tauto))
    (after.run (out _ (by simp))) (after.driveline (out _ (by simp))) fun h => (nomatch h)

/-- Settles O19: by the run state, CRANKING or RUNNING, that the stop condition leaves. -/
theorem stopConfirmStopsEngine : Obligations.StopConfirmStopsEngine := by
  unfold Obligations.StopConfirmStopsEngine
  intro s due running holds
  refine ⟨_, exec_stopConfirmExpiry running holds, ?_⟩
  have before := stopDue_frame s due
  have run : (s.stopDue due).run.state = s.run.state := rfl
  have measured : (s.stopDue due).run.measure = s.run.measure ∧ (s.stopDue due).run.attempt = s.run.attempt ∧
    (s.stopDue due).run.settings = s.run.settings := ⟨rfl, rfl, rfl⟩
  have time : (s.stopDue due).now = max s.now due := rfl
  generalize s.stopDue due = u at *
  have entered := enterRun_frame u .off
  obtain ⟨measure, attempt, settings⟩ := enterRun_crank u .off
  -- what both cases leave after the transition
  have concluded {v : State} (after : (u.enterRun .off).sameExcept v [.sup, .tally, .table, .fitment, .book, .ctl, .link]) :
      v.supervise.now = max s.now due ∧ s.ranTo v.supervise .off ∧ v.supervise.run.stopTimer = none ∧
        v.supervise.run.measure = s.run.measure ∧ v.supervise.run.attempt = s.run.attempt ∧ v.supervise.run.settings = s.run.settings ∧
        s.sameExcept v.supervise [.time, .run, .driveline, .tally, .table, .fitment, .book, .ctl, .sup, .link] := by
    have last := supervise_frame v
    have ran : u.ranTo v.supervise .off := enterOff_ranTo_then (after.trans (last.mono (by simp)))
    have same : v.supervise.run = (u.enterRun .off).run := (last.run (by simp)).trans (after.run (by simp))
    refine ⟨?_, ran.of_later run (before.driveline (by simp)) (by rw [before.ctl (by simp)]), ?_, ?_, ?_, ?_, ?_⟩
    · rw [last.now (by simp), after.now (by simp), entered.now (by simp), time]
    · rw [same]; exact enterRun_stopTimer u .off ⟨by decide, by decide⟩
    · rw [same, measure, measured.1]
    · rw [same, attempt, measured.2.1]
    · rw [same, settings, measured.2.2]
    · exact .trans (.trans (before.mono (by simp)) (entered.mono (by simp))) (.trans (after.mono (by simp)) (last.mono (by simp)))
  have early : s.Bears (u.enterRun .off) := .trans (.of_frame before) (enterRun_bears u .off)
  have linked : (u.enterRun .off).link = s.link := (entered.link (by simp)).trans (before.link (by simp))
  rcases stopCondition_state holds with on | cranking
  · have other : s.run.state ≠ .cranking := by rw [on]; decide
    rw [stopConfirmed_of_running (run.trans on), if_neg other]
    obtain ⟨now, ran, timer, crank, attempts, set, frame⟩ := concluded ((keyOffCheckpoint_frame _).mono (by simp))
    have counted := (State.Counted.nil (early.trans (keyOffCheckpoint_bears _))).after (supervise_bears _)
    refine ⟨now, ran, timer, crank, attempts, set, counted.routed, fun k => absurd k other, fun k => absurd k other,
      fun _ keyOff active n dirty low high => ?_, frame⟩
    refine keyOff_holds (s := u) ?_ ?_ ?_ low high
    · rw [State.lineActive, before.lines (by simp)]; exact keyOff
    · rw [before.sup (by simp)]; exact active
    · rw [before.ctl (by simp)]; exact dirty
  · rw [stopConfirmed_of_cranking (run.trans cranking), if_pos cranking]
    have mild := take_mild (u.enterRun .off) .failedCrank
    have raised := raise_frame ((u.enterRun .off).take .failedCrank) .failedStart (.tenths (min 65535 u.run.attempt))
    obtain ⟨now, ran, timer, crank, attempts, set, frame⟩ := concluded
      (((take_frame (u.enterRun .off) .failedCrank).mono (by simp)).trans (raised.mono (by simp)))
    have counted := (((take_counted (u.enterRun .off) .failedCrank).of_later early).after (.of_frame raised)).after (supervise_bears _)
    have level : ((u.enterRun .off).take .failedCrank).level .failedStart = s.level .failedStart :=
      (mild.level _).trans (level_of_settings (by rw [linked]) _)
    have same : ((u.enterRun .off).take .failedCrank).notice .failedStart = s.notice .failedStart :=
      (mild.others .failedStart (by decide)).trans (notice_of_link linked _)
    refine ⟨now, ran, timer, crank, attempts, set, counted.routed, fun _ on => ?_, fun _ on absent => ?_,
      fun k => (nomatch cranking.symm.trans k), frame⟩
    · rw [supervise_notice, raise_notice_self]
      exact noticeAfter_ne_none _ _ _ (by rw [level]; exact on) _
    · rw [supervise_notice, raise_notice_self, same, absent, noticeAfter_none _ _ _ (by rw [level]; exact on), measured.2.1]

end Sys2Proof.Machine
end

-- ==== Gear, confirm conditions and wake (O15, O16) ====
section
/-! SUPPORT. Evaluations of gear and confirm conditions (R43, R58, R59), and the wake of DRAINING and DORMANT (R179). -/

namespace Sys2Proof.Machine

/-! ## The gear (R55, R58, R59) -/

/-- An entry of the Gear Table is of the current direction and its window holds the measured ratio (R55). -/
def State.gearFits (t : State) (e : GearEntry) : Bool := decide (
  e.direction = (if t.lineActive .reverse = true then .reverse else .forward) ∧
  e.ratio - e.ratio * e.tolerance / 1000 ≤ t.shaftSpeed .gearIn * 1000 / t.shaftSpeed .gearOut ∧
  t.shaftSpeed .gearIn * 1000 / t.shaftSpeed .gearOut ≤ e.ratio + e.ratio * e.tolerance / 1000)

section
variable (s : State)

theorem canJudge_iff : s.canJudge = true ↔
    s.shaft .gearIn = some .turning ∧ s.shaft .gearOut = some .turning ∧ s.lineActive .clutch = true := by
  rw [State.canJudge, Bool.and_eq_true, Bool.and_eq_true, State.isTurning, State.isTurning, decide_eq_true_iff, decide_eq_true_iff, and_assoc]

theorem gearFound_of_still (still : s.shaftSpeed .gearOut = 0) : s.gearFound = none := by
  rw [State.gearFound, State.ratio, if_pos still]
  rfl

theorem gearFound_of_speed (speed : s.shaftSpeed .gearOut ≠ 0) : s.gearFound =
    s.driveline.table.entries.findIdx? s.gearFits := by
  rw [State.gearFound, State.ratio, if_neg speed]
  rfl

theorem gearFound_eq_none (none : s.shaftSpeed .gearOut = 0 ∨ ∀ e ∈ s.driveline.table.entries, s.gearFits e = false) : s.gearFound = Option.none := by
  by_cases still : s.shaftSpeed .gearOut = 0
  · exact gearFound_of_still s still
  · rw [gearFound_of_speed s still, List.findIdx?_eq_none_iff]
    exact none.resolve_left still

theorem gearFound_eq_some {g : Nat} {e : GearEntry} (speed : s.shaftSpeed .gearOut ≠ 0) (entry : s.driveline.table.entries[g]? = some e)
    (fits : s.gearFits e = true) (first : ∀ x ∈ s.driveline.table.entries.take g, s.gearFits x = false) : s.gearFound = some g := by
  obtain ⟨lt, here⟩ := List.getElem?_eq_some_iff.1 entry
  rw [gearFound_of_speed s speed, List.findIdx?_eq_some_iff_getElem]
  refine ⟨lt, by rw [here]; exact fits, fun j below => ?_⟩
  have mem : s.driveline.table.entries[j] ∈ s.driveline.table.entries.take g :=
    List.mem_take_iff_getElem.2 ⟨j, by omega, rfl⟩
  simpa using first _ mem

theorem evalGear_of_not (not : ¬s.canJudge = true) :
    s.evalGear = { s with driveline := { s.driveline with gear := .idle, settleTimer := none } } := if_neg not

theorem evalGear_of_none (able : s.canJudge = true) (none : s.gearFound = Option.none) :
    s.evalGear = { s with driveline := { s.driveline with gear := .seeking, settleTimer := Option.none } } := by
  rw [State.evalGear, if_pos able, none]

theorem evalGear_of_some {g : Nat} (able : s.canJudge = true) (found : s.gearFound = some g) : s.evalGear =
    if s.driveline.gear = .settling g ∨ s.driveline.gear = .engaged g then s
    else { s with driveline := { s.driveline with gear := .settling g, settleTimer := some (s.now + s.driveline.table.settle * 250) } } := by
  rw [State.evalGear, if_pos able, found]
  rfl

/-- An evaluation changes gear state and settle timer alone. -/
theorem evalGear_driveline : s.evalGear.driveline = { s.driveline with
    gear := s.evalGear.driveline.gear, settleTimer := s.evalGear.driveline.settleTimer } := by
  unfold State.evalGear
  (repeat' split) <;> rfl

theorem evalGear_judged : s.gearJudged s.evalGear := by
  have frame := evalGear_frame s
  have sees : s.Sees s.evalGear := .of_frame frame
  unfold State.gearJudged
  simp only [sees.shaft, sees.speed, sees.lineActive, sees.now]
  refine ⟨fun unable => ?_, fun able none => ?_, fun g e able speed entry fit first => ?_⟩
  · rw [evalGear_of_not s (mt (canJudge_iff s).1 unable)]
    exact ⟨rfl, rfl⟩
  · rw [evalGear_of_none s ((canJudge_iff s).2 able) (gearFound_eq_none s (none.imp_right fun h e mem => decide_eq_false (h e mem)))]
    exact ⟨rfl, rfl⟩
  · rw [evalGear_of_some s ((canJudge_iff s).2 able) (gearFound_eq_some s speed entry (decide_eq_true fit) fun x mem => decide_eq_false (first x mem))]
    refine ⟨fun stays => ?_, fun other another => ?_⟩
    · rw [if_pos stays]
      exact ⟨rfl, rfl⟩
    · rw [if_neg (not_or.2 ⟨other, another⟩)]
      exact ⟨rfl, rfl⟩

end

section
variable {s s' t t' : State}

/-- An evaluation of the gear is one of every state with the same gear before, and of every state with the same gear after. -/
theorem State.gearJudged.congr (h : s.gearJudged t) (table : s'.driveline.table = s.driveline.table)
    (gear : s'.driveline.gear = s.driveline.gear) (timer : s'.driveline.settleTimer = s.driveline.settleTimer) (sees : t.Sees t')
    (gear' : t'.driveline.gear = t.driveline.gear) (timer' : t'.driveline.settleTimer = t.driveline.settleTimer) : s'.gearJudged t' := by
  unfold State.gearJudged at *
  simpa only [table, gear, timer, gear', timer', sees.shaft, sees.speed, sees.lineActive, sees.now] using h

/-! ## The confirm conditions (R43) -/

theorem runCondition_congr (sees : s.Sees t) (state : t.run.state = s.run.state) (settings : t.run.settings = s.run.settings) :
    t.runCondition = s.runCondition := by
  simp only [State.runCondition, State.aboveRun, sees.isTurning, sees.speed, state, settings]

theorem stopCondition_congr (sees : s.Sees t) (state : t.run.state = s.run.state) (settings : t.run.settings = s.run.settings) :
    t.stopCondition = s.stopCondition := by
  simp only [State.stopCondition, State.belowStop, sees.isTurning, sees.speed, sees.shaft, sees.lineActive, state, settings]

theorem confirmTimer_eq (s : State) (holds : Bool) (d : Timer) : s.confirmTimer holds d =
    if holds = true then some (d.getD (s.now + s.run.settings.confirm * 250)) else none := by
  cases holds
  · rfl
  · cases d <;> rfl

/-- Evaluating the confirm conditions makes both timers follow them. -/
theorem evalConfirm_timersFollow (s : State) : s.timersFollow s.evalConfirm :=
  ⟨confirmTimer_eq s s.runCondition s.run.runTimer, confirmTimer_eq s s.stopCondition s.run.stopTimer⟩

theorem evalConfirm_follows (s : State) : s.confirmFollows s.evalConfirm := ⟨rfl, evalConfirm_timersFollow s⟩

/-- Timers that follow their conditions do so after what changes neither. -/
theorem State.timersFollow.then (h : s.timersFollow t) (sees : t.Sees t') (run : t'.run = { t.run with
    measure := t'.run.measure, attempt := t'.run.attempt }) : s.timersFollow t' := by
  have runs := runCondition_congr sees (by rw [run]) (by rw [run])
  have stops := stopCondition_congr sees (by rw [run]) (by rw [run])
  unfold State.timersFollow at *
  rw [runs, stops, sees.now]
  dsimp only at h ⊢
  rw [run]
  exact h

theorem State.timersFollow.of_later (h : s.timersFollow t) (run : s.run.runTimer = s'.run.runTimer)
    (stop : s.run.stopTimer = s'.run.stopTimer) : s'.timersFollow t := by
  unfold State.timersFollow at *
  rwa [run, stop] at h

theorem State.confirmFollows.congr (h : s.confirmFollows t) (before : s.run = s'.run) (sees : t.Sees t') (after : t'.run = t.run) :
    s'.confirmFollows t' := by
  obtain ⟨run, timers⟩ := h
  refine ⟨by rw [after, ← before]; exact run, (timers.of_later (by rw [before]) (by rw [before])).then sees (by rw [after])⟩

end

/-! ## The wake (R179) -/

section
variable (s : State)

theorem wake_ctl : s.wake.ctl = { s.ctl with scrubTimer := s.wake.ctl.scrubTimer } := by
  unfold State.wake
  split <;> rfl

theorem wake_power_eq : s.wake.sup.power =
    if s.sup.power = .draining ∨ s.sup.power = .dormant then .active else s.sup.power := by
  unfold State.wake
  split <;> rename_i power <;> simp [power, State.supervise, State.setPower]

/-- A wake where the event is a wake condition. -/
def State.wakeIf (s : State) (wakes : Bool) : State := if wakes = true then s.wake else s

theorem wakeIf_frame (b : Bool) : s.sameExcept (s.wakeIf b) [.sup, .tally, .ctl] := .ite (fun _ => wake_frame s) (fun _ => .refl ..)

theorem wakeIf_bears (b : Bool) : s.Bears (s.wakeIf b) := by
  cases b
  · exact .refl s
  · exact wake_bears s

theorem wakeIf_ctl (b : Bool) : (s.wakeIf b).ctl = { s.ctl with scrubTimer := (s.wakeIf b).ctl.scrubTimer } := by
  cases b
  · rfl
  · exact wake_ctl s

theorem wakeIf_power (b : Bool) : (s.wakeIf b).sup.power =
    if b = true ∧ (s.sup.power = .draining ∨ s.sup.power = .dormant) then .active else s.sup.power := by
  cases b
  · simp [State.wakeIf]
  · simp [State.wakeIf, wake_power_eq]

end

end Sys2Proof.Machine
end

-- ==== Filtered lines (O15, O16) ====
section
/-! Input lines (02 R37, R38) and the blocks that use them: crank attempts (03 R44, R50), clutch and PTO (04 R62, R68). -/

namespace Sys2Proof.Machine

/-! ## A filtered transition -/

theorem lineIndex_ne {k l : LineId} (h : k ≠ l) : l.index.val ≠ k.index.val := by
  revert h
  cases k <;> cases l <;> decide

section
variable (s : State) (l : LineId) (active : Bool)

theorem setLineRecord_self (x : InputLine) : (s.setLineRecord l x).lines[l.index] = x := Vector.getElem_set_self ..

theorem setLineRecord_ne {k : LineId} (other : k ≠ l) (x : InputLine) : (s.setLineRecord l x).lines[k.index] = s.lines[k.index] :=
  Vector.getElem_set_ne l.index.isLt k.index.isLt (lineIndex_ne other)

/-- The line has its new filtered state, and a wake condition has woken the recorder (R37, R179). -/
def State.turned : State :=
  (s.setLineRecord l { s.lines[l.index] with filtered := active, timer := none }).wakeIf (active && l.wakes)

theorem lineTransition_eq : s.lineTransition l active = ((s.turned l active).publishLine l active).supervise := rfl

theorem turned_frame : s.sameExcept (s.turned l active) [.lines, .sup, .tally, .ctl] :=
  .trans ((setLineRecord_frame ..).mono (by simp)) ((wakeIf_frame ..).mono (by simp))

theorem turned_bears : s.Bears (s.turned l active) := .trans (.of_frame (setLineRecord_frame ..)) (wakeIf_bears ..)

theorem turned_lines : (s.turned l active).lines =
    (s.setLineRecord l { s.lines[l.index] with filtered := active, timer := none }).lines := (wakeIf_frame ..).lines (by simp)

theorem turned_lineActive : (s.turned l active).lineActive l = active := by
  have set := setLineRecord_self s l { s.lines[l.index] with filtered := active, timer := none }
  rw [State.lineActive, turned_lines, set]

theorem turned_lineActive_ne {k : LineId} (other : k ≠ l) : (s.turned l active).lineActive k = s.lineActive k := by
  have set := setLineRecord_ne s l other { s.lines[l.index] with filtered := active, timer := none }
  rw [State.lineActive, turned_lines, set]
  rfl

theorem turned_checkpoint : (s.turned l active).ctl.checkpointTimer = s.ctl.checkpointTimer := by
  rw [State.turned, wakeIf_ctl]
  rfl

theorem turned_power : (s.turned l active).sup.power =
    if (active && l.wakes) = true ∧ (s.sup.power = .draining ∨ s.sup.power = .dormant) then .active else s.sup.power := wakeIf_power ..

theorem wakes_iff : l.wakes = true ↔ l = .key ∨ l = .crank ∨ l = .ptoOn := by cases l <;> simp [LineId.wakes]

end

/-! ## Crank attempts (R44, R47, R50) -/

section
variable (s : State)

theorem crankTransition_press : s.crankTransition true = if s.run.state = .off ∧ s.lineActive .key = true then s.beginCrank
    else if s.run.state = .cranking then
      ({ s with run := { s.run with measure := some (s.run.measure.getD s.now) } } : State).evalConfirm
    else s.evalConfirm := if_pos rfl

theorem crankTransition_of_off (off : s.run.state = .off) (key : s.lineActive .key = true) :
    s.crankTransition true = s.beginCrank := (crankTransition_press s).trans (if_pos ⟨off, key⟩)

/-- CRANK becomes ACTIVE in OFF with the key on: an attempt begins. -/
theorem beginCrank_spec : s.ranTo s.beginCrank .cranking ∧ s.beginCrank.run.measure = some s.now ∧ s.beginCrank.run.attempt = 0 ∧
    s.beginCrank.run.settings = s.run.settings ∧ s.Counted s.beginCrank [quantum .starter .cranks 1] := by
  let b : State := { s with run := { s.run with measure := some s.now, attempt := 0 } }
  have before : s.sameExcept b [.run] := by simp [State.sameExcept, b]
  have counted := take_frame (b.enterRun .cranking) .crank
  have ran : b.ranTo s.beginCrank .cranking := enterRun_ranTo_then counted (take_mild _ .crank).ctl
  obtain ⟨measure, attempt, settings⟩ := enterRun_crank b .cranking
  have run : s.beginCrank.run = (b.enterRun .cranking).run := counted.run (by simp)
  refine ⟨ran.of_later rfl rfl rfl, ?_, ?_, ?_, (take_counted _ .crank).of_later (.trans (.of_frame before) (enterRun_bears b .cranking))⟩
  · rw [run, measure]
  · rw [run, attempt]
  · rw [run, settings]

/-- CRANK becomes ACTIVE in CRANKING: the measurement is kept or started. -/
theorem crankTransition_of_cranking (cranking : s.run.state = .cranking) : s.crankTransition true =
    ({ s with run := { s.run with measure := some (s.run.measure.getD s.now) } } : State).evalConfirm := by
  have other : ¬(s.run.state = .off ∧ s.lineActive .key = true) := fun h => nomatch h.1.symm.trans cranking
  exact (crankTransition_press s).trans ((if_neg other).trans (if_pos cranking))

theorem crankTransition_of_other (other : s.run.state = .running ∨ s.run.state = .blind ∨ s.run.state = .off ∧ s.lineActive .key = false) :
    s.crankTransition true = s.evalConfirm := by
  have off : ¬(s.run.state = .off ∧ s.lineActive .key = true) := by
    rintro ⟨off, key⟩
    rcases other with k | k | ⟨-, k⟩
    · exact nomatch k.symm.trans off
    · exact nomatch k.symm.trans off
    · exact nomatch k.symm.trans key
  have cranking : s.run.state ≠ .cranking := by
    rcases other with k | k | ⟨k, -⟩ <;> rw [k] <;> decide
  exact (crankTransition_press s).trans ((if_neg off).trans (if_neg cranking))

theorem crankTransition_release : s.crankTransition false = s.evalConfirm.deliverCrank := rfl

theorem deliverCrank_of_none (none : s.run.measure = none) : s.deliverCrank = s := by rw [State.deliverCrank, none]

/-- What is delivered at a CRANK release, before the tally takes it (R50). -/
def State.crankMeasured (s : State) (m : Nat) : State :=
  { s with run := { s.run with measure := none, attempt := min 4294967295 (s.run.attempt + (s.now - m) / 25000) } }

theorem deliverCrank_of_some {m : Nat} (some : s.run.measure = some m) :
    s.deliverCrank = (s.crankMeasured m).take (.crankDuration ((s.now - m) / 25000)) := by
  rw [State.deliverCrank, some]
  rfl

theorem crankMeasured_frame (m : Nat) : s.sameExcept (s.crankMeasured m) [.run] := by simp [State.sameExcept, State.crankMeasured]

/-- CRANK becomes INACTIVE with a measurement running: it is delivered and added to the attempt total. -/
theorem crankRelease_spec {m : Nat} (some : s.run.measure = some m) :
    let t := s.crankTransition false
    s.timersFollow t ∧ t.run = { s.run with
      measure := none, attempt := min 4294967295 (s.run.attempt + (s.now - m) / 25000), runTimer := t.run.runTimer,
      stopTimer := t.run.stopTimer } ∧ s.Counted t [quantum .starter .crankTenths ((s.now - m) / 25000)] := by
  have counted := take_frame (s.evalConfirm.crankMeasured m) (.crankDuration ((s.now - m) / 25000))
  have measured := crankMeasured_frame s.evalConfirm m
  have after : s.evalConfirm.sameExcept _ (.run :: usageBlocks) := .trans (measured.mono (by simp)) (counted.mono (by simp))
  have run : _ = (s.evalConfirm.crankMeasured m).run := counted.run (by simp)
  intro t
  have made : t = (s.evalConfirm.crankMeasured m).take (.crankDuration ((s.now - m) / 25000)) := deliverCrank_of_some s.evalConfirm some
  rw [← made] at after run counted
  refine ⟨(evalConfirm_timersFollow s).then (.of_frame after) (by rw [run]; rfl), by rw [run]; rfl, ?_⟩
  rw [made]
  exact (take_counted _ _).of_later (.trans (.of_frame (evalConfirm_frame s)) (.of_frame measured))

/-! ## Clutch and PTO (R62, R68) -/

theorem clutchTransition_driveline (active : Bool) : (s.clutchTransition active).driveline = { s.driveline with
    clutch := (s.clutchTransition active).driveline.clutch, launchTimer := (s.clutchTransition active).driveline.launchTimer } := by
  unfold State.clutchTransition
  (repeat' split) <;> rfl

theorem clutchTransition_spec (active : Bool) :
    (active = true → s.run.state = .running → s.stands → (s.clutchTransition active).pends) ∧
    (active = true → ¬(s.run.state = .running ∧ s.stands) →
      (s.clutchTransition active).driveline.clutch = .engaged ∧ (s.clutchTransition active).driveline.launchTimer = none) ∧
    (active = false →
      (s.clutchTransition active).driveline.clutch = .released ∧ (s.clutchTransition active).driveline.launchTimer = none) := by
  have pending_iff : (decide (s.run.state = .running) && s.standing) = true ↔ s.run.state = .running ∧ s.stands := by
    rw [Bool.and_eq_true, decide_eq_true_iff, standing_iff]
  refine ⟨fun on running stands => ?_, fun on other => ?_, fun off => ?_⟩
  · have e : s.clutchTransition active = s.launchPending := by
      rw [on]
      exact if_pos (pending_iff.2 ⟨running, stands⟩)
    rw [e]
    exact ⟨rfl, rfl⟩
  · have e : s.clutchTransition active = s.clutchEngaged := by
      rw [on]
      exact if_neg (mt pending_iff.1 other)
    rw [e]
    exact ⟨rfl, rfl⟩
  · rw [off]
    exact ⟨rfl, rfl⟩

/-- A filtered transition of PTO_ON. -/
theorem ptoTransition_spec {active : Bool} (line : s.lineActive .ptoOn = active) :
    (s.ptoTransition active).driveline = { s.driveline with
      pto := if active = true then (if s.run.state = .running then .working else .on) else .off } ∧
    s.Counted (s.ptoTransition active) (if active = true ∧ s.run.state = .running then [quantum .pto .ptoEngagements 1] else []) := by
  have updated : s.ptoUpdate.driveline = { s.driveline with
      pto := if active = true then (if s.run.state = .running then .working else .on) else .off } := by
    rw [State.ptoUpdate, line]
    rfl
  have bears : s.Bears s.ptoUpdate := .of_frame (ptoUpdate_frame s)
  by_cases engages : active = true ∧ s.run.state = .running
  · have e : s.ptoTransition active = s.ptoUpdate.take .ptoEngagement := if_pos (by rw [engages.1, engages.2]; rfl)
    rw [e, if_pos engages]
    exact ⟨((take_frame ..).driveline (by simp)).trans updated, (take_counted ..).of_later bears⟩
  · have e : s.ptoTransition active = s.ptoUpdate := if_neg (by simpa using engages)
    rw [e, if_neg engages]
    exact ⟨updated, .nil bears⟩

theorem State.Counted.weights {s t : State} {xs : List Quantum} (h : s.Counted t xs) : t.tally.weights = s.tally.weights := by
  obtain ⟨-, -, -, -, -, -, -, -, -, weights⟩ := h.routed
  exact weights

/-! ## What a filtered transition changes in any case -/

/-- What a line's block can change; the Supervisor is not among it. -/
abbrev publishBlocks : List Block := [.run, .driveline, .tally, .table, .fitment, .book, .ctl, .link]

theorem crankTransition_blocks (active : Bool) : s.sameExcept (s.crankTransition active) publishBlocks := by
  have begun : s.sameExcept s.beginCrank publishBlocks :=
    .trans (.trans (t := { s with run := { s.run with measure := some s.now, attempt := 0 } }) (by simp [State.sameExcept])
      ((enterRun_frame ..).mono (by simp))) ((take_frame ..).mono (by simp))
  have kept : s.sameExcept ({ s with run := { s.run with measure := some (s.run.measure.getD s.now) } } : State).evalConfirm publishBlocks := by
    simp [State.sameExcept, State.evalConfirm]
  have confirmed : s.sameExcept s.evalConfirm publishBlocks := (evalConfirm_frame s).mono (by simp)
  cases active with
  | true => rw [crankTransition_press]; exact .ite (fun _ => begun) fun _ => .ite (fun _ => kept) fun _ => confirmed
  | false =>
    rw [crankTransition_release]
    cases measure : s.evalConfirm.run.measure with
    | none => rw [deliverCrank_of_none _ measure]; exact confirmed
    | some m =>
      rw [deliverCrank_of_some _ measure]
      exact confirmed.trans (.trans ((crankMeasured_frame ..).mono (by simp)) ((take_frame ..).mono (by simp)))

theorem publishLine_blocks (l : LineId) (active : Bool) : s.sameExcept (s.publishLine l active) publishBlocks := by
  cases l with
  | key => exact .refl ..
  | crank => exact crankTransition_blocks s active
  | clutch => exact .trans ((evalGear_frame s).mono (by simp)) ((clutchTransition_frame ..).mono (by simp))
  | reverse => exact (evalGear_frame s).mono (by simp)
  | ptoOn => exact (ptoTransition_frame ..).mono (by simp)

/-- From s to t the link changes in its notices alone, and the wear weights stay. -/
structure State.Lightly (s t : State) : Prop where
  link    : t.link = { s.link with notices := t.link.notices }
  weights : t.tally.weights = s.tally.weights

theorem State.Lightly.of_same {s t : State} (link : t.link = s.link) (weights : t.tally.weights = s.tally.weights) : s.Lightly t :=
  ⟨by rw [link], weights⟩

theorem State.Lightly.of_frame {s t : State} {bs : List Block} (h : s.sameExcept t bs)
    (out : ∀ b ∈ [Block.link, .tally], b ∉ bs := by decide) : s.Lightly t :=
  ⟨by rw [h.link (out _ (by simp))], by rw [h.tally (out _ (by simp))]⟩

theorem State.Lightly.trans {s u t : State} (h : s.Lightly u) (k : u.Lightly t) : s.Lightly t :=
  ⟨by rw [k.link, h.link], k.weights.trans h.weights⟩

theorem State.Lightly.ite {s t u : State} {c : Prop} [Decidable c] (h : s.Lightly t) (k : s.Lightly u) :
    s.Lightly (if c then t else u) := by
  split
  · exact h
  · exact k

theorem take_lightly (u : Usage) : s.Lightly (s.take u) := ⟨(take_mild s u).link, (take_counted s u).weights⟩

theorem evalConfirm_lightly : s.Lightly s.evalConfirm := .of_frame (evalConfirm_frame s)

theorem crankTransition_lightly (active : Bool) : s.Lightly (s.crankTransition active) := by
  cases active with
  | true =>
    have begun : s.Lightly s.beginCrank := .trans (.trans (u := { s with run := { s.run with measure := some s.now, attempt := 0 } })
      ⟨rfl, rfl⟩ (.of_frame (enterRun_frame ..))) (take_lightly ..)
    rw [crankTransition_press]
    exact .ite begun (.ite ⟨rfl, rfl⟩ (evalConfirm_lightly s))
  | false =>
    rw [crankTransition_release]
    refine (evalConfirm_lightly s).trans ?_
    cases measure : s.evalConfirm.run.measure with
    | none => rw [deliverCrank_of_none _ measure]; exact ⟨rfl, rfl⟩
    | some m => rw [deliverCrank_of_some _ measure]; exact .trans (.of_frame (crankMeasured_frame ..)) (take_lightly ..)

theorem publishLine_lightly (l : LineId) (active : Bool) : s.Lightly (s.publishLine l active) := by
  cases l with
  | key => exact ⟨rfl, rfl⟩
  | crank => exact crankTransition_lightly s active
  | clutch => exact .trans (.of_frame (evalGear_frame s)) (.of_frame (clutchTransition_frame ..))
  | reverse => exact .of_frame (evalGear_frame s)
  | ptoOn => exact .ite (.trans (.of_frame (ptoUpdate_frame s)) (take_lightly ..)) (.of_frame (ptoUpdate_frame s))

end

end Sys2Proof.Machine
end

-- ==== O15, O16 ====
section
/-! LINE_FILTER_EXPIRY and LINE_LEVEL_CHANGE (02 R37, R38). -/

namespace Sys2Proof.Machine

section
variable {s : State} {l : LineId}

/-! ## What a filtered transition comes to -/

variable (s l) in
theorem lineTransition_lines (active : Bool) : (s.lineTransition l active).lines =
    (s.setLineRecord l { s.lines[l.index] with filtered := active, timer := none }).lines := by
  rw [lineTransition_eq, (supervise_frame _).lines (by simp), (publishLine_blocks ..).lines (by simp), turned_lines]

theorem lineTransition_self (active : Bool) :
    (s.lineTransition l active).lines[l.index] = { s.lines[l.index] with filtered := active, timer := none } := by
  have set := setLineRecord_self s l { s.lines[l.index] with filtered := active, timer := none }
  rw [lineTransition_lines, set]

theorem lineTransition_ne (active : Bool) {k : LineId} (other : k ≠ l) : (s.lineTransition l active).lines[k.index] = s.lines[k.index] := by
  have set := setLineRecord_ne s l other { s.lines[l.index] with filtered := active, timer := none }
  rw [lineTransition_lines, set]

/-- A transition depends on the line's level and settings, not on its timer. -/
theorem lineTransition_congr {x y : InputLine} (same : { x with filtered := y.filtered, timer := y.timer } = y) (active : Bool) :
    (s.setLineRecord l x).lineTransition l active = (s.setLineRecord l y).lineTransition l active := by
  have one (z : InputLine) : (s.setLineRecord l z).setLineRecord l { (s.setLineRecord l z).lines[l.index] with
      filtered := active, timer := none } = s.setLineRecord l { z with filtered := active, timer := none } := by
    have set := setLineRecord_self s l z
    rw [set]
    simp only [State.setLineRecord, Vector.set_set]
  have turned : (s.setLineRecord l x).turned l active = (s.setLineRecord l y).turned l active := by
    rw [State.turned, State.turned, one, one, ← same]
  rw [lineTransition_eq, lineTransition_eq, turned]

theorem supervise_power (s : State) : s.supervise.sup.power = s.sup.power := rfl

theorem crankTransition_release_driveline (s : State) : (s.crankTransition false).driveline = s.driveline := by
  have confirmed : s.evalConfirm.driveline = s.driveline := (evalConfirm_frame s).driveline (by simp)
  rw [crankTransition_release, ← confirmed]
  cases measure : s.evalConfirm.run.measure with
  | none => rw [deliverCrank_of_none _ measure]
  | some m =>
    rw [deliverCrank_of_some _ measure]
    exact ((take_frame ..).driveline (by simp)).trans ((crankMeasured_frame ..).driveline (by simp))

theorem exec_lineFilterExpiry {due : Nat} (running : s.lines[l.index].timer = some due)
    (other : (s.lines[l.index].level == s.lines[l.index].setting.activeHigh) ≠ s.lines[l.index].filtered) :
    exec (.lineFilterExpiry l) s = .next ((s.reach due).lineTransition l !s.lines[l.index].filtered) := by
  have meaning : s.lines[l.index].meaning = !s.lines[l.index].filtered := Bool.eq_not.2 other
  show execLineFilterExpiry l s = _
  unfold execLineFilterExpiry
  dsimp only
  rw [running, meaning]
  exact if_neg (Bool.not_ne_self _)

/-! ## A level meets its filter -/

theorem filterLevel_of_same (same : s.lines[l.index].meaning = s.lines[l.index].filtered) :
    s.filterLevel l = s.setLineRecord l { s.lines[l.index] with timer := none } := if_pos same

theorem filterLevel_of_unfiltered (other : s.lines[l.index].meaning ≠ s.lines[l.index].filtered)
    (filter : s.lines[l.index].setting.filter = 0) : s.filterLevel l = s.lineTransition l s.lines[l.index].meaning :=
  (if_neg other).trans (if_pos filter)

theorem filterLevel_of_filtered (other : s.lines[l.index].meaning ≠ s.lines[l.index].filtered)
    (filter : 0 < s.lines[l.index].setting.filter) : s.filterLevel l =
      s.setLineRecord l { s.lines[l.index] with timer := s.startIn (s.lines[l.index].setting.filter * Config.ms) } :=
  (if_neg other).trans (if_neg filter.ne')

theorem filterLevel_ne {k : LineId} (other : k ≠ l) : (s.filterLevel l).lines[k.index] = s.lines[k.index] := by
  simp only [State.filterLevel]
  (repeat' split)
  · exact setLineRecord_ne s l other _
  · exact lineTransition_ne _ other
  · exact setLineRecord_ne s l other _

variable (s l) in
/-- The level an input line has from now on, before its filter sees it. -/
def State.levelled (high : Bool) : State := s.setLineRecord l { s.lines[l.index] with level := high }

theorem levelled_self (high : Bool) : (s.levelled l high).lines[l.index] = { s.lines[l.index] with level := high } :=
  setLineRecord_self s l _

theorem exec_lineLevelChange {high : Bool} {wait : Nat} (live : s.live = true) (started : s.sup.power ≠ .starting)
    (changes : s.lines[l.index].level ≠ high) :
    exec (.lineLevelChange l high wait) s = .next (((s.pass wait).levelled l high).filterLevel l) := by
  have filters : (s.live && decide (s.sup.power ≠ .starting)) = true := by rw [live, decide_eq_true started]; rfl
  exact (if_neg changes).trans (if_pos filters)

end

/-- Settles O15: by the filter's three answers; the unfiltered one is the expiry of a filter timer that is due now. -/
theorem lineLevelMeetsFilter : Obligations.LineLevelMeetsFilter := by
  unfold Obligations.LineLevelMeetsFilter
  intro s l high wait x live started changes
  let u : State := (s.pass wait).levelled l high
  have line : u.lines[l.index] = { x with level := high } := levelled_self high
  have meaning : u.lines[l.index].meaning = (high == x.setting.activeHigh) := by rw [line]; rfl
  have filtered : u.lines[l.index].filtered = x.filtered := by rw [line]
  have setting : u.lines[l.index].setting = x.setting := by rw [line]
  have before : s.sameExcept u [.time, .lines] :=
    .trans ((pass_frame s wait).mono (by simp)) ((setLineRecord_frame ..).mono (by simp))
  have all : s.sameExcept (u.filterLevel l) (.time :: lineBlocks) := .trans (before.mono (by simp)) ((filterLevel_frame u l).mono (by simp))
  have set (y : InputLine) : s.sameExcept (u.setLineRecord l y) [.time, .lines] := before.trans ((setLineRecord_frame ..).mono (by simp))
  have executed : exec (.lineLevelChange l high wait) s = .next (u.filterLevel l) := exec_lineLevelChange live started changes
  refine ⟨u.filterLevel l, executed, (filterLevel_frame u l).now (by simp), ⟨fun same => ?_, fun other filter => ?_, fun other filter => ?_⟩,
    fun k ne => (filterLevel_ne ne).trans (setLineRecord_ne (s.pass wait) l ne _), all.channels (by simp), all.clock (by simp),
    all.pins (by simp), all.store (by simp)⟩
  · rw [filterLevel_of_same (by rw [meaning, filtered, same]), setLineRecord_self, line]
    exact ⟨rfl, set _⟩
  · rw [filterLevel_of_filtered (by rw [meaning, filtered]; exact other) (by rw [setting]; exact filter), setLineRecord_self, line]
    exact ⟨rfl, set _⟩
  · have turns : u.filterLevel l = u.lineTransition l !x.filtered := by
      rw [filterLevel_of_unfiltered (by rw [meaning, filtered]; exact other) (by rw [setting]; exact filter), meaning, Bool.eq_not.2 other]
    refine ⟨?_, ?_⟩
    · rw [turns, lineTransition_self, line]
    · let due : InputLine := { x with level := high, timer := some (s.now + wait) }
      let v : State := (s.pass wait).setLineRecord l due
      have self : v.lines[l.index] = due := setLineRecord_self _ l due
      have reached : v.reach (s.now + wait) = v := congrArg (fun n => { v with now := n }) (max_self (s.now + wait))
      have expires := exec_lineFilterExpiry (s := v) (l := l) (due := s.now + wait) (by rw [self]) (by rw [self]; exact other)
      rw [executed, turns]
      refine .trans ?_ expires.symm
      rw [reached, self]
      exact congrArg Host.Outcome.next (lineTransition_congr rfl _)

/-- Settles O16: by the line, its block's operation after `turned`. -/
theorem filterExpiryTurnsLine : Obligations.FilterExpiryTurnsLine := by
  unfold Obligations.FilterExpiryTurnsLine
  intro s l due x active running running_timer other
  let w : State := (s.reach due).turned l active
  let v : State := w.publishLine l active
  have reached := reach_frame s due
  have turned : s.sameExcept w [.time, .lines, .sup, .tally, .ctl] :=
    .trans (reached.mono (by simp)) ((turned_frame ..).mono (by simp))
  have published : w.sameExcept v publishBlocks := publishLine_blocks ..
  have last : v.sameExcept v.supervise [.sup] := supervise_frame v
  have bears : s.Bears w := .trans (.of_frame reached) (turned_bears ..)
  have now : v.supervise.now = max s.now due := (published.now (by simp)).trans ((turned_frame ..).now (by simp))
  have sees : w.Sees v.supervise := .trans (.of_frame published) (.of_frame last)
  have run : w.run = s.run := turned.run (by simp)
  have driveline : w.driveline = s.driveline := turned.driveline (by simp)
  have checkpoint : w.ctl.checkpointTimer = s.ctl.checkpointTimer := turned_checkpoint ..
  have counted {xs : List Quantum} (h : w.Counted v xs) : s.Counted v.supervise xs := (h.of_later bears).after (supervise_bears v)
  have still (h : w.Bears v) : s.Bears v.supervise := bears.trans (h.trans (supervise_bears v))
  have light : s.Lightly v.supervise :=
    .trans (.trans (.of_same (turned.link (by simp)) bears.weights) (publishLine_lightly w l active)) (.of_frame last)
  have wakes : (active && l.wakes) = true ↔ active = true ∧ (l = .key ∨ l = .crank ∨ l = .ptoOn) := by
    rw [Bool.and_eq_true, wakes_iff]
  have power : v.supervise.sup.power = w.sup.power :=
    (supervise_power v).trans (congrArg Supervisor.power (published.sup (by simp)))
  have judged (h : w.gearJudged v) : s.gearJudged v.supervise :=
    h.congr (by rw [driveline]) (by rw [driveline]) (by rw [driveline]) (.of_frame last) rfl rfl
  refine ⟨v.supervise, exec_lineFilterExpiry running_timer other, now, lineTransition_self active,
    fun k => lineTransition_ne active, ?_, ?_, ?_, ?_, light.link, light.weights, ?_, fun quiet => ?_,
    fun key => ?_, fun reverse => ?_, fun clutch => ?_, fun pto => ?_, fun crank on => ?_, fun crank off => ?_⟩
  · exact (published.channels (by simp)).trans (turned.channels (by simp))
  · exact (published.clock (by simp)).trans (turned.clock (by simp))
  · exact (published.pins (by simp)).trans (turned.pins (by simp))
  · exact (published.store (by simp)).trans (turned.store (by simp))
  · refine power.trans ((turned_power (s.reach due) l active).trans ?_)
    simp only [wakes, and_assoc]
    rfl
  · have driven : w.sameExcept v [.driveline] := by
      rcases quiet with rfl | rfl | rfl
      · exact .refl ..
      · exact evalGear_frame w
      · exact (evalGear_frame w).trans (clutchTransition_frame ..)
    have same : w.Bears v := .of_frame driven
    have all := still same
    exact ⟨(driven.run (by simp)).trans run, all.book, all.table, all.fitment, all.orphans, (driven.link (by simp)).trans (turned.link (by simp))⟩
  · subst key
    exact driveline
  · subst reverse
    have gear : v.driveline = _ := evalGear_driveline w
    refine ⟨judged (evalGear_judged w), ?_, ?_⟩
    · show v.driveline.clutch = _
      rw [gear, driveline]
    · show v.driveline.launchTimer = _
      rw [gear, driveline]
  · subst clutch
    have evaluated := evalGear_frame w
    have moved : w.evalGear.sameExcept v [.driveline] := clutchTransition_frame ..
    have engine : w.evalGear.run.state = s.run.state := congrArg RunDetector.state ((evaluated.run (by simp)).trans run)
    have parts : v.driveline = _ := clutchTransition_driveline w.evalGear active
    have stands : v.supervise.stands ↔ w.evalGear.stands :=
      stands_congr (.trans (.of_frame moved) (.of_frame last)) (by show v.driveline.settings = _; rw [parts])
    obtain ⟨pends, engages, releases⟩ := clutchTransition_spec w.evalGear active
    refine ⟨judged ((evalGear_judged w).congr rfl rfl rfl (.of_frame moved) (by rw [parts]) (by rw [parts])), fun on engineOn standing => ?_,
      fun on calm => ?_, releases⟩
    · exact (pends_congr (.of_frame last) rfl).2 (pends on (engine.trans engineOn) (stands.1 standing))
    · exact engages on fun k => calm ⟨engine.symm.trans k.1, stands.2 k.2⟩
  · subst pto
    obtain ⟨parts, count⟩ := ptoTransition_spec w (turned_lineActive (s.reach due) .ptoOn active)
    have still : v.run = w.run := (ptoTransition_frame w active).run (by simp)
    rw [run] at parts count
    rw [driveline] at parts
    exact ⟨still.trans run, parts, (counted count).routed⟩
  · subst crank
    have key : w.lineActive .key = s.lineActive .key := turned_lineActive_ne (s.reach due) .crank active (by decide)
    have pressed : v = w.crankTransition true := congrArg w.crankTransition on
    refine ⟨fun engineOff keyOn => ?_, fun cranking => ?_, fun other => ?_⟩
    · obtain ⟨ran, measure, attempt, settings, count⟩ := beginCrank_spec w
      have begun : v = w.beginCrank := pressed.trans (crankTransition_of_off w (by rw [run]; exact engineOff) (key.trans keyOn))
      rw [← begun] at ran measure attempt settings count
      have ranOn : w.ranTo v.supervise .cranking := ran.then (.of_frame last) rfl rfl fun h => (nomatch h)
      refine ⟨ranOn.of_later (by rw [run]) driveline checkpoint, ?_, attempt, settings.trans (by rw [run]), (counted count).routed⟩
      rw [sees.now]
      exact measure
    · let k : State := { w with run := { w.run with measure := some (w.run.measure.getD w.now) } }
      have kept : v = k.evalConfirm := pressed.trans (crankTransition_of_cranking w (by rw [run]; exact cranking))
      have follows : k.timersFollow v := by rw [kept]; exact evalConfirm_timersFollow k
      have frame : w.sameExcept v [.run] := by rw [kept]; exact .trans (t := k) (by simp [State.sameExcept, k]) (evalConfirm_frame k)
      refine ⟨(follows.then (.of_frame last) rfl).of_later (by rw [← run]) (by rw [← run]), (frame.driveline (by simp)).trans driveline,
        (counted (.nil (.of_frame frame))).routed, ?_⟩
      rw [sees.now, ← run]
      show v.run = { w.run with
        measure := some (w.run.measure.getD w.now), runTimer := v.run.runTimer, stopTimer := v.run.stopTimer }
      rw [kept]
      rfl
    · have calm : v = w.evalConfirm := pressed.trans (crankTransition_of_other w (by rw [run, key]; exact other))
      have follows : w.confirmFollows v := by rw [calm]; exact evalConfirm_follows w
      have frame : w.sameExcept v [.run] := by rw [calm]; exact evalConfirm_frame w
      exact ⟨follows.congr run (.of_frame last) rfl, (frame.driveline (by simp)).trans driveline, (counted (.nil (.of_frame frame))).routed⟩
  · subst crank
    have released : v = w.crankTransition false := congrArg w.crankTransition off
    refine ⟨?_, fun none => ?_, fun m some => ?_⟩
    · refine (.trans (congrArg State.driveline released) ?_ : v.driveline = s.driveline)
      rw [crankTransition_release_driveline, driveline]
    · have calm : v = w.evalConfirm := released.trans (deliverCrank_of_none w.evalConfirm (by rw [← run] at none; exact none))
      have follows : w.confirmFollows v := by rw [calm]; exact evalConfirm_follows w
      have frame : w.sameExcept v [.run] := by rw [calm]; exact evalConfirm_frame w
      exact ⟨follows.congr run (.of_frame last) rfl, (counted (.nil (.of_frame frame))).routed⟩
    · obtain ⟨follows, after, count⟩ := crankRelease_spec w (m := m) (by rw [run]; exact some)
      rw [← released] at follows after count
      rw [sees.now, ← run]
      exact ⟨(follows.then (.of_frame last) rfl).of_later (by rw [run]) (by rw [run]), after, (counted count).routed⟩

end Sys2Proof.Machine
end

-- ==== Towed-revolution reports ====
section
/-! SUPPORT. The revolution of a channel and its report to the tow detector (02 R30; 04 R69 to R72, R80). -/

namespace Sys2Proof.Machine

/-! ## Which channel holds a function -/

section
variable (s : State)

theorem channelFunction_setChannelRecord {i : Fin 10} {x : Channel} (same : x.cfg.function = s.channels[i].cfg.function) (j : Fin 10) :
    (s.setChannelRecord i x).channels[j].cfg.function = s.channels[j].cfg.function := by
  by_cases e : i = j
  · subst e
    rw [← same]
    exact congrArg (fun c : Channel => c.cfg.function) (Vector.getElem_set_self ..)
  · exact congrArg (fun c : Channel => c.cfg.function)
      (Vector.getElem_set_ne i.isLt j.isLt fun k => e (Fin.ext k))

/-- A channel that keeps its function leaves the holder of every function as it is. -/
theorem channelOf_setChannelRecord {i : Fin 10} {x : Channel} (same : x.cfg.function = s.channels[i].cfg.function) (f : ChannelFunction) :
    (s.setChannelRecord i x).channelOf f = s.channelOf f := by
  simp only [State.channelOf, channelFunction_setChannelRecord s same]

/-! ## The tow state (R69, R72) -/

theorem setTow_driveline (t : TowState) : (s.setTow t).driveline = { s.driveline with tow := t } :=
  (noteUse_frame { s with driveline := { s.driveline with tow := t } } s.inUse).driveline (by simp)

/-- The counts a report adds to: fresh ones where it opens TOW_SUSPECT. -/
def State.openCounts (s : State) : Vector Nat 6 :=
  if s.driveline.tow = .notTowing then Vector.replicate 6 0 else s.driveline.towCounts

/-- The counts after a report of count k. -/
def State.reportedCounts (s : State) (k : Fin 6) : Vector Nat 6 := s.openCounts.set k (min 65535 (s.openCounts[k] + 1))

theorem countTow_driveline (k : Fin 6) : (s.countTow k).driveline = { s.driveline with
    tow := if s.driveline.tow = .notTowing then .towSuspect else s.driveline.tow, towCounts := s.reportedCounts k } := by
  unfold State.countTow State.reportedCounts State.openCounts
  by_cases calm : s.driveline.tow = .notTowing
  · rw [if_pos calm, if_pos calm, if_pos calm]
    simp only [setTow_driveline]
    rfl
  · rw [if_neg calm, if_neg calm, if_neg calm]
    rfl

/-! ## The threshold test (R70) -/

theorem towReached_self {f : ChannelFunction} {k : Fin 6} (index : f.towIndex = some k)
    (reached : s.driveline.settings.towThreshold ≤ s.driveline.towCounts[k]) : s.towReached f = some f := by
  refine List.find?_cons_of_pos ?_
  rw [index]
  exact decide_eq_true reached

theorem towReached_none (f : ChannelFunction) (below : ∀ j : Fin 6, s.driveline.towCounts[j] < s.driveline.settings.towThreshold) :
    s.towReached f = none := by
  refine List.find?_eq_none.2 fun g _ => ?_
  cases g.towIndex with
  | none => exact Bool.false_ne_true
  | some j => exact fun h => absurd (of_decide_eq_true h) (Nat.not_le.2 (below j))

/-- TOWING begins, named by the channel of g: TOW_STARTED, and one more tow episode. -/
def State.towBegun (s : State) (g : ChannelFunction) : State := ((s.setTow .towing).raise .towStarted (.channel (s.channelOf g))).towEpisode

theorem testTow_of_towing (towing : s.driveline.tow = .towing) (f : ChannelFunction) : s.testTow f = s :=
  if_neg (by rw [towing]; decide)

theorem testTow_of_none {f : ChannelFunction} (none : s.towReached f = none) : s.testTow f = s := by
  unfold State.testTow
  rw [none]
  exact ite_self _

theorem testTow_of_some {f g : ChannelFunction} (suspect : s.driveline.tow = .towSuspect) (some : s.towReached f = some g) :
    s.testTow f = s.towBegun g := by
  rw [State.testTow, if_pos suspect, some]
  rfl

/-! ## What beginning to tow leaves (R70, R135) -/

theorem towEpisode_of_none (none : s.book.places[s.book.openPlace].header = none) : s.towEpisode = s := by
  rw [State.towEpisode, none]

theorem towEpisode_of_some {h : Header} (header : s.book.places[s.book.openPlace].header = some h) : s.towEpisode.book =
    { s.book with places := s.book.places.set s.book.openPlace { s.book.places[s.book.openPlace] with
      header := some { h with info := h.info.map fun i => { i with tows := min 65535 (i.tows + 1) } } } } := by
  rw [State.towEpisode, header]
  rfl

/-- What changes a header of the book alone counts nothing. -/
theorem State.Counted.of_header {s t : State} (orphans : t.tally.orphans = s.tally.orphans) (weights : t.tally.weights = s.tally.weights)
    (table : t.table = s.table) (fitment : t.fitment = s.fitment)
    (lines : t.book.places[s.book.openPlace].lines = s.book.places[s.book.openPlace].lines)
    (others : ∀ pl : Fin 24, pl ≠ s.book.openPlace → t.book.places[pl] = s.book.places[pl]) (oldest : t.book.oldest = s.book.oldest)
    (newest : t.book.newest = s.book.newest) : s.Counted t [] := by
  have bears : s.Bears { t with book := s.book } := ⟨orphans, weights, table, fitment, rfl⟩
  obtain ⟨⟨holders, orphan, slots, map, context, -, -, -, -, weight⟩, holder⟩ := State.Counted.nil bears
  exact ⟨⟨holders, orphan, slots, map, context, lines, others, oldest, newest, weight⟩, holder⟩

theorem towEpisode_counted : s.Counted s.towEpisode [] := by
  have frame := towEpisode_frame s
  cases header : s.book.places[s.book.openPlace].header with
  | none => rw [towEpisode_of_none s header]; exact .nil (.refl s)
  | some h =>
    have book := towEpisode_of_some s header
    refine .of_header (by rw [frame.tally (by simp)]) (by rw [frame.tally (by simp)]) (frame.table (by simp)) (frame.fitment (by simp))
      ?_ (fun pl other => ?_) (by rw [book]) (by rw [book]) <;> rw [book]
    · exact (congrArg Place.lines (Vector.getElem_set_self ..)).trans rfl
    · exact Vector.getElem_set_ne s.book.openPlace.isLt pl.isLt fun k => other (Fin.ext k.symm)

section
variable (g : ChannelFunction)

theorem towBegun_driveline : (s.towBegun g).driveline = { s.driveline with tow := .towing } :=
  ((towEpisode_frame _).driveline (by simp)).trans (((raise_frame ..).driveline (by simp)).trans (setTow_driveline s .towing))

theorem towBegun_counted : s.Counted (s.towBegun g) [] :=
  (towEpisode_counted _).of_later (.trans (.of_frame (setTow_frame s .towing)) (.of_frame (raise_frame ..)))

theorem towBegun_link : (s.towBegun g).link = (s.raise .towStarted (.channel (s.channelOf g))).link := by
  have tow : (s.setTow .towing).link = s.link := (setTow_frame s .towing).link (by simp)
  have ended : (s.towBegun g).link = ((s.setTow .towing).raise .towStarted (.channel (s.channelOf g))).link :=
    (towEpisode_frame _).link (by simp)
  rw [ended]
  unfold State.raise State.level State.notice
  rw [tow]
  split <;> simp only [tow]

theorem towBegun_header {h : Header} {i : PeriodInfo} (header : s.book.places[s.book.openPlace].header = some h) (info : h.info = some i) :
    (s.towBegun g).book.places[s.book.openPlace].header = some { h with info := some { i with tows := min 65535 (i.tows + 1) } } := by
  have book : ((s.setTow .towing).raise .towStarted (.channel (s.channelOf g))).book = s.book :=
    ((raise_frame ..).book (by simp)).trans ((setTow_frame s .towing).book (by simp))
  have ended := towEpisode_of_some ((s.setTow .towing).raise .towStarted (.channel (s.channelOf g))) (h := h) (by simp only [book]; exact header)
  rw [State.towBegun, ended]
  simp only [book, info]
  exact congrArg Place.header (Vector.getElem_set_self ..)

end

/-! ## A report (R69 to R71) -/

theorem quiet_congr {t : State} (sees : s.Sees t) : t.quiet = s.quiet := by simp only [State.quiet, sees.shaft]

/-- A report before its threshold test: the count is taken, and where the tractor is quiet the quiet timer is started. -/
def State.towOpened (s : State) (k : Fin 6) : State := if (s.countTow k).quiet = true then (s.countTow k).startQuiet else s.countTow k

theorem towReport_of_none {f : ChannelFunction} (index : f.towIndex = none) : s.towReport f = s := by rw [State.towReport, index]

theorem towReport_of_some {f : ChannelFunction} {k : Fin 6} (index : f.towIndex = some k) : s.towReport f = (s.towOpened k).testTow f := by
  rw [State.towReport, index]
  rfl

section
variable (k : Fin 6)

theorem towOpened_frame : s.sameExcept (s.towOpened k) [.driveline, .ctl] :=
  .trans (countTow_frame s k) (.ite (fun _ => (startQuiet_frame _).mono (by simp)) fun _ => .refl ..)

theorem towOpened_driveline : (s.towOpened k).driveline = { s.driveline with
    tow := if s.driveline.tow = .notTowing then .towSuspect else s.driveline.tow, towCounts := s.reportedCounts k
    quietTimer := if s.quiet = true then some (s.now + s.driveline.settings.quietTime * 250000) else s.driveline.quietTimer } := by
  have counted := countTow_frame s k
  have quiet : (s.countTow k).quiet = s.quiet := quiet_congr s (.of_frame counted)
  have started : (s.countTow k).startQuiet.driveline = { (s.countTow k).driveline with
      quietTimer := some ((s.countTow k).now + (s.countTow k).driveline.settings.quietTime * 250000) } := rfl
  unfold State.towOpened
  rw [quiet]
  split
  · rw [started, countTow_driveline, counted.now (by simp)]
  · rw [countTow_driveline]

end

/-- What a threshold test can do: begin to tow, or nothing. -/
theorem testTow_cases (f : ChannelFunction) : s.testTow f = s ∨ ∃ g, s.testTow f = s.towBegun g := by
  by_cases suspect : s.driveline.tow = .towSuspect
  · cases reached : s.towReached f with
    | none => exact .inl (testTow_of_none s reached)
    | some g => exact .inr ⟨g, testTow_of_some s suspect reached⟩
  · exact .inl (if_neg suspect)

section
variable (f : ChannelFunction)

theorem testTow_driveline : (s.testTow f).driveline = { s.driveline with tow := (s.testTow f).driveline.tow } := by
  rcases testTow_cases s f with same | ⟨g, begun⟩
  · rw [same]
  · rw [begun, towBegun_driveline]

theorem testTow_counted : s.Counted (s.testTow f) [] := by
  rcases testTow_cases s f with same | ⟨g, begun⟩
  · rw [same]
    exact .nil (.refl s)
  · rw [begun]
    exact towBegun_counted s g

theorem testTow_raises : (s.testTow f).link = s.link ∨ ∃ d, (s.testTow f).link = (s.raise .towStarted d).link := by
  rcases testTow_cases s f with same | ⟨g, begun⟩
  · rw [same]
    exact .inl rfl
  · rw [begun]
    exact .inr ⟨_, towBegun_link s g⟩

theorem towReport_counted : s.Counted (s.towReport f) [] := by
  cases index : f.towIndex with
  | none =>
    rw [towReport_of_none s index]
    exact .nil (.refl s)
  | some k =>
    rw [towReport_of_some s index]
    exact (testTow_counted _ f).of_later (.of_frame (towOpened_frame s k))

/-- A report changes tow state, counts and quiet timer of the driveline alone. -/
theorem towReport_driveline : (s.towReport f).driveline = { s.driveline with
    tow := (s.towReport f).driveline.tow, towCounts := (s.towReport f).driveline.towCounts, quietTimer := (s.towReport f).driveline.quietTimer } := by
  cases index : f.towIndex with
  | none => rw [towReport_of_none s index]
  | some k => rw [towReport_of_some s index, testTow_driveline, towOpened_driveline]

theorem towReport_quietTimer (index : f.towIndex ≠ none) : (s.towReport f).driveline.quietTimer =
    if s.quiet = true then some (s.now + s.driveline.settings.quietTime * 250000) else s.driveline.quietTimer := by
  obtain ⟨k, index⟩ := Option.ne_none_iff_exists'.1 index
  rw [towReport_of_some s index, testTow_driveline, towOpened_driveline]

theorem towReport_link : (s.towReport f).link = { s.link with notices := (s.towReport f).link.notices } := by
  cases index : f.towIndex with
  | none => rw [towReport_of_none s index]
  | some k =>
    have before : (s.towOpened k).link = s.link := (towOpened_frame s k).link (by simp)
    rw [towReport_of_some s index]
    rcases testTow_raises (s.towOpened k) f with same | ⟨d, raised⟩
    · rw [same, before]
    · rw [raised, raise_link, before]

/-- What a report counts and begins (R69, R70). -/
theorem towReport_reported : s.towReported (s.towReport f) f := by
  intro k index
  rw [towReport_of_some s index]
  have before := towOpened_frame s k
  have opened := towOpened_driveline s k
  have counts : (s.towOpened k).driveline.towCounts = s.reportedCounts k := by rw [opened]
  have threshold : (s.towOpened k).driveline.settings.towThreshold = s.driveline.settings.towThreshold := by rw [opened]
  have book : (s.towOpened k).book = s.book := before.book (by simp)
  have link : (s.towOpened k).link = s.link := before.link (by simp)
  have channel : (s.towOpened k).channelOf f = s.channelOf f := by simp only [State.channelOf, before.channels (by simp)]
  have suspect (other : s.driveline.tow ≠ .towing) : (s.towOpened k).driveline.tow = .towSuspect := by
    rw [opened]
    cases tow : s.driveline.tow with
    | notTowing => rfl
    | towSuspect => rfl
    | towing => exact absurd tow other
  refine ⟨?_, fun towing => ?_, fun other reached => ?_, fun other below => ?_⟩
  · rw [testTow_driveline]
    exact counts
  · have still : (s.towOpened k).driveline.tow = .towing := by rw [opened, towing]; rfl
    rw [testTow_of_towing _ still]
    exact still
  · have here : (s.reportedCounts k)[k] = min 65535 (s.openCounts[k] + 1) := Vector.getElem_set_self ..
    have found : (s.towOpened k).towReached f = some f :=
      towReached_self _ index (by rw [threshold]; simp only [counts]; rw [here]; exact reached)
    rw [testTow_of_some _ (suspect other) found]
    have raised : ((s.towOpened k).towBegun f).notice .towStarted = s.noticeAfter .towStarted (.channel (s.channelOf f)) (s.notice .towStarted) := by
      rw [notice_of_link (towBegun_link (s.towOpened k) f), raise_notice_self, channel, notice_of_link link]
      exact noticeAfter_congr (by rw [link]) ..
    refine ⟨by rw [towBegun_driveline], fun on => ?_, fun on absent => ?_, fun h i header info => ?_⟩
    · rw [raised]
      exact noticeAfter_ne_none s _ _ on _
    · rw [raised, absent]
      exact noticeAfter_none s _ _ on
    · have tallied := towBegun_header (s.towOpened k) f (h := h) (by simp only [book]; exact header) info
      simp only [book] at tallied
      exact tallied
  · have none : (s.towOpened k).towReached f = none :=
      towReached_none _ f fun j => by rw [threshold]; simp only [counts]; exact below j
    rw [testTow_of_none _ none]
    exact ⟨suspect other, notice_of_link link _, by rw [book]⟩

end

end

end Sys2Proof.Machine
end

-- ==== Revolutions ====
section
/-! SUPPORT. A revolution at the holders and at the tow detector (02 R30; 04 R69, R80), and what an edge hands on in all (02 R34). -/

namespace Sys2Proof.Machine

/-! ## What the tow report of an edge rests on -/

/-- From s to t notice settings, TOW_STARTED, the open record and the headers stay. -/
structure State.KeepsTow (s t : State) : Prop where
  settings : t.link.settings = s.link.settings
  notice   : t.notice .towStarted = s.notice .towStarted
  page     : t.book.openPlace = s.book.openPlace
  header   : ∀ pl : Fin 24, t.book.places[pl].header = s.book.places[pl].header

namespace State.KeepsTow

variable {s t u : State}

theorem of_same (link : t.link = s.link) (book : t.book = s.book) : s.KeepsTow t :=
  ⟨by rw [link], notice_of_link link _, by rw [book], fun pl => by rw [book]⟩

theorem of_frame {bs : List Block} (h : s.sameExcept t bs) (out : ∀ b ∈ [Block.book, .link], b ∉ bs := by decide) : s.KeepsTow t :=
  of_same (h.link (out _ (by simp))) (h.book (out _ (by simp)))

theorem refl (s : State) : s.KeepsTow s := of_same rfl rfl

theorem trans (h : s.KeepsTow u) (k : u.KeepsTow t) : s.KeepsTow t :=
  ⟨k.settings.trans h.settings, k.notice.trans h.notice, k.page.trans h.page, fun pl => (k.header pl).trans (h.header pl)⟩

end State.KeepsTow

theorem take_keepsTow (s : State) (u : Usage) : s.KeepsTow (s.take u) where
  settings := by rw [(take_mild s u).link]
  notice := (take_mild s u).others .towStarted (by decide)
  page := by
    obtain ⟨-, -, -, -, -, -, -, -, newest, -⟩ := take_routed s u
    rw [Book.openPlace, newest]
    rfl
  header := routeAll_header s u.quanta

theorem raise_keepsTow (s : State) {k : NoticeKind} (other : NoticeKind.towStarted ≠ k) (d : Detail) : s.KeepsTow (s.raise k d) where
  settings := by rw [raise_link]
  notice := raise_notice_ne s d other
  page := by rw [(raise_frame s k d).book (by simp)]
  header pl := by rw [(raise_frame s k d).book (by simp)]

section
variable {s t u : State} {f : ChannelFunction}

theorem State.towReported.of_later (h : u.towReported t f) (driveline : u.driveline = s.driveline) (channel : u.channelOf f = s.channelOf f)
    (keeps : s.KeepsTow u) : s.towReported t f := by
  intro k index
  obtain ⟨counts, towing, reached, below⟩ := h k index
  have level : u.level .towStarted = s.level .towStarted := level_of_settings keeps.settings _
  rw [driveline, level, keeps.notice, channel] at reached
  rw [driveline] at counts towing below
  simp only [keeps.page, keeps.header, keeps.notice] at reached below
  exact ⟨counts, towing, reached, below⟩

theorem State.towReported.then (h : s.towReported u f) (counts : t.driveline.towCounts = u.driveline.towCounts)
    (tow : t.driveline.tow = u.driveline.tow) (keeps : u.KeepsTow t) : s.towReported t f := by
  intro k index
  obtain ⟨count, towing, reached, below⟩ := h k index
  simp only [counts, tow, keeps.notice, keeps.header]
  exact ⟨count, towing, reached, below⟩

end

/-! ## A revolution -/

section
variable (s : State) (f : ChannelFunction)

theorem revolution_of_running (running : s.run.state = .running) : s.revolution f = s.take (.revolution f true) := by
  rw [State.revolution, decide_eq_true running]
  rfl

theorem revolution_of_other (other : s.run.state ≠ .running) : s.revolution f = (s.take (.revolution f false)).towReport f := by
  rw [State.revolution, decide_eq_false other]
  rfl

/-- The quanta of an edge, split by what hands them on (R34). -/
theorem edgeQuanta_eq (rev launch speeding : Bool) : s.edgeQuanta f rev launch speeding =
    (if rev = true then (Usage.revolution f (decide (s.run.state = .running))).quanta else []) ++
    (if launch = true then [quantum .clutch .launches 1] else []) ++ (if speeding = true then (Usage.overspeed f).quanta else []) := by
  have rest : (if speeding = true then (Usage.overspeed f).quanta else []) =
      if speeding = true ∧ f = .engineSpeed then [quantum .engine .overspeedEvents 1]
      else if speeding = true ∧ f = .gearIn then [quantum .gearbox .overspeedEvents 1] else [] := by
    cases speeding <;> simp [Usage.quanta]
  rw [rest]
  cases rev with
  | false => rfl
  | true => by_cases running : s.run.state = .running <;> simp [State.edgeQuanta, Usage.quanta, quantum, running]

theorem revolution_counted : s.Counted (s.revolution f) (Usage.revolution f (decide (s.run.state = .running))).quanta := by
  by_cases running : s.run.state = .running
  · rw [revolution_of_running s f running, decide_eq_true running]
    exact take_counted ..
  · rw [revolution_of_other s f running, decide_eq_false running]
    exact ((take_counted ..).trans (towReport_counted _ f)).cast (List.append_nil _)

/-- A revolution that is not reported is routed, and that is all. -/
theorem revolution_of_unreported (unreported : s.run.state = .running ∨ f.towIndex = none) :
    s.revolution f = s.take (.revolution f (decide (s.run.state = .running))) := by
  by_cases running : s.run.state = .running
  · rw [revolution_of_running s f running, decide_eq_true running]
  · rw [revolution_of_other s f running, decide_eq_false running, towReport_of_none _ (unreported.resolve_left running)]

theorem take_driveline (u : Usage) : (s.take u).driveline = s.driveline := (take_frame s u).driveline (by simp)

/-- A revolution changes tow state, counts and quiet timer of the driveline alone. -/
theorem revolution_driveline : (s.revolution f).driveline = { s.driveline with
    tow := (s.revolution f).driveline.tow, towCounts := (s.revolution f).driveline.towCounts, quietTimer := (s.revolution f).driveline.quietTimer } := by
  by_cases running : s.run.state = .running
  · rw [revolution_of_running s f running, take_driveline]
  · rw [revolution_of_other s f running, towReport_driveline, take_driveline]

theorem revolution_reported (other : s.run.state ≠ .running) : s.towReported (s.revolution f) f := by
  rw [revolution_of_other s f other]
  refine (towReport_reported _ f).of_later (take_driveline ..) ?_ (take_keepsTow ..)
  simp only [State.channelOf, (take_frame s _).channels (by simp)]

theorem revolution_quietTimer (other : s.run.state ≠ .running) (index : f.towIndex ≠ none) : (s.revolution f).driveline.quietTimer =
    if s.quiet = true then some (s.now + s.driveline.settings.quietTime * 250000) else s.driveline.quietTimer := by
  have counted := take_frame s (.revolution f false)
  have quiet := quiet_congr s (.of_frame counted)
  rw [revolution_of_other s f other, towReport_quietTimer _ f index, quiet, counted.now (by simp), take_driveline]

theorem revolution_settings : (s.revolution f).link.settings = s.link.settings := by
  by_cases running : s.run.state = .running
  · rw [revolution_of_running s f running, (take_mild ..).link]
  · rw [revolution_of_other s f running, towReport_link, (take_mild ..).link]

end

end Sys2Proof.Machine
end

-- ==== An edge that ends no period (O10) ====
section
/-! ACTIVE_EDGE (02 R25): what every edge leaves to the observers, and the edge that starts a capture in STOPPED. -/

namespace Sys2Proof.Machine

section
variable (s : State) (i : Fin 10) (wait : Nat) (c : Channel)

/-- An edge is noted at its channel, and the recorder woken; nothing is handed on yet (R25, R179). -/
def State.edged : State := (s.pass wait).wake.setChannelRecord i c

theorem edged_frame : s.sameExcept (s.edged i wait c) [.time, .channels, .sup, .tally, .ctl] :=
  .trans (.trans ((pass_frame s wait).mono (by simp)) ((wake_frame _).mono (by simp))) ((setChannelRecord_frame ..).mono (by simp))

theorem edged_bears : s.Bears (s.edged i wait c) :=
  .trans (.trans (.of_frame (pass_frame s wait)) (wake_bears _)) (.of_frame (setChannelRecord_frame ..))

theorem edged_checkpointTimer : (s.edged i wait c).ctl.checkpointTimer = s.ctl.checkpointTimer := by
  show (s.pass wait).wake.ctl.checkpointTimer = s.ctl.checkpointTimer
  rw [wake_ctl]
  rfl

theorem edged_power : (s.edged i wait c).sup.power =
    if s.sup.power = .draining ∨ s.sup.power = .dormant then .active else s.sup.power := wake_power_eq (s.pass wait)

theorem edged_self : (s.edged i wait c).channels[i] = c := Vector.getElem_set_self ..

theorem edged_channelOf (same : c.cfg.function = s.channels[i].cfg.function) (f : ChannelFunction) :
    (s.edged i wait c).channelOf f = s.channelOf f := by
  have before : (s.pass wait).wake.channels = s.channels := (wake_frame (s.pass wait)).channels (by simp)
  have set := channelOf_setChannelRecord (s.pass wait).wake (i := i) (x := c) (by rw [before]; exact same) f
  refine set.trans ?_
  simp only [State.channelOf, before]

/-- An edge: noted, handed on, and the dormancy conditions looked at. -/
theorem takeEdge_eq {r : Channel × EdgeReport} (edge : s.channels[i].edge (s.now + wait) = r) : (s.pass wait).takeEdge i =
    ((s.edged i wait r.1).handOn i r.2 (decide (s.sup.power ≠ .dormant))).supervise := by
  have channels : (s.pass wait).wake.channels = s.channels := (wake_frame (s.pass wait)).channels (by simp)
  have now : (s.pass wait).wake.now = s.now + wait := (wake_frame (s.pass wait)).now (by simp)
  subst edge
  unfold State.takeEdge State.edged
  simp only [channels, now]
  rfl

theorem accept_eq : c.accept = ({ c with tooth := if c.tooth + 1 < c.cfg.edgesPerRev then c.tooth + 1 else 0 },
    decide (c.cfg.edgesPerRev ≤ c.tooth + 1)) := by
  unfold Channel.accept
  by_cases full : c.cfg.edgesPerRev ≤ c.tooth + 1
  · rw [if_pos full, if_neg (Nat.not_lt.2 full), decide_eq_true full]
  · rw [if_neg full, if_pos (Nat.not_le.1 full), decide_eq_false full]

/-- What an edge hands on that completes a revolution at most. -/
theorem handOn_revolution (rev published : Bool) : s.handOn i { EdgeReport.silent with revolution := rev } published =
    if rev = true then s.revolution s.channels[i].cfg.function else s := rfl

end

theorem exec_activeEdge_ignored {s : State} {i : Fin 10} {rising : Bool} (wait : Nat)
    (ignored : s.live = false ∨ s.channels[i].state = .disabled ∨ s.sup.power = .starting ∨ s.channels[i].cfg.edgeMode.isActive rising = false) :
    exec (.activeEdge i rising wait) s = .next (s.pass wait) := by
  have closed : ¬(s.live && decide (s.sup.power ≠ .starting) && decide (s.channels[i].state ≠ .disabled) &&
      s.channels[i].cfg.edgeMode.isActive rising) = true := by
    simp only [Bool.and_eq_true, decide_eq_true_eq]
    rintro ⟨⟨⟨live, started⟩, enabled⟩, active⟩
    rcases ignored with h | h | h | h
    · exact nomatch h.symm.trans live
    · exact enabled h
    · exact started h
    · exact nomatch h.symm.trans active
  exact if_neg closed

/-- Settles O10: an edge that ends no period hands on a revolution at most. -/
theorem edgeIgnoredOrCaptured : Obligations.EdgeIgnoredOrCaptured := by
  unfold Obligations.EdgeIgnoredOrCaptured
  intro s i rising wait c e f rev
  refine ⟨fun ignored => exec_activeEdge_ignored wait ignored, fun live started stopped active idle => ?_⟩
  let x : Channel := { c with capture := some (s.now + wait), tooth := if c.tooth + 1 < e then c.tooth + 1 else 0 }
  have enabled : c.state ≠ .disabled := by rw [stopped]; decide
  have edge : c.edge (s.now + wait) = (x, { EdgeReport.silent with revolution := rev }) := by
    rw [Channel.edge, idle]
    dsimp only
    rw [accept_eq]
    rfl
  have executed := edge_run s i rising wait live started enabled active
  have frame := edge_frame s i wait
  have now := edge_now s i wait
  have self := edge_self s i wait _ edge
  have taken := takeEdge_eq s i wait edge
  have others := fun j (other : j ≠ i) => edge_other s i j wait other
  have noted := edged_frame s i wait x
  have bears := edged_bears s i wait x
  have power := edged_power s i wait x
  have channel := edged_channelOf s i wait x rfl f
  have chan := edged_self s i wait x
  generalize (s.pass wait).takeEdge i = t at *
  generalize s.edged i wait x = u at *
  have driveline : u.driveline = s.driveline := noted.driveline (by simp)
  have run : u.run = s.run := noted.run (by simp)
  rw [handOn_revolution, chan] at taken
  have handed : u.sameExcept t (.sup :: reportBlocks) := by
    rw [taken]
    exact .trans (.ite (fun _ => (revolution_frame ..).mono (by simp)) fun _ => .refl ..) ((supervise_frame _).mono (by simp))
  have counted : s.Counted t ((if rev = true then (Usage.revolution f (decide (s.run.state = .running))).quanta else []) ++ [] ++ []) := by
    rw [taken, List.append_nil, List.append_nil]
    refine (State.Counted.of_later ?_ bears).after (supervise_bears _)
    by_cases full : rev = true
    · rw [if_pos full, if_pos full, ← run]
      exact revolution_counted u f
    · rw [if_neg full, if_neg full]
      exact .nil (.refl u)
  have revolved (full : rev = true) : t = (u.revolution f).supervise := by rw [taken, if_pos full]
  refine ⟨t, executed, now, self, others, ?_, (handed.run (by simp)).trans run, fun full other => ?_, fun full other index => ?_,
    fun still => ?_, ?_, ?_⟩
  · unfold State.edgeTallies
    rw [edgeQuanta_eq]
    exact counted.routed
  · rw [revolved full]
    exact ((revolution_reported u f (by rw [run]; exact other)).of_later driveline channel (.of_frame noted)).then rfl rfl
      (.of_frame (supervise_frame _))
  · have quiet : t.quiet = u.quiet := quiet_congr u (.of_frame handed)
    have settings : t.driveline.settings = s.driveline.settings := by
      rw [revolved full, (supervise_frame _).driveline (by simp), revolution_driveline, driveline]
    rw [quiet, settings, handed.now (by simp), ← driveline]
    have after := revolution_quietTimer u f (by rw [run]; exact other) index
    rw [revolved full]
    exact after
  · by_cases full : rev = true
    · rw [revolved full, (supervise_frame _).driveline (by simp), revolution_of_unreported u f (by
        rw [run]; exact still.resolve_left fun k => Bool.noConfusion (k.symm.trans full)), take_driveline, driveline]
    · rw [taken, if_neg full, (supervise_frame _).driveline (by simp), driveline]
  · rw [taken, supervise_power]
    refine (congrArg Supervisor.power ?_).trans power
    by_cases full : rev = true
    · rw [if_pos full, (revolution_frame ..).sup (by simp)]
    · rw [if_neg full]
  · exact .trans (noted.mono (by simp)) (handed.mono (by simp))

end Sys2Proof.Machine
end

-- ==== A channel heard turning ====
section
/-! SUPPORT. What the observers do at the announcement of TURNING and at a speed update (02 R34; 03 R43, R52; 04 R58, R63), and the
overspeed test (02 R35). -/

namespace Sys2Proof.Machine

/-! ## The Run Detector (R43, R52) -/

section
variable (s : State)

theorem confirmTimer_idem (holds : Bool) (d : Timer) : s.confirmTimer holds (s.confirmTimer holds d) = s.confirmTimer holds d := by
  cases holds
  · rfl
  · cases d <;> rfl

/-- Evaluating the confirm conditions twice is evaluating them once. -/
theorem evalConfirm_idem : s.evalConfirm.evalConfirm = s.evalConfirm :=
  congrArg₂ (fun r p => { s with run := { s.run with runTimer := r, stopTimer := p } } : Timer → Timer → State)
    (confirmTimer_idem s s.runCondition s.run.runTimer) (confirmTimer_idem s s.stopCondition s.run.stopTimer)

theorem State.ranTo.evalConfirm {s t : State} {new : RunState} (h : s.ranTo t new) : s.ranTo t.evalConfirm new := h

/-- TURNING of ENGINE_SPEED is announced, where announced, and its speed update published, where published. -/
def State.engineHeard (s : State) (announced published : Bool) : State :=
  let b := if announced = true then
      (if s.run.state = .blind then s.enterRun (if s.aboveRun = true then .running else .off) else s.evalConfirm) else s
  if published = true then b.evalConfirm else b

theorem engineHeard_frame (announced published : Bool) : s.sameExcept (s.engineHeard announced published) [.run, .driveline, .ctl] :=
  have first : s.sameExcept (if announced = true then
      (if s.run.state = .blind then s.enterRun (if s.aboveRun = true then .running else .off) else s.evalConfirm) else s)
      [.run, .driveline, .ctl] :=
    .ite (fun _ => .ite (fun _ => enterRun_frame ..) fun _ => (evalConfirm_frame s).mono (by simp)) fun _ => .refl ..
  .ite (fun _ => first.trans ((evalConfirm_frame _).mono (by simp))) fun _ => first

theorem engineHeard_of_blind (blind : s.run.state = .blind) (published : Bool) :
    s.ranTo (s.engineHeard true published) (if s.aboveRun = true then .running else .off) := by
  have ran := enterRun_ranTo s (if s.aboveRun = true then .running else .off)
  unfold State.engineHeard
  rw [if_pos rfl, if_pos blind]
  cases published
  · exact ran
  · exact ran.evalConfirm

theorem engineHeard_of_other {announced published : Bool} (heard : (announced || published) = true)
    (other : ¬(announced = true ∧ s.run.state = .blind)) : s.engineHeard announced published = s.evalConfirm := by
  cases announced with
  | false => exact if_pos heard
  | true =>
    unfold State.engineHeard
    rw [if_pos rfl, if_neg fun blind => other ⟨rfl, blind⟩]
    cases published
    · rfl
    · exact evalConfirm_idem s

end

/-! ## The Driveline Observer (R58, R63) -/

section
variable {s t u : State} {f : ChannelFunction}

/-- A second evaluation of the gear, on what the first one saw, is one evaluation. -/
theorem State.gearJudged.again (h : s.gearJudged u) (k : u.gearJudged t) (sees : u.Sees t) (table : u.driveline.table = s.driveline.table) :
    s.gearJudged t := by
  unfold State.gearJudged at *
  simp only [table, sees.shaft, sees.speed, sees.lineActive, sees.now] at h k ⊢
  obtain ⟨-, -, first⟩ := h
  obtain ⟨idle, seeking, second⟩ := k
  refine ⟨idle, seeking, fun g e able speed entry fits before => ?_⟩
  obtain ⟨stays, settles⟩ := first g e able speed entry fits before
  obtain ⟨stay, -⟩ := second g e able speed entry fits before
  refine ⟨fun same => ?_, fun other another => ?_⟩
  · obtain ⟨gear, timer⟩ := stays same
    obtain ⟨gear', timer'⟩ := stay (by rw [gear]; exact same)
    exact ⟨gear'.trans gear, timer'.trans timer⟩
  · obtain ⟨gear, timer⟩ := settles other another
    obtain ⟨gear', timer'⟩ := stay (.inl gear)
    exact ⟨gear'.trans gear, timer'.trans timer⟩

/-- A speed of GEAR_OUT at the launch threshold ends LAUNCH_PENDING with a launch (R63). -/
def State.launches (s : State) (f : ChannelFunction) : Bool := decide (f = .gearOut ∧ s.driveline.clutch = .launchPending ∧
  s.driveline.settings.launchThreshold * 10 ≤ s.shaftSpeed .gearOut)

/-- From s to t the driveline has heeded a speed of function f: the gear is evaluated, and a launch tested and counted. -/
structure State.Heeds (s t : State) (f : ChannelFunction) : Prop where
  frame    : s.sameExcept t reportBlocks
  tow      : s.noTow t
  settings : t.driveline.settings = s.driveline.settings
  table    : t.driveline.table = s.driveline.table
  gear     : f = .gearIn ∨ f = .gearOut → s.gearJudged t
  counted  : s.Counted t (if s.launches f = true then [quantum .clutch .launches 1] else [])
  launched : s.launches f = true → t.driveline.clutch = .engaged ∧ t.driveline.launchTimer = none
  kept     : s.launches f = false → s.clutchSame t
  keeps    : s.KeepsTow t

theorem State.Heeds.sees (h : s.Heeds t f) : s.Sees t := .of_frame h.frame

/-- What has been heeded launches no second time. -/
theorem State.Heeds.launches_after (h : s.Heeds u f) : u.launches f = false := by
  cases launch : s.launches f with
  | true =>
    obtain ⟨engaged, -⟩ := h.launched launch
    exact decide_eq_false fun k => nomatch engaged.symm.trans k.2.1
  | false =>
    obtain ⟨clutch, -⟩ := h.kept launch
    have speed := h.sees.speed .gearOut
    rw [State.launches, clutch, h.settings, speed]
    exact launch

theorem State.Heeds.trans (h : s.Heeds u f) (k : u.Heeds t f) : s.Heeds t f := by
  have still := h.launches_after
  obtain ⟨clutch, timer⟩ := k.kept still
  obtain ⟨counts, tow⟩ := h.tow
  obtain ⟨counts', tow'⟩ := k.tow
  have counted := k.counted
  rw [still, if_neg Bool.false_ne_true] at counted
  exact {
    frame := h.frame.trans k.frame
    tow := ⟨counts'.trans counts, tow'.trans tow⟩
    settings := k.settings.trans h.settings
    table := k.table.trans h.table
    gear := fun drive => (h.gear drive).again (k.gear drive) k.sees h.table
    counted := (h.counted.trans counted).cast (List.append_nil _)
    launched := fun launch => ⟨clutch.trans (h.launched launch).1, timer.trans (h.launched launch).2⟩
    kept := fun launch => ⟨clutch.trans (h.kept launch).1, timer.trans (h.kept launch).2⟩
    keeps := h.keeps.trans k.keeps }

variable (s) in
theorem launchTest_of_not (not : s.launches .gearOut = false) : s.launchTest = s :=
  if_neg fun k => of_decide_eq_false not ⟨rfl, k⟩

variable (s) in
theorem launchTest_of_launch (launch : s.launches .gearOut = true) : s.launchTest = s.clutchEngaged.take .launch :=
  if_pos (of_decide_eq_true launch).2

variable (s) in
theorem launchTest_spec : s.Counted s.launchTest (if s.launches .gearOut = true then [quantum .clutch .launches 1] else []) ∧
    (s.launches .gearOut = true → s.launchTest.driveline = { s.driveline with clutch := .engaged, launchTimer := none }) ∧
    (s.launches .gearOut = false → s.launchTest = s) ∧ s.KeepsTow s.launchTest := by
  cases launch : s.launches .gearOut with
  | false =>
    rw [launchTest_of_not s launch]
    exact ⟨.nil (.refl s), fun h => (nomatch h), fun _ => rfl, .refl s⟩
  | true =>
    rw [launchTest_of_launch s launch]
    have engaged := clutchEngaged_frame s
    exact ⟨(take_counted _ .launch).of_later (.of_frame engaged), fun _ => take_driveline .., fun h => (nomatch h),
      .trans (.of_frame engaged) (take_keepsTow ..)⟩

variable (s) in
/-- A launch is decided as before after an evaluation of the gear. -/
theorem launches_evalGear (f : ChannelFunction) : s.evalGear.launches f = s.launches f := by
  have speed : s.evalGear.shaftSpeed .gearOut = s.shaftSpeed .gearOut := (State.Sees.of_frame (evalGear_frame s)).speed _
  rw [State.launches, speed, evalGear_driveline]
  rfl

theorem launches_of_other (other : f ≠ .gearOut) : s.launches f = false := decide_eq_false fun k => other k.1

/-- A function of neither gear shaft asks for nothing here. -/
theorem heeds_of_other (gearIn : f ≠ .gearIn) (gearOut : f ≠ .gearOut) : s.Heeds s f where
  frame := .refl ..
  tow := ⟨rfl, rfl⟩
  settings := rfl
  table := rfl
  gear drive := absurd drive (not_or.2 ⟨gearIn, gearOut⟩)
  counted := by
    rw [launches_of_other gearOut, if_neg Bool.false_ne_true]
    exact .nil (.refl s)
  launched launch := absurd ((launches_of_other gearOut).symm.trans launch) Bool.false_ne_true
  kept _ := ⟨rfl, rfl⟩
  keeps := .refl s

theorem evalGear_heeds (still : s.launches f = false) : s.Heeds s.evalGear f where
  frame := (evalGear_frame s).mono (by simp)
  tow := by
    rw [State.noTow, evalGear_driveline]
    exact ⟨rfl, rfl⟩
  settings := by rw [evalGear_driveline]
  table := by rw [evalGear_driveline]
  gear _ := evalGear_judged s
  counted := by
    rw [still, if_neg Bool.false_ne_true]
    exact .nil (.of_frame (evalGear_frame s))
  launched launch := absurd (still.symm.trans launch) Bool.false_ne_true
  kept _ := by
    rw [State.clutchSame, evalGear_driveline]
    exact ⟨rfl, rfl⟩
  keeps := .of_frame (evalGear_frame s)

/-- GEAR_OUT at the launch threshold in LAUNCH_PENDING: the gear is evaluated, then the launch counts. -/
theorem evalGear_launchTest_heeds (launch : s.launches .gearOut = true) : s.Heeds s.evalGear.launchTest .gearOut := by
  have before := evalGear_frame s
  have again : s.evalGear.launches .gearOut = true := (launches_evalGear s _).trans launch
  obtain ⟨counted, engaged, -, keeps⟩ := launchTest_spec s.evalGear
  have driveline := engaged again
  have tested := launchTest_frame s.evalGear
  rw [again] at counted
  have evaluated := evalGear_driveline s
  exact {
    frame := .trans (before.mono (by simp)) tested
    tow := by
      rw [State.noTow, driveline, evaluated]
      exact ⟨rfl, rfl⟩
    settings := by rw [driveline, evaluated]
    table := by rw [driveline, evaluated]
    gear := fun _ => (evalGear_judged s).congr rfl rfl rfl (.of_frame tested) (by rw [driveline]) (by rw [driveline])
    counted := by
      rw [launch]
      exact counted.of_later (.of_frame before)
    launched := fun _ => by rw [driveline]; exact ⟨rfl, rfl⟩
    kept := fun still => absurd (still.symm.trans launch) Bool.false_ne_true
    keeps := .trans (.of_frame before) keeps }

variable (s f) in
/-- A speed update at the Driveline Observer (R58, R63). -/
theorem drivelineUpdate_heeds : s.Heeds (s.drivelineUpdate f) f := by
  by_cases out : f = .gearOut
  · subst out
    show s.Heeds s.evalGear.launchTest .gearOut
    cases launch : s.launches .gearOut with
    | true => exact evalGear_launchTest_heeds launch
    | false =>
      rw [launchTest_of_not s.evalGear ((launches_evalGear s _).trans launch)]
      exact evalGear_heeds launch
  · by_cases gearIn : f = .gearIn
    · subst gearIn
      exact evalGear_heeds (launches_of_other out)
    · have same : s.drivelineUpdate f = s := (if_neg out).trans (if_neg (not_or.2 ⟨gearIn, out⟩))
      rw [same]
      exact heeds_of_other gearIn out

/-! ## The quiet timer at an announcement (R71) -/

variable (s) in
theorem noteQuiet_driveline : s.noteQuiet.driveline = { s.driveline with quietTimer := s.noteQuiet.driveline.quietTimer } := by
  unfold State.noteQuiet State.startQuiet
  (repeat' split) <;> rfl

theorem State.Heeds.noteQuiet (h : s.Heeds u f) : s.Heeds u.noteQuiet f := by
  have frame := noteQuiet_frame u
  have driveline := noteQuiet_driveline u
  exact {
    frame := h.frame.trans (frame.mono (by simp))
    tow := by
      rw [State.noTow, driveline]
      exact h.tow
    settings := by rw [driveline]; exact h.settings
    table := by rw [driveline]; exact h.table
    gear := fun drive => (h.gear drive).congr rfl rfl rfl (.of_frame frame) (by rw [driveline]) (by rw [driveline])
    counted := h.counted.after (.of_frame frame)
    launched := fun launch => by rw [driveline]; exact h.launched launch
    kept := fun still => by rw [State.clutchSame, driveline]; exact h.kept still
    keeps := h.keeps.trans (.of_frame frame) }

variable (s f) in
/-- An announcement of TURNING at the Driveline Observer is a speed update, then the quiet timer's. -/
theorem drivelineAnnounce_turning : s.drivelineAnnounce f (some .turning) =
    if f.towIndex.isSome = true then (s.drivelineUpdate f).noteQuiet else s.drivelineUpdate f := rfl

variable (s f) in
theorem drivelineAnnounce_heeds : s.Heeds (s.drivelineAnnounce f (some .turning)) f := by
  rw [drivelineAnnounce_turning]
  split
  · exact (drivelineUpdate_heeds s f).noteQuiet
  · exact drivelineUpdate_heeds s f

/-- TURNING of a driveline function is announced, where announced, and its speed update published, where published. -/
def State.drivelineHeard (s : State) (f : ChannelFunction) (announced published : Bool) : State :=
  let b := if announced = true then s.drivelineAnnounce f (some .turning) else s
  if published = true then b.drivelineUpdate f else b

variable (s f) in
theorem drivelineHeard_heeds {announced published : Bool} (heard : (announced || published) = true) :
    s.Heeds (s.drivelineHeard f announced published) f := by
  unfold State.drivelineHeard
  cases announced with
  | false =>
    rw [Bool.false_or] at heard
    rw [heard]
    exact drivelineUpdate_heeds s f
  | true =>
    cases published with
    | false => exact drivelineAnnounce_heeds s f
    | true => exact (drivelineAnnounce_heeds s f).trans (drivelineUpdate_heeds _ f)

/-! ## The overspeed test (R35) -/

section
variable (s : State) {i : Fin 10}

/-- A channel record of the same function, state and speed shows the observers the same. -/
theorem setChannelRecord_sees {x : Channel} (function : x.cfg.function = s.channels[i].cfg.function) (state : x.state = s.channels[i].state)
    (speed : x.speed = s.channels[i].speed) : s.Sees (s.setChannelRecord i x) := by
  have holder := channelOf_setChannelRecord s function
  have each (j : Fin 10) : (s.setChannelRecord i x).channels[j].state = s.channels[j].state ∧
      (s.setChannelRecord i x).channels[j].speed = s.channels[j].speed := by
    by_cases e : i = j
    · subst e
      have self : (s.setChannelRecord i x).channels[i] = x := Vector.getElem_set_self ..
      rw [self]
      exact ⟨state, speed⟩
    · have other : (s.setChannelRecord i x).channels[j] = s.channels[j] := Vector.getElem_set_ne i.isLt j.isLt fun k => e (Fin.ext k)
      rw [other]
      exact ⟨rfl, rfl⟩
  exact ⟨rfl, rfl, fun f => by simp only [State.shaft, holder, (each _).1], fun f => by simp only [State.shaftSpeed, holder, (each _).2]⟩

variable (i) in
theorem overspeedTest_of_begins (begins : s.channels[i].overspeedBegins = true) : s.overspeedTest i =
    ((s.setChannelRecord i { s.channels[i] with episode := true }).take (.overspeed s.channels[i].cfg.function)).raise .overspeed
      (.channel (some i)) := if_pos begins

variable (i) in
/-- The channel record the overspeed test leaves where no episode begins. -/
theorem overspeedTest_of_not (not : s.channels[i].overspeedBegins = false) : ∃ episode : Bool,
    s.overspeedTest i = s.setChannelRecord i { s.channels[i] with episode := episode } := by
  have tested : s.overspeedTest i =
      if s.channels[i].overspeedEnds = true then s.setChannelRecord i { s.channels[i] with episode := false } else s :=
    if_neg (by rw [not]; exact Bool.false_ne_true)
  rw [tested]
  split
  · exact ⟨false, rfl⟩
  · refine ⟨s.channels[i].episode, ?_⟩
    exact (congrArg (fun v => { s with channels := v }) (Vector.set_getElem_self i.isLt)).symm

/-- What an overspeed test leaves, beside the episode of its channel: an entry counted, where an episode begins. -/
structure State.Tested (s t : State) (f : ChannelFunction) (begins : Bool) : Prop where
  frame   : s.sameExcept t (.channels :: usageBlocks)
  sees    : s.Sees t
  ctl     : s.marksOnly t
  counted : s.Counted t (if begins = true then (Usage.overspeed f).quanta else [])
  keeps   : s.KeepsTow t
  notice  : begins = true → s.level .overspeed ≠ 0 → t.notice .overspeed ≠ none

theorem overspeedTest_tested : s.Tested (s.overspeedTest i) s.channels[i].cfg.function s.channels[i].overspeedBegins := by
  cases begins : s.channels[i].overspeedBegins with
  | false =>
    obtain ⟨episode, tested⟩ := overspeedTest_of_not s i begins
    have frame := setChannelRecord_frame s i { s.channels[i] with episode := episode }
    rw [tested]
    exact {
      frame := frame.mono (by simp)
      sees := setChannelRecord_sees s rfl rfl rfl
      ctl := .of_ctl rfl
      counted := .nil (.of_frame frame)
      keeps := .of_frame frame
      notice := fun h => (nomatch h) }
  | true =>
    have frame := setChannelRecord_frame s i { s.channels[i] with episode := true }
    have mild := take_mild (s.setChannelRecord i { s.channels[i] with episode := true }) (.overspeed s.channels[i].cfg.function)
    have used := take_frame (s.setChannelRecord i { s.channels[i] with episode := true }) (.overspeed s.channels[i].cfg.function)
    have counted := take_counted (s.setChannelRecord i { s.channels[i] with episode := true }) (.overspeed s.channels[i].cfg.function)
    have keeps := take_keepsTow (s.setChannelRecord i { s.channels[i] with episode := true }) (.overspeed s.channels[i].cfg.function)
    have sees : s.Sees (s.setChannelRecord i { s.channels[i] with episode := true }) := setChannelRecord_sees s rfl rfl rfl
    have ctl : s.marksOnly (s.setChannelRecord i { s.channels[i] with episode := true }) := .of_ctl rfl
    have level : (s.setChannelRecord i { s.channels[i] with episode := true }).level .overspeed = s.level .overspeed := rfl
    rw [overspeedTest_of_begins s i begins]
    generalize s.setChannelRecord i { s.channels[i] with episode := true } = u at *
    generalize u.take (.overspeed s.channels[i].cfg.function) = v at *
    have raised := raise_frame v .overspeed (.channel (some i))
    exact {
      frame := .trans (.trans (frame.mono (by simp)) (used.mono (by simp))) (raised.mono (by simp))
      sees := .trans (.trans sees (.of_frame used)) (.of_frame raised)
      ctl := (ctl.trans mild.ctl).trans (.of_ctl (raise_ctl ..))
      counted := (counted.of_later (.of_frame frame)).after (.of_frame raised)
      keeps := .trans (.trans (.of_frame frame) keeps) (raise_keepsTow v (by decide) _)
      notice := fun _ on => by
        rw [raise_notice_self]
        exact noticeAfter_ne_none v _ _ (by rw [mild.level, level]; exact on) _ }

end

end

end Sys2Proof.Machine
end

-- ==== A good period (O11) ====
section
/-! ACTIVE_EDGE (02 R26, R27, R34): what the edge of a good period hands on, and the good period in STOPPED and TURNING. -/

namespace Sys2Proof.Machine

/-- From s to t a revolution of function f is taken, where one is completed (R30, R80). -/
structure State.Revolved (s t : State) (f : ChannelFunction) (rev : Bool) : Prop where
  frame     : s.sameExcept t reportBlocks
  counted   : s.Counted t (if rev = true then (Usage.revolution f (decide (s.run.state = .running))).quanta else [])
  driveline : t.driveline = { s.driveline with
    tow := t.driveline.tow, towCounts := t.driveline.towCounts, quietTimer := t.driveline.quietTimer }
  reported  : rev = true → s.run.state ≠ .running → s.towReported t f
  unheard   : rev = false ∨ s.run.state = .running ∨ f.towIndex = none → t.driveline = s.driveline ∧ s.marksOnly t
  settings  : t.link.settings = s.link.settings

section
variable (s : State) (f : ChannelFunction)

theorem revolution_revolved (rev : Bool) : s.Revolved (if rev = true then s.revolution f else s) f rev := by
  cases rev with
  | false => exact ⟨.refl .., .nil (.refl s), rfl, fun h => (nomatch h), fun _ => ⟨rfl, .refl s⟩, rfl⟩
  | true =>
    rw [if_pos rfl]
    refine ⟨revolution_frame s f, revolution_counted s f, revolution_driveline s f, fun _ => revolution_reported s f, fun h => ?_,
      revolution_settings s f⟩
    rw [revolution_of_unreported s f (h.resolve_left fun k => nomatch k)]
    exact ⟨take_driveline .., (take_mild ..).ctl⟩

/-- TURNING is heard at the observer of its function. -/
def State.turningHeard (s : State) (f : ChannelFunction) (announced published : Bool) : State :=
  if f = .engineSpeed then s.engineHeard announced published else s.drivelineHeard f announced published

theorem turningHeard_eq (i : Fin 10) (announced published : Bool) : s.turningHeard f announced published =
    let b := if announced = true then s.announce f (some .turning) i else s
    if published = true then b.speedUpdate f else b := by
  unfold State.turningHeard State.announce State.speedUpdate
  by_cases engine : f = .engineSpeed
  · simp only [if_pos engine]
    rfl
  · simp only [if_neg engine]
    rfl

end

/-- What the edge of a good period hands on, in the order of R34. -/
theorem handOn_good {s : State} {i : Fin 10} (turning : s.channels[i].state = .turning) (rev announced published : Bool) :
    s.handOn i { revolution := rev, announced := announced, noisy := false, update := true } published =
      let f := s.channels[i].cfg.function
      let b := (if rev = true then s.revolution f else s).turningHeard f announced published
      if published = true then b.overspeedTest i else b := by
  simp only [turningHeard_eq (i := i), ← turning]
  unfold State.handOn
  cases published <;> rfl

section
variable {s t : State} {f : ChannelFunction}

theorem State.Tested.refl (s : State) (f : ChannelFunction) : s.Tested s f false :=
  ⟨.refl .., .refl s, .refl s, .nil (.refl s), .refl s, fun h => (nomatch h)⟩

theorem overspeedBegins_eq {c : Channel} {v : Nat} (speed : c.speed = some v) :
    c.overspeedBegins = decide (0 < c.cfg.overspeed ∧ c.episode = false ∧ c.cfg.overspeed * 10 < v) := by
  rw [Channel.overspeedBegins, speed, Bool.eq_iff_iff]
  simp [and_assoc]

end

section
variable {s u : State} {i : Fin 10} {c : Channel} {v : Nat} {rev announced published : Bool}

/-- From s to u an edge or a stall is noted at a channel, and nothing is handed on. -/
structure State.Noted (s u : State) : Prop where
  frame     : s.sameExcept u [.time, .channels, .sup, .tally, .ctl]
  bears     : s.Bears u
  timer     : u.ctl.checkpointTimer = s.ctl.checkpointTimer
  channelOf : ∀ f, u.channelOf f = s.channelOf f

theorem edged_noted (s : State) (i : Fin 10) (wait : Nat) {c : Channel} (same : c.cfg.function = s.channels[i].cfg.function) :
    s.Noted (s.edged i wait c) :=
  ⟨edged_frame s i wait c, edged_bears s i wait c, edged_checkpointTimer s i wait c, edged_channelOf s i wait c same⟩

theorem aboveRun_iff (s : State) : s.aboveRun = true ↔
    s.run.settings.runThreshold * 10 ≤ s.shaftSpeed .engineSpeed ∧ s.shaft .engineSpeed = some .turning := by
  rw [State.aboveRun, State.isTurning, Bool.and_eq_true, decide_eq_true_iff, decide_eq_true_iff, and_comm]

/-- What hearing TURNING leaves to the tallies and to the notice settings. -/
structure State.TurningTaken (s t : State) (launch : Bool) : Prop where
  frame    : s.sameExcept t (.run :: reportBlocks)
  counted  : s.Counted t (if launch = true then [quantum .clutch .launches 1] else [])
  settings : t.link.settings = s.link.settings

theorem turningHeard_taken (s : State) (f : ChannelFunction) (announced published : Bool) :
    s.TurningTaken (s.turningHeard f announced published) ((announced || published) && s.launches f) := by
  by_cases engine : f = .engineSpeed
  · subst engine
    have frame := engineHeard_frame s announced published
    have still : s.launches .engineSpeed = false := launches_of_other (by decide)
    rw [still, Bool.and_false]
    have link : (s.turningHeard .engineSpeed announced published).link = s.link := frame.link (by simp)
    exact ⟨frame.mono (by simp), .nil (.of_frame frame), by rw [link]⟩
  · have other : s.turningHeard f announced published = s.drivelineHeard f announced published := if_neg engine
    rw [other]
    cases heard : announced || published with
    | false =>
      obtain ⟨rfl, rfl⟩ := Bool.or_eq_false_iff.1 heard
      exact ⟨.refl .., .nil (.refl s), rfl⟩
    | true =>
      have heeds := drivelineHeard_heeds s f heard
      exact ⟨heeds.frame.mono (by simp), heeds.counted, heeds.keeps.settings⟩

theorem drivelineHeard_keeps (s : State) (f : ChannelFunction) (announced published : Bool) :
    s.sameExcept (s.drivelineHeard f announced published) reportBlocks ∧ s.KeepsTow (s.drivelineHeard f announced published) := by
  cases heard : announced || published with
  | false =>
    obtain ⟨rfl, rfl⟩ := Bool.or_eq_false_iff.1 heard
    exact ⟨.refl .., .refl s⟩
  | true =>
    have heeds := drivelineHeard_heeds s f heard
    exact ⟨heeds.frame, heeds.keeps⟩

/-- What the Run Detector makes of TURNING, seen from before the edge and after all that follows it. -/
theorem engine_heardTurning {a t : State} (run : a.run = s.run) (driveline : a.driveline = s.driveline)
    (timer : a.ctl.checkpointTimer = s.ctl.checkpointTimer) (after : (a.engineHeard announced published).Sees t)
    (runAfter : t.run = (a.engineHeard announced published).run) (drivelineAfter : t.driveline = (a.engineHeard announced published).driveline)
    (marks : (a.engineHeard announced published).marksOnly t) :
    ((announced || published) = false → s.observersSame t) ∧
    (announced = true → s.run.state = .blind →
      s.ranTo t (if s.run.settings.runThreshold * 10 ≤ t.shaftSpeed .engineSpeed ∧ t.shaft .engineSpeed = some .turning
        then .running else .off)) ∧
    ((announced || published) = true → ¬(announced = true ∧ s.run.state = .blind) → s.confirmFollows t ∧ t.driveline = s.driveline) := by
  have frame := engineHeard_frame a announced published
  have sees : a.Sees t := .trans (.of_frame frame) after
  refine ⟨fun silent => ?_, fun announce blind => ?_, fun heard other => ?_⟩
  · obtain ⟨rfl, rfl⟩ := Bool.or_eq_false_iff.1 silent
    exact ⟨runAfter.trans run, drivelineAfter.trans driveline⟩
  · subst announce
    have same : (if s.run.settings.runThreshold * 10 ≤ t.shaftSpeed .engineSpeed ∧ t.shaft .engineSpeed = some .turning
        then RunState.running else .off) = if a.aboveRun = true then .running else .off := by
      simp only [aboveRun_iff, sees.speed, sees.shaft, run]
    rw [same]
    exact ((engineHeard_of_blind a (by rw [run]; exact blind) published).then after runAfter drivelineAfter
      fun _ => by rw [marks]; exact ⟨rfl, rfl⟩).of_later (by rw [run]) driveline timer
  · have confirmed := engineHeard_of_other a heard (by rw [run]; exact other)
    rw [confirmed] at after runAfter drivelineAfter
    exact ⟨(evalConfirm_follows a).congr run after runAfter, drivelineAfter.trans driveline⟩

/-- What the Driveline Observer makes of TURNING, seen from before the edge and after all that follows it. -/
theorem driveline_heardTurning {a t : State} {f : ChannelFunction} {launch : Bool} (revolved : u.Revolved a f rev)
    (driveline : u.driveline = s.driveline) (decided : launch = ((announced || published) && a.launches f))
    (after : (a.drivelineHeard f announced published).Sees t)
    (drivelineAfter : t.driveline = (a.drivelineHeard f announced published).driveline) :
    (t.driveline.towCounts = a.driveline.towCounts ∧ t.driveline.tow = a.driveline.tow) ∧
    ((f = .gearIn ∨ f = .gearOut) →
      ((announced || published) = true → s.gearJudged t) ∧ ((announced || published) = false → s.gearSame t)) ∧
    (launch = true → t.driveline.clutch = .engaged ∧ t.driveline.launchTimer = none) ∧ (launch = false → s.clutchSame t) := by
  have parts := revolved.driveline
  rw [driveline] at parts
  rw [decided]
  cases heard : announced || published with
  | false =>
    obtain ⟨rfl, rfl⟩ := Bool.or_eq_false_iff.1 heard
    have same : t.driveline = a.driveline := drivelineAfter
    refine ⟨⟨by rw [same], by rw [same]⟩, fun _ => ⟨fun h => (nomatch h), fun _ => ?_⟩, fun h => (nomatch h), fun _ => ?_⟩
    · rw [State.gearSame, same, parts]
      exact ⟨rfl, rfl⟩
    · rw [State.clutchSame, same, parts]
      exact ⟨rfl, rfl⟩
  | true =>
    have heeds := drivelineHeard_heeds a f heard
    obtain ⟨counts, tow⟩ := heeds.tow
    have kept := heeds.kept
    simp only [State.clutchSame] at kept ⊢
    rw [Bool.true_and, drivelineAfter]
    rw [parts] at kept
    refine ⟨⟨counts, tow⟩, fun drive => ⟨fun _ => ?_, fun h => (nomatch h)⟩, heeds.launched, kept⟩
    exact (heeds.gear drive).congr (by rw [parts]) (by rw [parts]) (by rw [parts]) after (by rw [drivelineAfter]) (by rw [drivelineAfter])

/-- What a good period's edge makes of the observers and the tallies. -/
theorem heardTurning_of_noted (noted : s.Noted u) (state : u.channels[i].state = .turning) (cfg : u.channels[i].cfg = c.cfg)
    (speed : u.channels[i].speed = some v) (episode : u.channels[i].episode = c.episode)
    (outside : published = decide (s.sup.power ≠ .dormant)) : s.heardTurning
      (u.handOn i { revolution := rev, announced := announced, noisy := false, update := true } published).supervise c v rev announced := by
  obtain ⟨noted, bears, timer, channel⟩ := noted
  have run : u.run = s.run := noted.run (by simp)
  have driveline : u.driveline = s.driveline := noted.driveline (by simp)
  have linked : u.link = s.link := noted.link (by simp)
  have overspeed := overspeedBegins_eq speed
  rw [cfg, episode] at overspeed
  rw [handOn_good state, cfg]
  dsimp only
  generalize fn : c.cfg.function = f
  have revolved := revolution_revolved u f rev
  generalize (if rev = true then u.revolution f else u) = a at *
  have taken := turningHeard_taken a f announced published
  obtain ⟨b, heard⟩ : ∃ b, b = a.turningHeard f announced published := ⟨_, rfl⟩
  rw [← heard] at taken ⊢
  have channels : b.channels[i] = u.channels[i] := by
    simp only [taken.frame.channels (by simp), revolved.frame.channels (by simp)]
  -- the overspeed test, made outside DORMANT only
  obtain ⟨o, tested, made⟩ : ∃ o, b.Tested o f (published && u.channels[i].overspeedBegins) ∧
      (if published = true then b.overspeedTest i else b) = o := by
    refine ⟨_, ?_, rfl⟩
    cases published with
    | false => exact .refl b f
    | true =>
      have all := overspeedTest_tested b (i := i)
      rw [channels, cfg, fn] at all
      exact all
  rw [made]
  have last := supervise_frame o
  have after : b.Sees o.supervise := tested.sees.trans (.of_frame last)
  have sees : a.Sees o.supervise := .trans (.of_frame taken.frame) after
  have runAfter : o.supervise.run = b.run := (last.run (by simp)).trans (tested.frame.run (by simp))
  have drivelineAfter : o.supervise.driveline = b.driveline := (last.driveline (by simp)).trans (tested.frame.driveline (by simp))
  have marks : b.marksOnly o.supervise := tested.ctl.trans (.of_ctl rfl)
  have clutch : a.driveline.clutch = s.driveline.clutch ∧ a.driveline.settings = s.driveline.settings := by
    rw [revolved.driveline, driveline]
    exact ⟨rfl, rfl⟩
  have launch : ((announced || published) && decide (f = .gearOut ∧ s.driveline.clutch = .launchPending ∧
      s.driveline.settings.launchThreshold * 10 ≤ o.supervise.shaftSpeed .gearOut)) = ((announced || published) && a.launches f) := by
    rw [sees.speed, ← clutch.1, ← clutch.2]
    rfl
  have speeding : (published && decide (0 < c.cfg.overspeed ∧ c.episode = false ∧ c.cfg.overspeed * 10 < v)) =
      (published && u.channels[i].overspeedBegins) := by rw [overspeed]
  have counted := (revolved.counted.trans taken.counted).trans tested.counted
  have level : b.level .overspeed = s.level .overspeed :=
    level_of_settings (taken.settings.trans (revolved.settings.trans (by rw [linked]))) _
  unfold State.heardTurning
  dsimp only
  rw [fn, ← outside, launch, speeding]
  -- what the Driveline Observer does, where the function is its own
  have observed (other : f ≠ .engineSpeed) := by
    have drivelineHeard : b = a.drivelineHeard f announced published := heard.trans (if_neg other)
    have heardFrame := drivelineHeard_keeps a f announced published
    rw [drivelineHeard] at after drivelineAfter
    rw [← drivelineHeard] at heardFrame
    exact And.intro heardFrame (driveline_heardTurning revolved driveline rfl after drivelineAfter)
  refine ⟨?_, fun begins on => ?_, fun engine => ?_, fun other => ⟨?_, fun full notRunning => ?_, fun unheard => ?_⟩, fun drive => ?_,
    fun other => ?_⟩
  · unfold State.edgeTallies
    rw [edgeQuanta_eq, ← run]
    exact ((counted.of_later bears).after (supervise_bears o)).routed
  · exact tested.notice begins (by rw [level]; exact on)
  · subst engine
    obtain ⟨same, marked⟩ := revolved.unheard (.inr (.inr rfl))
    have engineHeard : b = a.engineHeard announced published := heard
    rw [engineHeard] at after runAfter drivelineAfter marks
    exact engine_heardTurning ((revolved.frame.run (by simp)).trans run) (same.trans driveline) (by rw [marked]; exact timer) after runAfter
      drivelineAfter marks
  · obtain ⟨⟨frame, -⟩, -⟩ := observed other
    exact runAfter.trans ((frame.run (by simp)).trans ((revolved.frame.run (by simp)).trans run))
  · obtain ⟨⟨-, keeps⟩, ⟨counts, tow⟩, -⟩ := observed other
    have reported := (revolved.reported full (by rw [run]; exact notRunning)).of_later driveline (channel f) (.of_frame noted)
    exact reported.then counts tow (.trans keeps (.trans tested.keeps (.of_frame last)))
  · obtain ⟨-, ⟨counts, tow⟩, -⟩ := observed other
    obtain ⟨same, -⟩ := revolved.unheard (by rw [run]; exact unheard)
    rw [same, driveline] at counts tow
    exact ⟨counts, tow⟩
  · obtain ⟨-, -, gear, -⟩ := observed (by rintro rfl; exact drive.elim (fun h => nomatch h) fun h => nomatch h)
    exact gear drive
  · obtain ⟨-, -, -, clutch⟩ := observed other
    exact clutch

/-- A good period's edge leaves the Supervisor as the wake left it. -/
theorem handOn_good_frame (turning : u.channels[i].state = .turning) : u.sameExcept
    (u.handOn i { revolution := rev, announced := announced, noisy := false, update := true } published)
    (.channels :: .run :: reportBlocks) := by
  rw [handOn_good turning]
  dsimp only
  have before := (revolution_revolved u u.channels[i].cfg.function rev).frame
  have heard := (turningHeard_taken (if rev = true then u.revolution u.channels[i].cfg.function else u) u.channels[i].cfg.function
    announced published).frame
  have all := State.sameExcept.trans (before.mono (bs := .channels :: .run :: reportBlocks) (by simp)) (heard.mono (by simp))
  exact .ite (fun _ => all.trans ((overspeedTest_tested _).frame.mono (by simp))) fun _ => all

/-- The channel record after a good period's edge, before the overspeed test (R27 to R30). -/
def Channel.turned (c : Channel) (now v : Nat) : Channel := { c with
  state := .turning, speed := some v, capture := some now, short := 0, good := 0,
  tooth := if c.tooth + 1 < c.cfg.edgesPerRev then c.tooth + 1 else 0 }

theorem goodEdge_eq (c : Channel) (now p : Nat) : ({ c with capture := some now } : Channel).goodEdge p = (c.turned now (c.speedOf p),
    { revolution := decide (c.cfg.edgesPerRev ≤ c.tooth + 1), announced := decide (c.state ≠ .turning), noisy := false, update := true }) := by
  rw [Channel.goodEdge, accept_eq]
  rfl

/-- The episode after the overspeed test at speed v (R35). -/
theorem turned_episodeAfter (c : Channel) (now v : Nat) : (c.turned now v).episodeAfter =
    if 0 < c.cfg.overspeed ∧ c.episode = false ∧ c.cfg.overspeed * 10 < v then true
    else if c.episode = true ∧ 2 * v < 19 * c.cfg.overspeed then false else c.episode := by
  have begins := overspeedBegins_eq (c := c.turned now v) (v := v) rfl
  have ends : (c.turned now v).overspeedEnds = decide (c.episode = true ∧ 2 * v < 19 * c.cfg.overspeed) := by
    rw [Bool.decide_and, Bool.decide_eq_true]
    rfl
  rw [Channel.episodeAfter, begins, ends]
  simp only [decide_eq_true_eq]
  rfl

theorem speedOf_eq (c : Channel) (p : Nat) : c.speedOf p =
    min 200000 (600000000 / (p * (4 * if c.cfg.timeBase = .fine then 1 else 64) * c.cfg.edgesPerRev)) := by
  rw [Channel.speedOf, tick_eq]
  rfl

end

/-- Settles O11: by the edge's report, handed on in the order of R34. -/
theorem goodPeriodGivesSpeed : Obligations.GoodPeriodGivesSpeed := by
  unfold Obligations.GoodPeriodGivesSpeed
  intro s i rising wait start c e tick p v live started state active capture good
  have enabled : c.state ≠ .disabled := by rcases state with k | k <;> rw [k] <;> decide
  have quiet : c.state ≠ .noisy := by rcases state with k | k <;> rw [k] <;> decide
  have announced : decide (c.state ≠ .turning) = decide (c.state = .stopped) := by rcases state with k | k <;> rw [k] <;> rfl
  have period : c.period start (s.now + wait) = p := period_eq ..
  have speed : c.speedOf p = v := speedOf_eq ..
  have edge : c.edge (s.now + wait) = (c.turned (s.now + wait) v,
      { revolution := decide (e ≤ c.tooth + 1), announced := decide (c.state = .stopped), noisy := false, update := true }) := by
    have isGood : c.isGood p = true := decide_eq_true good
    rw [Channel.edge, capture]
    dsimp only
    rw [if_neg quiet, period, if_pos isGood, goodEdge_eq, announced, speed]
    rfl
  have executed := edge_run s i rising wait live started enabled active
  have frame := edge_frame s i wait
  have now := edge_now s i wait
  have self := edge_self s i wait _ edge
  have taken := takeEdge_eq s i wait edge
  have others := fun j (other : j ≠ i) => edge_other s i j wait other
  have noted := edged_noted s i wait (c := c.turned (s.now + wait) v) rfl
  have chan := edged_self s i wait (c.turned (s.now + wait) v)
  have power := edged_power s i wait (c.turned (s.now + wait) v)
  generalize (s.pass wait).takeEdge i = t at *
  generalize s.edged i wait (c.turned (s.now + wait) v) = u at *
  have turning : u.channels[i].state = .turning := by rw [chan]; rfl
  refine ⟨t, executed, now, self.trans ?_, others, ?_, ?_, frame⟩
  · have after := turned_episodeAfter c (s.now + wait) v
    by_cases dormant : s.sup.power = .dormant
    · rw [if_neg fun h => h.2 dormant, if_pos dormant]
      rfl
    · rw [if_pos ⟨rfl, dormant⟩, if_neg dormant, after]
      rfl
  · rw [taken]
    exact heardTurning_of_noted noted turning (by rw [chan]; rfl) (by rw [chan]; rfl) (by rw [chan]; rfl) rfl
  · rw [taken, supervise_power, (handOn_good_frame turning).sup (by simp)]
    exact power

end Sys2Proof.Machine
end

-- ==== Noise and stalls (O12, O13, O14) ====
section
/-! ACTIVE_EDGE and STALL_TIMER_EXPIRY (02 R29, R31 to R33): short periods, the way back from NOISY, the stall, and what the announcement
of NOISY and of STOPPED does. -/

namespace Sys2Proof.Machine

/-! ## A still channel at the Driveline Observer (R58, R64, R71) -/

section
variable {s t u : State} {f : ChannelFunction}

/-- What a channel announces that is not TURNING. -/
def stillState (noisy : Bool) : ChannelState := if noisy = true then .noisy else .stopped

variable (s) in
/-- Whether the quiet timer is started, kept or cancelled at an announcement (R71). -/
theorem noteQuiet_quietHeard : s.quietHeard s.noteQuiet := by
  have frame := noteQuiet_frame s
  have sees : s.Sees s.noteQuiet := .of_frame frame
  have driveline := noteQuiet_driveline s
  have quiet : s.quiet = true ↔ ∀ f ∈ outputSide, s.shaft f = none ∨ s.shaft f = some .stopped ∨ s.shaft f = some .disabled := by
    simp only [State.quiet, List.all_eq_true, Bool.or_eq_true, decide_eq_true_eq, or_assoc]
  unfold State.quietHeard
  dsimp only
  simp only [sees.shaft, sees.now, ← quiet]
  have tow : s.noteQuiet.driveline.tow = s.driveline.tow := by rw [driveline]
  have settings : s.noteQuiet.driveline.settings = s.driveline.settings := by rw [driveline]
  rw [tow, settings]
  unfold State.noteQuiet
  refine ⟨fun calm => ?_, fun towing moves => ?_, fun towing still => ?_⟩
  · rw [if_pos calm]
  · rw [if_neg towing, if_neg moves]
  · rw [if_neg towing, if_pos still]
    cases timer : s.driveline.quietTimer with
    | none => rfl
    | some d => exact timer

variable (s f) in
/-- A still channel at the clutch and the gear, before the quiet timer (R58, R64). -/
def State.stillGeared (s : State) (f : ChannelFunction) (noisy : Bool) : State :=
  let s1 := if f = .gearIn ∨ f = .gearOut then s.evalGear else s
  if f = .gearOut ∧ noisy = true then s1.launchOff else s1

variable (s f) in
theorem drivelineAnnounce_still (noisy : Bool) : s.drivelineAnnounce f (some (stillState noisy)) =
    if f.towIndex.isSome = true then (s.stillGeared f noisy).noteQuiet else s.stillGeared f noisy := by
  unfold State.drivelineAnnounce State.stillGeared
  by_cases out : f = .gearOut
  · subst out
    cases noisy <;> rfl
  · simp only [if_neg out, if_neg fun h : f = .gearOut ∧ noisy = true => out h.1]

theorem launchOff_driveline (v : State) : v.launchOff.driveline = { v.driveline with
    clutch := v.launchOff.driveline.clutch, launchTimer := v.launchOff.driveline.launchTimer } := by
  unfold State.launchOff
  split <;> rfl

variable (s f) in
/-- What a still channel leaves of the driveline before the quiet timer: gear and clutch may have changed. -/
theorem stillGeared_driveline (noisy : Bool) : (s.stillGeared f noisy).driveline = { s.driveline with
    gear := (s.stillGeared f noisy).driveline.gear, settleTimer := (s.stillGeared f noisy).driveline.settleTimer
    clutch := (s.stillGeared f noisy).driveline.clutch, launchTimer := (s.stillGeared f noisy).driveline.launchTimer } := by
  unfold State.stillGeared
  dsimp only
  split <;> split
  · rw [launchOff_driveline, evalGear_driveline]
  · rw [launchOff_driveline]
  · rw [evalGear_driveline]
  · rfl

variable (s f) in
theorem stillGeared_frame (noisy : Bool) : s.sameExcept (s.stillGeared f noisy) [.driveline] :=
  have first : s.sameExcept (if f = .gearIn ∨ f = .gearOut then s.evalGear else s) [.driveline] :=
    .ite (fun _ => evalGear_frame s) fun _ => .refl ..
  .ite (fun _ => first.trans (launchOff_frame _)) fun _ => first

variable (s) in
theorem stillGeared_judged (drive : f = .gearIn ∨ f = .gearOut) (noisy : Bool) : s.gearJudged (s.stillGeared f noisy) := by
  have judged := evalGear_judged s
  unfold State.stillGeared
  rw [if_pos drive]
  dsimp only
  split
  · exact judged.congr rfl rfl rfl (.of_frame (launchOff_frame _)) (by rw [launchOff_driveline]) (by rw [launchOff_driveline])
  · exact judged

variable (s) in
/-- A still GEAR_OUT at the clutch (R64). -/
theorem stillGeared_clutch (noisy : Bool) : (noisy = true → s.launchDropped (s.stillGeared .gearOut noisy)) ∧
    (noisy = false → s.clutchSame (s.stillGeared .gearOut noisy)) := by
  have same : s.evalGear.driveline.clutch = s.driveline.clutch ∧ s.evalGear.driveline.launchTimer = s.driveline.launchTimer := by
    rw [evalGear_driveline]
    exact ⟨rfl, rfl⟩
  refine ⟨?_, ?_⟩ <;> rintro rfl
  · have dropped : s.evalGear.launchDropped (s.stillGeared .gearOut true) := launchOff_dropped s.evalGear
    unfold State.launchDropped State.clutchSame at *
    rwa [same.1, same.2] at dropped
  · exact same

theorem stillGeared_of_other (gearIn : f ≠ .gearIn) (gearOut : f ≠ .gearOut) (noisy : Bool) : s.stillGeared f noisy = s :=
  (if_neg fun h => gearOut h.1).trans (if_neg (not_or.2 ⟨gearIn, gearOut⟩))

variable (s f) in
/-- A still channel at the Driveline Observer: gear, clutch and quiet timer. -/
theorem drivelineAnnounce_heardStill (noisy : Bool) :
    let t := s.drivelineAnnounce f (some (stillState noisy))
    s.sameExcept t [.driveline] ∧ s.noTow t ∧ (f = .gearIn ∨ f = .gearOut → s.gearJudged t) ∧
    (f = .gearOut → (noisy = true → s.launchDropped t) ∧ (noisy = false → s.clutchSame t)) ∧ (f.towIndex ≠ none → s.quietHeard t) ∧
    (f.towIndex = none → f ≠ .gearIn → t.driveline = s.driveline) := by
  intro t
  have announced : t = _ := drivelineAnnounce_still s f noisy
  have geared := stillGeared_frame s f noisy
  have parts := stillGeared_driveline s f noisy
  have clutch (out : f = .gearOut) : (noisy = true → s.launchDropped (s.stillGeared f noisy)) ∧
      (noisy = false → s.clutchSame (s.stillGeared f noisy)) := by
    rw [out]
    exact stillGeared_clutch s noisy
  cases index : f.towIndex with
  | none =>
    rw [index] at announced
    have same : t = s.stillGeared f noisy := announced
    rw [same]
    refine ⟨geared, ?_, fun drive => stillGeared_judged s drive noisy, clutch, fun some => absurd rfl some, fun _ gearIn => ?_⟩
    · rw [State.noTow, parts]
      exact ⟨rfl, rfl⟩
    · rw [stillGeared_of_other gearIn (by rintro rfl; exact nomatch index)]
  | some k =>
    rw [index] at announced
    have same : t = (s.stillGeared f noisy).noteQuiet := announced
    have heard := noteQuiet_quietHeard (s.stillGeared f noisy)
    have quiet := noteQuiet_driveline (s.stillGeared f noisy)
    have frame := noteQuiet_frame (s.stillGeared f noisy)
    have timer : (s.stillGeared f noisy).driveline.quietTimer = s.driveline.quietTimer := by rw [parts]
    rw [← same] at heard quiet frame
    refine ⟨geared.trans frame, ?_, fun drive => ?_, fun out => ?_, fun _ => ?_, fun none => (nomatch none)⟩
    · rw [State.noTow, quiet, parts]
      exact ⟨rfl, rfl⟩
    · exact (stillGeared_judged s drive noisy).congr rfl rfl rfl (.of_frame frame) (by rw [quiet]) (by rw [quiet])
    · have after := clutch out
      unfold State.launchDropped State.clutchSame at *
      rw [quiet]
      exact after
    · unfold State.quietHeard at *
      rwa [timer] at heard

/-! ## A still channel at both observers -/

/-- An edge that counts nothing. -/
theorem State.Counted.edgeTallies (h : s.Counted t []) (f : ChannelFunction) : s.edgeTallies t f false false false := by
  unfold State.edgeTallies
  rw [edgeQuanta_eq]
  exact h.routed

theorem keyOffCheckpoint_marks (v : State) : v.sameExcept v.keyOffCheckpoint [.sup, .tally, .ctl] :=
  (keyOffCheckpoint_frame v).mono (by simp)

variable (s) in
/-- A still ENGINE_SPEED at the Run Detector (R48, R51). -/
theorem engineAnnounce_heardStill (i : Fin 10) (noisy : Bool) :
    let t := s.engineAnnounce (some (stillState noisy)) i
    s.Counted t [] ∧ (noisy = true → s.run.state ≠ .blind → s.ranTo t .blind) ∧ (noisy = true → s.run.state = .blind → s.observersSame t) ∧
    (noisy = false → (s.run.state = .running ∨ s.run.state = .blind) → s.ranTo t .off) ∧
    (noisy = false → s.run.state ≠ .running → s.run.state ≠ .blind → s.confirmFollows t ∧ t.driveline = s.driveline) := by
  cases noisy with
  | true =>
    by_cases blind : s.run.state = .blind
    · have same : s.engineAnnounce (some (stillState true)) i = s := if_pos blind
      rw [same]
      exact ⟨.nil (.refl s), fun _ other => absurd blind other, fun _ _ => ⟨rfl, rfl⟩, fun h => (nomatch h), fun h => (nomatch h)⟩
    · have entered : s.engineAnnounce (some (stillState true)) i = (s.enterRun .blind).raise .sensorFault (.channel (some i)) := if_neg blind
      have raised := raise_frame (s.enterRun .blind) .sensorFault (.channel (some i))
      rw [entered]
      exact ⟨.nil (.trans (enterRun_bears ..) (.of_frame raised)), fun _ _ => enterRun_ranTo_then raised (.of_ctl (raise_ctl ..)),
        fun _ k => absurd k blind, fun h => (nomatch h), fun h => (nomatch h)⟩
  | false =>
    by_cases running : s.run.state = .running
    · have entered : s.engineAnnounce (some (stillState false)) i = (s.enterRun .off).keyOffCheckpoint := if_pos running
      rw [entered]
      exact ⟨.nil (.trans (enterRun_bears ..) (keyOffCheckpoint_bears _)), fun h => (nomatch h), fun h => (nomatch h),
        fun _ _ => enterOff_ranTo_then (keyOffCheckpoint_marks _), fun _ other => absurd running other⟩
    · by_cases blind : s.run.state = .blind
      · have entered : s.engineAnnounce (some (stillState false)) i = s.enterRun .off := (if_neg running).trans (if_pos blind)
        rw [entered]
        exact ⟨.nil (enterRun_bears ..), fun h => (nomatch h), fun h => (nomatch h), fun _ _ => enterRun_ranTo s .off,
          fun _ _ other => absurd blind other⟩
      · have confirmed : s.engineAnnounce (some (stillState false)) i = s.evalConfirm := (if_neg running).trans (if_neg blind)
        rw [confirmed]
        exact ⟨.nil (.of_frame (evalConfirm_frame s)), fun h => (nomatch h), fun h => (nomatch h),
          fun _ either => absurd either (not_or.2 ⟨running, blind⟩), fun _ _ _ => ⟨evalConfirm_follows s, rfl⟩⟩

variable (s f) in
theorem announce_still_counted (i : Fin 10) (noisy : Bool) : s.Counted (s.announce f (some (stillState noisy)) i) [] := by
  by_cases engine : f = .engineSpeed
  · have taken : s.announce f (some (stillState noisy)) i = s.engineAnnounce (some (stillState noisy)) i := if_pos engine
    obtain ⟨counted, -⟩ := engineAnnounce_heardStill s i noisy
    rw [taken]
    exact counted
  · have taken : s.announce f (some (stillState noisy)) i = s.drivelineAnnounce f (some (stillState noisy)) := if_neg engine
    obtain ⟨frame, -⟩ := drivelineAnnounce_heardStill s f noisy
    rw [taken]
    exact .nil (.of_frame frame)

variable (s f) in
theorem announce_heardStill (i : Fin 10) (noisy : Bool) : s.heardStill (s.announce f (some (stillState noisy)) i) f noisy := by
  have counted := announce_still_counted s f i noisy
  by_cases engine : f = .engineSpeed
  · have taken : s.announce f (some (stillState noisy)) i = s.engineAnnounce (some (stillState noisy)) i := if_pos engine
    obtain ⟨-, ran⟩ := engineAnnounce_heardStill s i noisy
    rw [taken] at counted ⊢
    subst engine
    exact ⟨fun _ => ran, fun other => absurd rfl other, (by rintro (h | h) <;> exact nomatch h), fun h => (nomatch h),
      fun some => absurd rfl some, fun _ other => absurd rfl other, counted.edgeTallies _⟩
  · have taken : s.announce f (some (stillState noisy)) i = s.drivelineAnnounce f (some (stillState noisy)) := if_neg engine
    obtain ⟨frame, tow, gear, clutch, quiet, same⟩ := drivelineAnnounce_heardStill s f noisy
    rw [taken] at counted ⊢
    exact ⟨fun h => absurd h engine, fun _ => ⟨frame.run (by simp), tow⟩, gear, clutch, quiet, fun index _ gearIn => same index gearIn,
      counted.edgeTallies _⟩

/-- What is heard after a channel is noted is heard from before it. -/
theorem State.heardStill.of_noted {noisy : Bool} (h : u.heardStill t f noisy) (noted : s.Noted u) (counted : s.Counted t []) :
    s.heardStill t f noisy := by
  obtain ⟨noted, -, timer, -⟩ := noted
  obtain ⟨engine, other, gear, clutch, quiet, same, -⟩ := h
  have run : u.run = s.run := noted.run (by simp)
  have driveline : u.driveline = s.driveline := noted.driveline (by simp)
  refine ⟨fun f => ?_, fun f => ?_, fun drive => ?_, fun out => ?_, fun index => ?_, fun index f gearIn => ?_, ?_⟩
  · obtain ⟨blind, blinded, off, confirm⟩ := engine f
    rw [run] at blind blinded off confirm
    refine ⟨fun n b => (blind n b).of_later (by rw [run]) driveline timer, fun n b => ?_, fun n b => (off n b).of_later (by rw [run]) driveline timer,
      fun n r b => ?_⟩
    · obtain ⟨sameRun, sameDriveline⟩ := blinded n b
      exact ⟨sameRun.trans run, sameDriveline.trans driveline⟩
    · obtain ⟨follows, sameDriveline⟩ := confirm n r b
      exact ⟨follows.congr run (.refl t) rfl, sameDriveline.trans driveline⟩
  · obtain ⟨sameRun, counts, tow⟩ := other f
    exact ⟨sameRun.trans run, by rw [counts, driveline], by rw [tow, driveline]⟩
  · exact (gear drive).congr (by rw [driveline]) (by rw [driveline]) (by rw [driveline]) (.refl t) rfl rfl
  · have after := clutch out
    unfold State.launchDropped State.clutchSame at *
    rwa [driveline] at after
  · have after := quiet index
    unfold State.quietHeard at *
    rwa [driveline] at after
  · exact (same index f gearIn).trans driveline
  · exact counted.edgeTallies f

/-- What is heard stays heard after notices and the Supervisor's look at the dormancy conditions. -/
theorem State.heardStill.then {noisy : Bool} (h : s.heardStill u f noisy) (after : u.sameExcept t [.sup, .link]) (counted : s.Counted t []) :
    s.heardStill t f noisy := by
  obtain ⟨engine, other, gear, clutch, quiet, same, -⟩ := h
  have sees : u.Sees t := .of_frame after
  have run : t.run = u.run := after.run (by simp)
  have driveline : t.driveline = u.driveline := after.driveline (by simp)
  have ctl : t.ctl = u.ctl := after.ctl (by simp)
  refine ⟨fun f => ?_, fun f => ?_, fun drive => ?_, fun out => ?_, fun index => ?_, fun index f gearIn => ?_, ?_⟩
  · obtain ⟨blind, blinded, off, confirm⟩ := engine f
    have ran {new : RunState} (k : s.ranTo u new) : s.ranTo t new := k.then sees run driveline fun _ => by rw [ctl]; exact ⟨rfl, rfl⟩
    refine ⟨fun n b => ran (blind n b), fun n b => ?_, fun n b => ran (off n b), fun n r b => ?_⟩
    · obtain ⟨sameRun, sameDriveline⟩ := blinded n b
      exact ⟨run.trans sameRun, driveline.trans sameDriveline⟩
    · obtain ⟨follows, sameDriveline⟩ := confirm n r b
      exact ⟨follows.congr rfl sees run, driveline.trans sameDriveline⟩
  · obtain ⟨sameRun, counts, tow⟩ := other f
    exact ⟨run.trans sameRun, by rw [driveline, counts], by rw [driveline, tow]⟩
  · exact (gear drive).congr rfl rfl rfl sees (by rw [driveline]) (by rw [driveline])
  · have before := clutch out
    unfold State.launchDropped State.clutchSame at *
    rwa [driveline]
  · have before := quiet index
    unfold State.quietHeard at *
    simpa only [driveline, sees.shaft, sees.now] using before
  · exact driveline.trans (same index f gearIn)
  · exact counted.edgeTallies f

variable (s f) in
theorem announce_still_settings (i : Fin 10) (noisy : Bool) :
    (s.announce f (some (stillState noisy)) i).link.settings = s.link.settings := by
  by_cases engine : f = .engineSpeed
  · have taken : s.announce f (some (stillState noisy)) i = s.engineAnnounce (some (stillState noisy)) i := if_pos engine
    have entered (new : RunState) : (s.enterRun new).link = s.link := (enterRun_frame s new).link (by simp)
    rw [taken]
    cases noisy with
    | true =>
      show (s.enterBlind (some i)).link.settings = _
      unfold State.enterBlind
      split
      · rfl
      · rw [raise_link, entered]
    | false =>
      show (if s.run.state = .running then (s.enterRun .off).keyOffCheckpoint
        else if s.run.state = .blind then s.enterRun .off else s.evalConfirm).link.settings = _
      (repeat' split)
      · rw [(keyOffCheckpoint_frame _).link (by simp), entered]
      · rw [entered]
      · rfl
  · have taken : s.announce f (some (stillState noisy)) i = s.drivelineAnnounce f (some (stillState noisy)) := if_neg engine
    obtain ⟨frame, -⟩ := drivelineAnnounce_heardStill s f noisy
    rw [taken, frame.link (by simp)]

end

/-! ## Edges that are discarded (R29, R31, R32) -/

section
variable {s u : State} {i : Fin 10}

/-- An edge that hands on nothing leaves the observers and the tallies. -/
theorem handOn_silent_spec (noted : s.Noted u) (f : ChannelFunction) (published : Bool) :
    s.observersSame (u.handOn i .silent published).supervise ∧ s.edgeTallies (u.handOn i .silent published).supervise f false false false := by
  have same : u.handOn i .silent published = u := rfl
  obtain ⟨frame, bears, -⟩ := noted
  rw [same]
  exact ⟨⟨frame.run (by simp), frame.driveline (by simp)⟩, (State.Counted.nil (bears.trans (supervise_bears u))).edgeTallies f⟩

/-- NOISY announced, and SENSOR_FAULT raised. -/
theorem handOn_noisy_spec (noted : s.Noted u) (state : u.channels[i].state = .noisy) (published : Bool) :
    let t := (u.handOn i { EdgeReport.silent with announced := true, noisy := true } published).supervise
    (s.level .sensorFault ≠ 0 → t.notice .sensorFault ≠ none) ∧ s.heardStill t u.channels[i].cfg.function true := by
  intro t
  have handed : t = ((u.announce u.channels[i].cfg.function (some (stillState true)) i).raise .sensorFault (.channel (some i))).supervise := by
    show ((u.announce _ (some u.channels[i].state) i).raise .sensorFault _).supervise = _
    rw [state]
    rfl
  have heard := announce_heardStill u u.channels[i].cfg.function i true
  have counted := announce_still_counted u u.channels[i].cfg.function i true
  have settings := announce_still_settings u u.channels[i].cfg.function i true
  generalize u.announce u.channels[i].cfg.function (some (stillState true)) i = v at *
  have after : v.sameExcept t [.sup, .link] := by
    rw [handed]
    exact .trans ((raise_frame v ..).mono (by simp)) ((supervise_frame _).mono (by simp))
  have all : u.Counted t [] := counted.after (.of_frame after)
  refine ⟨fun on => ?_, (heard.then after all).of_noted noted (all.of_later noted.bears)⟩
  have level : v.level .sensorFault = s.level .sensorFault :=
    level_of_settings (settings.trans (by rw [noted.frame.link (by simp)])) _
  rw [handed, supervise_notice, raise_notice_self]
  exact noticeAfter_ne_none v _ _ (by rw [level]; exact on) _

end

/-- The channel record after the third short period in a row (R31). -/
def Channel.spoiled (c : Channel) (now : Nat) : Channel := { c with
  state := .noisy, speed := none, capture := some now, noise := min 65535 (c.noise + 1), short := 0, good := 0, episode := false }

/-- Settles O12: by the run of short periods so far. -/
theorem shortPeriodCountsNoise : Obligations.ShortPeriodCountsNoise := by
  unfold Obligations.ShortPeriodCountsNoise
  intro s i rising wait start c tick noise live started state active capture short
  have enabled : c.state ≠ .disabled := by rcases state with k | k <;> rw [k] <;> decide
  have quiet : c.state ≠ .noisy := by rcases state with k | k <;> rw [k] <;> decide
  have period : c.period start (s.now + wait) = min 65535 ((s.now + wait - start) / tick) := period_eq ..
  have edge : c.edge (s.now + wait) = ({ c with capture := some (s.now + wait) } : Channel).shortEdge := by
    have notGood : c.isGood (min 65535 ((s.now + wait - start) / tick)) = false := decide_eq_false (Nat.not_le.2 short)
    rw [Channel.edge, capture]
    dsimp only
    rw [if_neg quiet, period, notGood]
    rfl
  have executed := edge_run s i rising wait live started enabled active
  have frame := edge_frame s i wait
  have now := edge_now s i wait
  have others := fun j (other : j ≠ i) => edge_other s i j wait other
  refine ⟨_, executed, now, fun few => ?_, fun many => ?_, others, frame⟩
  · have counts : c.edge (s.now + wait) = ({ c with capture := some (s.now + wait), noise := noise, short := c.short + 1 }, .silent) :=
      edge.trans (if_neg (by show ¬3 ≤ c.short + 1; omega))
    have noted := edged_noted s i wait (c := { c with capture := some (s.now + wait), noise := noise, short := c.short + 1 }) rfl
    rw [edge_self s i wait _ counts, takeEdge_eq s i wait counts]
    obtain ⟨observers, tallies⟩ := handOn_silent_spec (i := i) noted c.cfg.function (decide (s.sup.power ≠ .dormant))
    exact ⟨if_neg (fun h => nomatch h.1), observers, tallies⟩
  · have counts : c.edge (s.now + wait) = (c.spoiled (s.now + wait), { EdgeReport.silent with announced := true, noisy := true }) :=
      edge.trans (if_pos (by show 3 ≤ c.short + 1; omega))
    have noted := edged_noted s i wait (c := c.spoiled (s.now + wait)) rfl
    have self := edged_self s i wait (c.spoiled (s.now + wait))
    rw [edge_self s i wait _ counts, takeEdge_eq s i wait counts]
    obtain ⟨notice, heard⟩ := handOn_noisy_spec (i := i) noted (by rw [self]; rfl) (decide (s.sup.power ≠ .dormant))
    rw [self] at heard
    exact ⟨if_neg (fun h => nomatch h.1), notice, heard⟩

/-- Settles O13: by the period and the run of good periods so far. -/
theorem noisyChannelRecovers : Obligations.NoisyChannelRecovers := by
  unfold Obligations.NoisyChannelRecovers
  intro s i rising wait start c e tick p noise live started state active capture
  have enabled : c.state ≠ .disabled := by rw [state]; decide
  have period : c.period start (s.now + wait) = p := period_eq ..
  have edge : c.edge (s.now + wait) = ({ c with capture := some (s.now + wait) } : Channel).noisyEdge p := by
    rw [Channel.edge, capture]
    dsimp only
    rw [if_pos state, period]
  have executed := edge_run s i rising wait live started enabled active
  have frame := edge_frame s i wait
  have now := edge_now s i wait
  have others := fun j (other : j ≠ i) => edge_other s i j wait other
  -- an edge that is discarded
  have discarded {x : Channel} (function : x.cfg.function = c.cfg.function) (counts : c.edge (s.now + wait) = (x, .silent)) :
      ((s.pass wait).takeEdge i).channels[i] = x ∧ s.observersSame ((s.pass wait).takeEdge i) ∧
        s.edgeTallies ((s.pass wait).takeEdge i) c.cfg.function false false false := by
    rw [edge_self s i wait _ counts, takeEdge_eq s i wait counts]
    exact ⟨if_neg (fun h => nomatch h.1), handOn_silent_spec (i := i) (edged_noted s i wait function) _ _⟩
  refine ⟨_, executed, now, fun short => ?_, fun good few => ?_, fun good enough => ?_, others, frame⟩
  · have notGood : c.isGood p = false := decide_eq_false (Nat.not_le.2 short)
    exact discarded (x := { c with capture := some (s.now + wait), noise := noise, good := 0 }) rfl
      (edge.trans (if_neg (by show ¬c.isGood p = true; rw [notGood]; exact Bool.false_ne_true)))
  · have isGood : c.isGood p = true := decide_eq_true good
    exact discarded (x := { c with capture := some (s.now + wait), noise := noise, good := c.good + 1 }) rfl
      (edge.trans ((if_pos isGood).trans (if_neg (by show ¬8 ≤ c.good + 1; omega))))
  · have isGood : c.isGood p = true := decide_eq_true good
    have speed := speedOf_eq c p
    obtain ⟨v, fast⟩ : ∃ v, v = c.speedOf p := ⟨_, rfl⟩
    have counts : c.edge (s.now + wait) = (c.turned (s.now + wait) v,
        { revolution := decide (e ≤ c.tooth + 1), announced := true, noisy := false, update := true }) := by
      have turns : ({ c with capture := some (s.now + wait) } : Channel).noisyEdge p = ({ c with capture := some (s.now + wait) } : Channel).goodEdge p :=
        (if_pos isGood).trans (if_pos (by show 8 ≤ c.good + 1; omega))
      rw [edge, turns, goodEdge_eq, fast, state]
      rfl
    have noted := edged_noted s i wait (c := c.turned (s.now + wait) v) rfl
    have self := edged_self s i wait (c.turned (s.now + wait) v)
    have channel := edge_self s i wait _ counts
    have taken := takeEdge_eq s i wait counts
    have sameSpeed : v = min 200000 (600000000 / (p * (4 * tick) * e)) := fast.trans speed
    generalize s.edged i wait (c.turned (s.now + wait) v) = u at *
    have heard := heardTurning_of_noted (c := c) (v := v) (rev := decide (e ≤ c.tooth + 1)) (announced := true) noted (by rw [self]; rfl)
      (by rw [self]; rfl) (by rw [self]; rfl) (by rw [self]; rfl) rfl
    rw [← taken] at heard
    rw [← sameSpeed, channel]
    refine ⟨?_, ?_, ?_, ?_, ?_, ?_, ?_, ?_, heard⟩ <;> split <;> rfl

/-! ## The stall (R33) -/

section
variable (s : State) (i : Fin 10)

theorem exec_stallTimerExpiry {start : Nat} (enabled : s.channels[i].state ≠ .disabled) (capture : s.channels[i].capture = some start) :
    exec (.stallTimerExpiry i) s = .next ((s.reach (start + 65535 * s.channels[i].cfg.timeBase.ticks)).takeStall i) := by
  have due : s.channels[i].stallDue = some (start + 65535 * s.channels[i].cfg.timeBase.ticks) := by
    rw [Channel.stallDue, capture]
    rfl
  show execStallTimerExpiry i s = _
  rw [execStallTimerExpiry, due]
  exact if_neg enabled

/-- The stall is noted at its channel, and nothing is announced yet. -/
def State.stalled (due : Nat) : State := (s.reach due).setChannelRecord i s.channels[i].stall

theorem stalled_frame (due : Nat) : s.sameExcept (s.stalled i due) [.time, .channels] :=
  .trans ((reach_frame s due).mono (by simp)) ((setChannelRecord_frame ..).mono (by simp))

theorem stall_function (c : Channel) : c.stall.cfg = c.cfg := by
  unfold Channel.stall
  split <;> rfl

theorem stalled_noted (due : Nat) : s.Noted (s.stalled i due) where
  frame := (stalled_frame s i due).mono (by simp)
  bears := .of_frame (stalled_frame s i due)
  timer := rfl
  channelOf := channelOf_setChannelRecord (s.reach due) (by rw [stall_function]; rfl)

theorem takeStall_of_stopped {due : Nat} (stopped : s.channels[i].state = .stopped) :
    (s.reach due).takeStall i = (s.stalled i due).supervise := by
  have still : ¬(s.channels[i].state = .turning ∨ s.channels[i].state = .noisy) := by rw [stopped]; decide
  exact congrArg State.supervise (if_neg still)

theorem takeStall_of_moving {due : Nat} (moving : s.channels[i].state = .turning ∨ s.channels[i].state = .noisy) :
    (s.reach due).takeStall i = ((s.stalled i due).announce s.channels[i].cfg.function (some (stillState false)) i).supervise :=
  congrArg State.supervise (if_pos moving)

end

/-- Settles O14: by whether the channel was STOPPED. -/
theorem stallStopsChannel : Obligations.StallStopsChannel := by
  unfold Obligations.StallStopsChannel
  intro s i start c tick enabled capture
  have executed := exec_stallTimerExpiry s i enabled capture
  rw [tick_eq] at executed
  obtain ⟨due, at_due⟩ : ∃ due, due = start + 65535 * tick := ⟨_, rfl⟩
  rw [← at_due]
  have taken := takeStall_frame (s.reach due) i
  have reached := reach_frame s due
  have noted := stalled_noted s i due
  have channels : ((s.reach due).takeStall i).channels = s.channels.set i c.stall := takeStall_channels (s.reach due) i
  have moving (other : c.state ≠ .stopped) : c.state = .turning ∨ c.state = .noisy := by
    cases state : c.state with
    | disabled => exact absurd state enabled
    | stopped => exact absurd state other
    | turning => exact .inl rfl
    | noisy => exact .inr rfl
  refine ⟨(s.reach due).takeStall i, by rw [at_due]; exact executed, taken.now (by simp), ?_, fun j other => ?_, fun stopped => ?_,
    fun other => ?_, fun other engine running keyOff power n dirty low high => ?_, .trans (reached.mono (by simp)) (taken.mono (by simp))⟩
  · have self : ((s.reach due).takeStall i).channels[i] = c.stall := by
      simp only [channels]
      exact Vector.getElem_set_self ..
    rw [self, Channel.stall]
    by_cases stopped : c.state = .stopped
    · have still : ¬(c.state = .turning ∨ c.state = .noisy) := by rw [stopped]; decide
      rw [if_neg still, if_pos stopped, if_pos stopped, stopped]
    · rw [if_pos (moving stopped), if_neg stopped, if_neg stopped]
  · simp only [channels]
    exact Vector.getElem_set_ne i.isLt j.isLt fun k => other (Fin.ext k.symm)
  · rw [takeStall_of_stopped s i stopped]
    exact .trans ((stalled_frame s i due).mono (by simp)) ((supervise_frame _).mono (by simp))
  · rw [takeStall_of_moving s i (moving other)]
    have heard := announce_heardStill (s.stalled i due) c.cfg.function i false
    have counted := announce_still_counted (s.stalled i due) c.cfg.function i false
    have last := supervise_frame ((s.stalled i due).announce c.cfg.function (some (stillState false)) i)
    have all := counted.after (.of_frame last)
    exact (heard.then (last.mono (by simp)) all).of_noted noted (all.of_later noted.bears)
  · rw [takeStall_of_moving s i (moving other), engine]
    have frame := stalled_frame s i due
    have on : (s.stalled i due).run.state = .running := by rw [frame.run (by simp)]; exact running
    have entered : (s.stalled i due).announce .engineSpeed (some (stillState false)) i = ((s.stalled i due).enterRun .off).keyOffCheckpoint :=
      (if_pos rfl).trans (if_pos on)
    rw [entered]
    exact keyOff_holds (s := s.stalled i due) (by rw [State.lineActive, frame.lines (by simp)]; exact keyOff)
      (by rw [frame.sup (by simp)]; exact power) (by rw [frame.ctl (by simp)]; exact dirty) low high

end Sys2Proof.Machine
end

-- ==== The end of a write (O53) ====
section
/-! WRITE_COMPLETE (09 R153 to R157, R164, R178): how a write ends, and how the arbiter looks again. -/

namespace Sys2Proof.Machine

theorem filter_insertLine (n : Nat) (l : List Nat) : (insertLine n l).filter (· != n) = l.filter (· != n) := by
  induction l with
  | nil => simp [insertLine]
  | cons m l ih =>
    unfold insertLine
    split
    · simp
    · split
      · rename_i same
        subst same
        rfl
      · simp only [List.filter_cons, ih]

section
variable {s u : State}

/-- A live image depends on what a write's end does not change. -/
theorem liveImage_congr {bs : List Block} (frame : s.sameExcept u bs) (identity : u.ctl.identity = s.ctl.identity)
    (timing : u.ctl.timing = s.ctl.timing) (settings : u.link.settings = s.link.settings) (n : Nat)
    (out : ∀ b ∈ [Block.channels, .lines, .run, .driveline, .tally, .table, .book, .sup], b ∉ bs := by decide) :
    u.liveImage n = s.liveImage n := by
  have channels := frame.channels (out _ (by simp))
  have lines := frame.lines (out _ (by simp))
  have run := frame.run (out _ (by simp))
  have driveline := frame.driveline (out _ (by simp))
  have tally := frame.tally (out _ (by simp))
  have table := frame.table (out _ (by simp))
  have book := frame.book (out _ (by simp))
  have sup := frame.sup (out _ (by simp))
  unfold State.liveImage State.settingsLine State.mapLine
  simp only [identity, timing, settings, channels, lines, run, driveline, tally, table, book, sup]

/-! ## The arbiter looks again (R153, R164, R178) -/

/-- With nothing in flight the arbiter starts the next write, or rests, or ends DRAINING, or writes the clean-shutdown mark. -/
theorem looksAgain_arbitrate (power : s.sup.power = .active ∨ s.sup.power = .draining ∨ s.sup.power = .holdup) (idle : u.ctl.flight = none)
    (sup : u.sup = s.sup) (tally : u.tally = s.tally) (images : ∀ n, u.liveImage n = s.liveImage n) :
    s.looksAgain u.arbitrate.supervise u.ctl.queue u.ctl.dirty u.ctl.flush := by
  have power' : u.sup.power = .active ∨ u.sup.power = .draining ∨ u.sup.power = .holdup := by rw [sup]; exact power
  unfold State.looksAgain State.samePower
  rw [← sup, ← tally]
  refine ⟨fun n may head => ?_, fun may empty => ⟨fun active => ?_, fun draining => ?_, fun holdup still => ?_, fun holdup running => ?_⟩,
    fun mayNot => ?_⟩
  · obtain ⟨rest, pop⟩ := pop_of_head head
    have start : u.mayWrite := power'.imp_right (Or.imp_right fun h => ⟨h, may.resolve_left fun k => k h⟩)
    rw [arbitrate_of_head idle start pop]
    obtain ⟨flight, lines, classes⟩ := startWrite_writes pop
    refine ⟨⟨?_, lines, classes⟩, rfl, rfl, rfl, rfl⟩
    rw [← images]
    exact flight
  · rw [arbitrate_active_of_empty idle empty active]
    exact ⟨⟨idle, rfl, rfl, rfl⟩, rfl, rfl⟩
  · rw [arbitrate_draining_of_empty idle empty draining]
    exact ⟨⟨idle, rfl, rfl, rfl⟩, rfl, rfl, rfl, rfl⟩
  · rw [arbitrate_holdup_of_empty idle empty holdup still]
    exact ⟨⟨idle, rfl, rfl, rfl⟩, rfl, rfl⟩
  · rw [arbitrate_holdup_marks idle empty holdup running]
    have map : u.mapLine = s.mapLine := LineImage.map.inj (images 5)
    have resting : u.writeMark.supervise.sup = { u.sup with mark := true, dormancy := none } := by
      have other : ¬(u.writeMark.sup.power = .active ∧ u.writeMark.mayDoze = true) := fun h => nomatch holdup.symm.trans h.1
      exact congrArg (fun d => { u.sup with mark := true, dormancy := d }) (if_neg other)
    refine ⟨resting, rfl, rfl, ?_, filter_insertLine 5 _, rfl⟩
    rw [← map]
    rfl
  · obtain ⟨holdup, complete⟩ := not_or.1 mayNot
    rw [arbitrate_of_complete (Classical.not_not.1 holdup) (Classical.not_not.1 complete)]
    exact ⟨⟨idle, rfl, rfl, rfl⟩, rfl, rfl⟩

/-- What the arbiter leaves of the controller. -/
theorem arbitrate_ctl (s : State) : s.arbitrate.ctl = { s.ctl with
    dirty := s.arbitrate.ctl.dirty, queue := s.arbitrate.ctl.queue, flight := s.arbitrate.ctl.flight, flush := s.arbitrate.ctl.flush
    checkpointTimer := s.arbitrate.ctl.checkpointTimer, scrubTimer := s.arbitrate.ctl.scrubTimer } := by
  unfold State.arbitrate
  (repeat' split) <;> rfl

end

/-! ## A line queued again, and released (R154, R157) -/

/-- The queue after a write's end: the line joins its pending class, if it has one. -/
def WriteQueue.rejoined (q : WriteQueue) (f : Flight) : WriteQueue :=
  let back (d : WriteClass) : List Nat := q.linesAt d ++ (if f.pending = some d then [f.line] else [])
  { flush := back .flush, commit := back .commit, checkpoint := back .checkpoint, repair := back .scrubRepair }

theorem rejoin_eq (x : StoreController) (f : Flight) : x.rejoin f = { x with queue := x.queue.rejoined f } := by
  unfold StoreController.rejoin
  cases pending : f.pending with
  | none =>
    have same : x.queue.rejoined f = x.queue := queue_ext fun d => by cases d <;> simp [WriteQueue.rejoined, pending, WriteQueue.linesAt]
    rw [same]
  | some c =>
    have same : x.queue.rejoined f = x.queue.join c f.line := queue_ext fun d => by
      rw [linesAt_join]
      cases d <;> simp [WriteQueue.rejoined, pending, WriteQueue.linesAt, eq_comm]
    rw [same]

theorem releaseRecord_eq (f : Flight) (r : DeferredRecord) :
    r.release f = if r.id ∈ f.records then { r with awaits := r.awaits.filter (· != f.line) } else r := by
  simp only [DeferredRecord.release, List.contains_iff_mem]

theorem passed_eq (p : FlushPhase) : p.passed = if p = .marking then .complete else p := by cases p <;> rfl

theorem lost_eq (p : FlushPhase) : p.lost = if p = .marking then .failed else p := by cases p <;> rfl

theorem verified_iff (l : StoredLine) (image : LineImage) : verified l image = true ↔ l.words = cleanWords ∧ l.image = image := by
  rw [verified, Bool.and_eq_true, decide_eq_true_iff, decide_eq_true_iff, outcome_clean]

/-! ## The three ends (R154, R155) -/

/-- The FINISHED replies of records that end. -/
def finishedReplies (res : Result) (rs : List DeferredRecord) : List Reply :=
  (rs.filter fun r => !r.silent).map fun r => .finished r.tag r.kind res

/-- The records after a write has released its line. -/
def Flight.released (f : Flight) (rs : List DeferredRecord) : List DeferredRecord :=
  rs.map fun r => if r.id ∈ f.records then { r with awaits := r.awaits.filter (· != f.line) } else r

section
variable (s : State) (f : Flight)

theorem releaseLine_ctl : (s.releaseLine f).ctl = { s.ctl with records := f.released s.ctl.records } := by
  have each : DeferredRecord.release f = fun r => if r.id ∈ f.records then { r with awaits := r.awaits.filter (· != f.line) } else r :=
    funext (releaseRecord_eq f)
  rw [State.releaseLine, each]
  rfl

/-- A write that passed completes: its line is released, and records that await nothing more end OK. -/
theorem writePassed_ctl : (s.writePassed f).ctl = { s.ctl with
    queue := s.ctl.queue.rejoined f, flight := none, records := (f.released s.ctl.records).filter fun r => !r.awaits.isEmpty
    failed := s.ctl.failed.filter (· != f.line), flush := if s.ctl.flush = .marking then .complete else s.ctl.flush } := by
  have rejoins : (s.writePassed f).ctl = _ := rejoin_eq ..
  rw [rejoins, endRecords_ctl, releaseLine_ctl, passed_eq]
  rfl

theorem writePassed_link : (s.writePassed f).link = { s.link with
    replies := s.link.replies ++ finishedReplies .ok ((f.released s.ctl.records).filter fun r => r.awaits.isEmpty) } := by
  have ends : (s.writePassed f).link = _ := endRecords_link (s.landed.releaseLine f) .ok fun r => r.awaits.isEmpty
  rw [ends, releaseLine_ctl]
  rfl

/-- The state in which STORE_FAULT is raised: the line is failed and dirty, and counted. -/
def State.lineLost (s : State) (f : Flight) : State := { s with ctl := { s.ctl with
  flight := none, dirty := insertLine f.line s.ctl.dirty, failures := min 65535 (s.ctl.failures + 1)
  failed := insertLine f.line s.ctl.failed, flush := s.ctl.flush.lost } }

theorem writeFailed_eq : s.writeFailed f =
    let v := ((s.lineLost f).raise .storeFault (.line f.line)).endRecords .storeFault fun r => r.awaits.contains f.line
    { v with ctl := v.ctl.rejoin f } := rfl

/-- A write that failed for good: its line is failed and dirty, and every record awaiting it ends. -/
theorem writeFailed_ctl : (s.writeFailed f).ctl = { s.ctl with
    dirty := insertLine f.line s.ctl.dirty, queue := s.ctl.queue.rejoined f, flight := none
    records := s.ctl.records.filter fun r => !r.awaits.contains f.line, failed := insertLine f.line s.ctl.failed
    failures := min 65535 (s.ctl.failures + 1), flush := if s.ctl.flush = .marking then .failed else s.ctl.flush } := by
  rw [writeFailed_eq]
  dsimp only
  rw [rejoin_eq, endRecords_ctl, raise_ctl, ← lost_eq]
  rfl

theorem writeFailed_link : (s.writeFailed f).link = { s.link with
    notices := ((s.lineLost f).raise .storeFault (.line f.line)).link.notices
    replies := s.link.replies ++ finishedReplies .storeFault (s.ctl.records.filter fun r => r.awaits.contains f.line) } := by
  rw [writeFailed_eq]
  dsimp only
  rw [endRecords_link, raise_ctl, raise_link]
  rfl

theorem writeFailed_notice (on : s.level .storeFault ≠ 0) : (s.writeFailed f).notice .storeFault ≠ none := by
  have same : (s.writeFailed f).notice .storeFault = ((s.lineLost f).raise .storeFault (.line f.line)).notice .storeFault := by
    rw [State.notice, writeFailed_link]
    rfl
  rw [same, raise_notice_self]
  exact noticeAfter_ne_none _ _ _ on _

end

section
variable {s : State} {f : Flight} {found : WriteEnd}

theorem exec_writeComplete (flight : s.ctl.flight = some f) : exec (.writeComplete found) s = .next (s.endWrite f found).supervise := by
  show execWriteComplete found s = _
  rw [execWriteComplete, flight]

theorem endWrite_of_passes (passes : verified (afterWrite (storeGet s.store f.line) f.image found) f.image = true) :
    s.endWrite f found = ((s.storeLine f.line (afterWrite (storeGet s.store f.line) f.image found)).writePassed f).arbitrate := if_pos passes

theorem endWrite_of_first (fails : ¬verified (afterWrite (storeGet s.store f.line) f.image found) f.image = true) (first : f.retry = false) :
    s.endWrite f found = (s.storeLeft f found).startWrite f.line s.ctl.queue true f.pending :=
  (if_neg fails).trans (if_neg (by rw [first]; exact Bool.false_ne_true))

theorem endWrite_of_retry (fails : ¬verified (afterWrite (storeGet s.store f.line) f.image found) f.image = true) (again : f.retry = true) :
    s.endWrite f found = ((s.storeLeft f found).writeFailed f).arbitrate := (if_neg fails).trans (if_pos again)

end

/-- Settles O53: by verification, and by whether the write was a retry. -/
theorem writeEnds : Obligations.WriteEnds := by
  unfold Obligations.WriteEnds
  intro s f found c held passes released finished q back rejoined left stored markWrite power flight
  have verdict : verified held f.image = true ↔ passes := verified_iff held f.image
  have executed := exec_writeComplete (found := found) flight
  have unmarked (clear : ∀ m, f.image = .map m → m.mark = false) : left = held := by
    refine leftBy_unmarked _ _ _ ?_
    cases image : f.image with
    | map m => exact clear m image
    | _ => rfl
  -- what both ends that land the write leave to the arbiter
  have landed {v u : State} (store : s.sameExcept v [.store]) (ends : v.sameExcept u [.ctl, .link]) (idle : u.ctl.flight = none)
      (identity : u.ctl.identity = v.ctl.identity) (timing : u.ctl.timing = v.ctl.timing) (settings : u.link.settings = v.link.settings) :
      s.looksAgain u.arbitrate.supervise u.ctl.queue u.ctl.dirty u.ctl.flush := by
    have frame : s.sameExcept u [.store, .ctl, .link] := .trans (store.mono (by simp)) (ends.mono (by simp))
    refine looksAgain_arbitrate power idle (frame.sup (by simp)) (frame.tally (by simp)) fun n => ?_
    exact liveImage_congr frame (identity.trans (by rw [store.ctl (by simp)])) (timing.trans (by rw [store.ctl (by simp)]))
      (settings.trans (by rw [store.link (by simp)])) n
  have whole {v u : State} (store : s.sameExcept v [.store]) (ends : v.sameExcept u [.ctl, .link]) :
      s.sameExcept u.arbitrate.supervise [.store, .tally, .ctl, .link, .sup] :=
    .trans (.trans (store.mono (by simp)) (ends.mono (by simp))) (.trans ((arbitrate_frame u).mono (by simp)) ((supervise_frame _).mono (by simp)))
  have kept (u : State) : u.arbitrate.supervise.link = u.link := (arbitrate_frame u).link (by simp)
  have storing (u : State) : u.arbitrate.supervise.store = u.store := (arbitrate_frame u).store (by simp)
  have controller (u : State) : u.arbitrate.supervise.ctl = u.arbitrate.ctl := rfl
  refine ⟨fun new => ?_, unmarked, fun pass => ?_, fun fails first => ?_, fun fails again => ?_⟩
  · have image : held.image = f.image := by simp only [held, afterWrite, new]
    have words : held.words = found.words := by simp only [held, afterWrite, new]
    simp only [passes, image, words, and_true]
  · let v := s.storeLine f.line held
    have store : s.sameExcept v [.store] := storeLine_frame ..
    have ends := writePassed_frame v f
    have ctl := writePassed_ctl v f
    have link := writePassed_link v f
    refine ⟨((v.writePassed f).arbitrate).supervise, by rw [executed, endWrite_of_passes (verdict.2 pass)], fun m => ?_, ?_, ?_, ?_, ?_, ?_,
      whole store ends⟩
    · rw [storing, ends.store (by simp)]
      exact storeGet_storeLine ..
    · rw [controller, arbitrate_ctl, ctl]
      rfl
    · rw [kept, link]
      rfl
    · rw [controller, arbitrate_ctl, ctl]
      rfl
    · rw [controller, arbitrate_ctl, ctl]
      rfl
    · have again := landed store ends (by rw [ctl]) (by rw [ctl]) (by rw [ctl]) (by rw [link])
      rw [ctl] at again
      exact again
  · let v := s.storeLeft f found
    have marked (mark : markWrite) : markStored v.store = false := by
      obtain ⟨line, m, image, set⟩ := mark
      exact storeLeft_unmarked line image set found
    have started : v.sameExcept (v.startWrite f.line s.ctl.queue true f.pending) [.ctl] := startWrite_frame ..
    refine ⟨(v.startWrite f.line s.ctl.queue true f.pending).supervise, by rw [executed, endWrite_of_first (mt verdict.1 fails) first], rfl,
      fun m => storeGet_storeLine .., marked, rfl, ?_⟩
    exact .trans (.trans ((storeLine_frame s f.line left).mono (by simp)) (started.mono (by simp))) ((supervise_frame _).mono (by simp))
  · let v := s.storeLeft f found
    have marked (mark : markWrite) : markStored v.store = false := by
      obtain ⟨line, m, image, set⟩ := mark
      exact storeLeft_unmarked line image set found
    have store : s.sameExcept v [.store] := storeLine_frame ..
    have ends := writeFailed_frame v f
    have ctl := writeFailed_ctl v f
    have link := writeFailed_link v f
    have sameStore : (v.writeFailed f).arbitrate.supervise.store = v.store := (storing _).trans (ends.store (by simp))
    refine ⟨((v.writeFailed f).arbitrate).supervise, by rw [executed, endWrite_of_retry (mt verdict.1 fails) again], fun m => ?_, ?_, ?_,
      fun m => ?_, fun on => ?_, ?_, ?_, ?_, whole store ends⟩
    · rw [sameStore]
      exact storeGet_storeLine ..
    · rw [sameStore]
      exact marked
    · rw [controller, arbitrate_ctl, ctl]
      rfl
    · rw [controller, arbitrate_ctl, ctl]
      exact (insertLine_mem ..).trans or_comm
    · rw [supervise_notice, notice_of_link ((arbitrate_frame _).link (by simp))]
      exact writeFailed_notice v f on
    · rw [controller, arbitrate_ctl, ctl]
      rfl
    · rw [kept, link]
      rfl
    · have looked := landed store ends (by rw [ctl]) (by rw [ctl]) (by rw [ctl]) (by rw [link])
      rw [ctl] at looked
      exact looked

end Sys2Proof.Machine
end

-- ==== Live images and dirty marks ====
section
/-! SUPPORT. Which live image a slot, an orphan tally and a record's place stand in, and operations that mark exactly the lines they change
(09 R149, R151; 01 R79). -/

namespace Sys2Proof.Machine

/-! ## Live images, by what they show -/

section
variable (s : State)

theorem liveImage_slot (i : Fin 20) {k : Nat} (h : k < 3) : s.liveImage (6 + 3 * i.val + k) = s.table.slots[i].image k := by
  have slot : (6 + 3 * i.val + k - 6) / 3 = i.val := by omega
  have line : (6 + 3 * i.val + k - 6) % 3 = k := by omega
  unfold State.liveImage
  rw [if_neg (by omega), if_neg (by omega), if_neg (by omega), if_neg (by omega), if_neg (by omega), if_neg (by omega), dif_pos (by omega)]
  simp only [slot, line]
  rfl

theorem liveImage_orphan (i : Fin 16) : s.liveImage (66 + i.val) = .orphan s.tally.orphans[i] := by
  unfold State.liveImage
  rw [if_neg (by omega), if_neg (by omega), if_neg (by omega), if_neg (by omega), if_neg (by omega), if_neg (by omega), dif_neg (by omega),
    dif_pos (by omega)]
  simp only [Nat.add_sub_cancel_left]
  rfl

theorem liveImage_place (pl : Fin 24) {k : Nat} (h : k < 4) : s.liveImage (82 + 4 * pl.val + k) = s.book.places[pl].image k := by
  have place : (82 + 4 * pl.val + k - 82) / 4 = pl.val := by omega
  have line : (82 + 4 * pl.val + k - 82) % 4 = k := by omega
  unfold State.liveImage
  rw [if_neg (by omega), if_neg (by omega), if_neg (by omega), if_neg (by omega), if_neg (by omega), if_neg (by omega), dif_neg (by omega),
    dif_neg (by omega), dif_pos (by omega)]
  simp only [place, line]
  rfl

theorem liveImage_high {n : Nat} (high : 178 ≤ n) : s.liveImage n = .blank := by
  unfold State.liveImage
  rw [if_neg (by omega), if_neg (by omega), if_neg (by omega), if_neg (by omega), if_neg (by omega), if_neg (by omega), dif_neg (by omega),
    dif_neg (by omega), dif_neg (by omega)]

end

/-- A line belongs to the configuration and the map, to a slot, to an orphan tally, to a record's place, or to nothing. -/
theorem line_cases (n : Nat) : n < 6 ∨ (∃ i : Fin 20, ∃ k < 3, n = 6 + 3 * i.val + k) ∨ (∃ i : Fin 16, n = 66 + i.val) ∨
    (∃ pl : Fin 24, ∃ k < 4, n = 82 + 4 * pl.val + k) ∨ 178 ≤ n := by
  by_cases low : n < 6
  · exact .inl low
  by_cases slot : n < 66
  · exact .inr (.inl ⟨⟨(n - 6) / 3, by omega⟩, (n - 6) % 3, by omega, by simp only; omega⟩)
  by_cases orphan : n < 82
  · exact .inr (.inr (.inl ⟨⟨n - 66, by omega⟩, by simp only; omega⟩))
  by_cases place : n < 178
  · exact .inr (.inr (.inr (.inl ⟨⟨(n - 82) / 4, by omega⟩, (n - 82) % 4, by omega, by simp only; omega⟩)))
  · exact .inr (.inr (.inr (.inr (by omega))))

section
variable {s t u : State} {n : Nat}

/-- A live image stays where what it shows stays. -/
theorem liveImage_of_parts (low : n < 6 → t.liveImage n = s.liveImage n)
    (slots : ∀ (i : Fin 20) (k : Nat), k < 3 → n = 6 + 3 * i.val + k → t.table.slots[i].image k = s.table.slots[i].image k)
    (orphans : ∀ i : Fin 16, n = 66 + i.val → t.tally.orphans[i] = s.tally.orphans[i])
    (places : ∀ (pl : Fin 24) (k : Nat), k < 4 → n = 82 + 4 * pl.val + k → t.book.places[pl].image k = s.book.places[pl].image k) :
    t.liveImage n = s.liveImage n := by
  rcases line_cases n with h | ⟨i, k, h, rfl⟩ | ⟨i, rfl⟩ | ⟨pl, k, h, rfl⟩ | h
  · exact low h
  · rw [liveImage_slot t i h, liveImage_slot s i h, slots i k h rfl]
  · rw [liveImage_orphan, liveImage_orphan, orphans i rfl]
  · rw [liveImage_place t pl h, liveImage_place s pl h, places pl k h rfl]
  · rw [liveImage_high t h, liveImage_high s h]

/-- A slot written shows in its own lines only, and there only where its image differs. -/
theorem liveImage_setSlot {i : Fin 20} {x : Slot} (other : ∀ k < 3, n = 6 + 3 * i.val + k → x.image k = s.table.slots[i].image k) :
    (s.setSlot i x).liveImage n = s.liveImage n := by
  refine liveImage_of_parts (fun low => by interval_cases n <;> rfl) (fun j k h line => ?_) (fun _ _ => rfl) fun _ _ _ _ => rfl
  by_cases same : i = j
  · subst same
    refine .trans ?_ (other k h line)
    exact congrArg (Slot.image · k) (Vector.getElem_set_self ..)
  · exact congrArg (Slot.image · k) (Vector.getElem_set_ne i.isLt j.isLt fun e => same (Fin.ext e))

theorem liveImage_setOrphan {p : Position} {x : Tally} (other : n ≠ orphanLine p) : (s.setOrphan p x).liveImage n = s.liveImage n := by
  refine liveImage_of_parts (fun low => by interval_cases n <;> rfl) (fun _ _ _ _ => rfl) (fun i line => ?_) fun _ _ _ _ => rfl
  have apart : p.index.val ≠ i.val := fun e => other (by rw [line, orphanLine, e])
  exact Vector.getElem_set_ne p.index.isLt i.isLt apart

theorem liveImage_setPlace {pl : Fin 24} {x : Place} (other : ∀ k < 4, n = 82 + 4 * pl.val + k → x.image k = s.book.places[pl].image k) :
    (s.setPlace pl x).liveImage n = s.liveImage n := by
  refine liveImage_of_parts (fun low => by interval_cases n <;> rfl) (fun _ _ _ _ => rfl) (fun _ _ => rfl) fun q k h line => ?_
  by_cases same : pl = q
  · subst same
    refine .trans ?_ (other k h line)
    exact congrArg (Place.image · k) (Vector.getElem_set_self ..)
  · exact congrArg (Place.image · k) (Vector.getElem_set_ne pl.isLt q.isLt fun e => same (Fin.ext e))

/-! ## Images tell their contents apart -/

theorem scalarImage_inj {xs ys : List Scalar} : scalarImage xs = scalarImage ys ↔ xs = ys := by
  refine ⟨fun h => ?_, congrArg _⟩
  unfold scalarImage at h
  split at h <;> split at h <;> simp_all

theorem histImage_inj {xs ys : List Hist} : histImage xs = histImage ys ↔ xs = ys := by
  refine ⟨fun h => ?_, congrArg _⟩
  unfold histImage at h
  split at h <;> split at h <;> simp_all

theorem identImage_inj {x y : SlotIdent} : x.image = y.image ↔ x = y := by
  refine ⟨fun h => ?_, congrArg _⟩
  unfold SlotIdent.image at h
  split at h <;> split at h <;> simp_all

theorem incrementImage_inj {x y : IncrementLine} : incrementImage x = incrementImage y ↔ x = y := by
  refine ⟨fun h => ?_, congrArg _⟩
  unfold incrementImage at h
  split at h <;> split at h <;> simp_all

/-! ## Exactly the changed lines are marked (R79) -/

/-- From s to t exactly the lines whose live image changes are marked dirty. -/
def State.marksChanged (s t : State) : Prop := ∀ n, n ∈ t.ctl.dirty ↔ n ∈ s.ctl.dirty ∨ t.liveImage n ≠ s.liveImage n

/-- Only the live images of the lines ns can change. -/
def State.showsBut (s t : State) (ns : List Nat) : Prop := ∀ n, n ∉ ns → t.liveImage n = s.liveImage n

/-- Two steps mark exactly what changes over both, where the second never undoes what the first changed. -/
theorem State.marksChanged.trans (h : s.marksChanged u) (k : u.marksChanged t)
    (back : ∀ n, t.liveImage n = s.liveImage n → u.liveImage n = s.liveImage n) : s.marksChanged t := by
  intro n
  rw [k n, h n]
  by_cases same : t.liveImage n = s.liveImage n
  · simp [back n same, same]
  · by_cases first : u.liveImage n = s.liveImage n
    · simp [first]
    · simp [first, same]

/-- Steps that show in different lines never undo one another. -/
theorem State.showsBut.apart {ms ns : List Nat} (hs : s.showsBut u ms) (ks : u.showsBut t ns) (apart : ∀ n ∈ ms, n ∉ ns) (n : Nat)
    (same : t.liveImage n = s.liveImage n) : u.liveImage n = s.liveImage n := by
  by_cases first : n ∈ ms
  · rw [← ks n (apart n first), same]
  · exact hs n first

theorem State.showsBut.trans {ms ns : List Nat} (hs : s.showsBut u ms) (ks : u.showsBut t ns) : s.showsBut t (ms ++ ns) := fun n out =>
  (ks n fun h => out (List.mem_append_right _ h)).trans (hs n fun h => out (List.mem_append_left _ h))

theorem State.marksChanged.of_same (dirty : t.ctl.dirty = s.ctl.dirty) (shows : s.showsBut t []) : s.marksChanged t := by
  intro n
  rw [dirty, shows n List.not_mem_nil]
  simp

theorem State.marksChanged.after (h : s.marksChanged u) (dirty : t.ctl.dirty = u.ctl.dirty) (shows : u.showsBut t []) : s.marksChanged t := by
  intro n
  rw [dirty, shows n List.not_mem_nil]
  exact h n

theorem mem_markIf (s : State) (b : Bool) (n m : Nat) : m ∈ (s.markIf b n).ctl.dirty ↔ m ∈ s.ctl.dirty ∨ b = true ∧ m = n := by
  cases b
  · simp [State.markIf]
  · exact (insertLine_mem ..).trans (by simp [or_comm])

theorem markIf_shows (s : State) (b : Bool) (m : Nat) : s.showsBut (s.markIf b m) [] := fun n _ => by
  cases b <;> rfl

/-! ## The steps of a delivery (R79) -/

/-- The lines that show a holder's tallies. -/
def Holder.tallyLines (p : Position) : Holder → List Nat
  | .slot i => [scalarLine i, histLine i]
  | .interim => []
  | .orphan => [orphanLine p]

variable (s) in
theorem setTally_slot_marks (p : Position) (i : Fin 20) (x : Tally) :
    s.marksChanged (s.setTally p (.slot i) x) ∧ s.showsBut (s.setTally p (.slot i) x) [scalarLine i, histLine i] := by
  let w : State := s.setSlot i { s.table.slots[i] with tally := x }
  have images (n) : (s.setTally p (.slot i) x).liveImage n = w.liveImage n :=
    (markIf_shows (w.markIf _ _) _ _ n List.not_mem_nil).trans (markIf_shows w _ _ n List.not_mem_nil)
  have here : w.table.slots[i] = { s.table.slots[i] with tally := x } := Vector.getElem_set_self ..
  have shows : s.showsBut (s.setTally p (.slot i) x) [scalarLine i, histLine i] := fun n out => by
    simp only [List.mem_cons, List.not_mem_nil, or_false, not_or, scalarLine, histLine] at out
    rw [images, liveImage_setSlot]
    intro k h line
    interval_cases k
    · rfl
    · omega
    · omega
  have scalars : (s.setTally p (.slot i) x).liveImage (scalarLine i) ≠ s.liveImage (scalarLine i) ↔ x.scalars ≠ s.table.slots[i].tally.scalars := by
    have line : scalarLine i = 6 + 3 * i.val + 1 := by rw [scalarLine]; omega
    rw [images, line, liveImage_slot w i (by decide), liveImage_slot s i (by decide), here]
    exact not_congr scalarImage_inj
  have hists : (s.setTally p (.slot i) x).liveImage (histLine i) ≠ s.liveImage (histLine i) ↔ x.hists ≠ s.table.slots[i].tally.hists := by
    have line : histLine i = 6 + 3 * i.val + 2 := by rw [histLine]; omega
    rw [images, line, liveImage_slot w i (by decide), liveImage_slot s i (by decide), here]
    exact not_congr histImage_inj
  refine ⟨fun n => ?_, shows⟩
  have dirty : n ∈ (s.setTally p (.slot i) x).ctl.dirty ↔ n ∈ s.ctl.dirty ∨ x.scalars ≠ s.table.slots[i].tally.scalars ∧ n = scalarLine i ∨
      x.hists ≠ s.table.slots[i].tally.hists ∧ n = histLine i := by
    refine (mem_markIf _ _ _ n).trans ?_
    rw [mem_markIf, decide_eq_true_iff, decide_eq_true_iff, or_assoc]
    rfl
  rw [dirty]
  by_cases first : n = scalarLine i
  · have other : n ≠ histLine i := by rw [first, scalarLine, histLine]; omega
    rw [first, scalars]
    rw [first] at other
    simp [other]
  · by_cases second : n = histLine i
    · rw [second, hists]
      rw [second] at first
      simp [first]
    · rw [shows n (by simp [first, second])]
      simp [first, second]

variable (s) in
theorem setTally_orphan_marks (p : Position) (x : Tally) :
    s.marksChanged (s.setTally p .orphan x) ∧ s.showsBut (s.setTally p .orphan x) [orphanLine p] := by
  let w : State := s.setOrphan p x
  have images (n) : (s.setTally p .orphan x).liveImage n = w.liveImage n := markIf_shows w _ _ n List.not_mem_nil
  have shows : s.showsBut (s.setTally p .orphan x) [orphanLine p] := fun n out =>
    (images n).trans (liveImage_setOrphan (by simpa using out))
  have changed : (s.setTally p .orphan x).liveImage (orphanLine p) ≠ s.liveImage (orphanLine p) ↔ x ≠ s.tally.orphans[p.index] := by
    have here : w.tally.orphans[p.index] = x := Vector.getElem_set_self ..
    rw [images, orphanLine, liveImage_orphan, liveImage_orphan, here, ne_eq, LineImage.orphan.injEq]
  refine ⟨fun n => ?_, shows⟩
  have dirty : n ∈ (s.setTally p .orphan x).ctl.dirty ↔ n ∈ s.ctl.dirty ∨ x ≠ s.tally.orphans[p.index] ∧ n = orphanLine p := by
    refine (mem_markIf _ _ _ n).trans ?_
    rw [decide_eq_true_iff]
    rfl
  rw [dirty]
  by_cases own : n = orphanLine p
  · rw [own, changed]
    simp
  · rw [shows n (by simp [own])]
    simp [own]

variable (s) in
/-- New tallies mark exactly the lines of their holder that change. -/
theorem setTally_marks (p : Position) (h : Holder) (x : Tally) :
    s.marksChanged (s.setTally p h x) ∧ s.showsBut (s.setTally p h x) (h.tallyLines p) := by
  cases h with
  | slot i => exact setTally_slot_marks s p i x
  | interim => exact ⟨.of_same rfl fun n _ => rfl, fun n _ => rfl⟩
  | orphan => exact setTally_orphan_marks s p x

variable (s) in
/-- An increment marks exactly its line, where that changes. -/
theorem addPeriod_marks (p : Position) (q : Quantity) (amount : Nat) : s.marksChanged (s.addPeriod p q amount) ∧
    s.showsBut (s.addPeriod p q amount) [incrementLineNo s.book.openPlace p] := by
  let old : Place := s.book.places[s.book.openPlace]
  let w : State := s.setPlace s.book.openPlace (old.add p q amount)
  have images (n) : (s.addPeriod p q amount).liveImage n = w.liveImage n := markIf_shows w _ _ n List.not_mem_nil
  have line (j : Fin 3) : (old.add p q amount).image (j.val + 1) = incrementImage (old.add p q amount).lines[j] ∧
      old.image (j.val + 1) = incrementImage old.lines[j] := by fin_cases j <;> exact ⟨rfl, rfl⟩
  have other (j : Fin 3) (h : j ≠ p.incrementLine) : (old.add p q amount).lines[j] = old.lines[j] :=
    Vector.getElem_set_ne p.incrementLine.isLt j.isLt fun e => h (Fin.ext e.symm)
  have shows : s.showsBut (s.addPeriod p q amount) [incrementLineNo s.book.openPlace p] := fun n out => by
    simp only [List.mem_singleton, incrementLineNo] at out
    rw [images, liveImage_setPlace]
    intro k h at_
    cases k with
    | zero => rfl
    | succ j =>
      obtain ⟨new, before⟩ := line ⟨j, by omega⟩
      have apart : (⟨j, by omega⟩ : Fin 3) ≠ p.incrementLine := fun e => by
        have : j = p.incrementLine.val := congrArg Fin.val e
        omega
      exact new.trans ((congrArg incrementImage (other _ apart)).trans before.symm)
  have changed : (s.addPeriod p q amount).liveImage (incrementLineNo s.book.openPlace p) ≠ s.liveImage (incrementLineNo s.book.openPlace p) ↔
      old.add p q amount ≠ old := by
    have at_ : incrementLineNo s.book.openPlace p = 82 + 4 * s.book.openPlace.val + (p.incrementLine.val + 1) := by
      rw [incrementLineNo]
      omega
    have here : w.book.places[s.book.openPlace] = old.add p q amount := Vector.getElem_set_self ..
    obtain ⟨new, before⟩ := line p.incrementLine
    rw [images, at_, liveImage_place w _ (by omega), liveImage_place s _ (by omega), here, new]
    refine not_congr ((iff_of_eq (congrArg (_ = ·) before)).trans (incrementImage_inj.trans ⟨fun same => ?_, fun same => by rw [same]⟩))
    have kept : old.lines.set p.incrementLine (old.add p q amount).lines[p.incrementLine] = old.lines := by
      rw [same]
      exact Vector.set_getElem_self _
    have set : (old.add p q amount).lines = old.lines := by
      refine .trans ?_ kept
      refine congrArg (old.lines.set p.incrementLine · _) ?_
      exact (Vector.getElem_set_self ..).symm
    exact congrArg (fun ls => { old with lines := ls }) set
  refine ⟨fun n => ?_, shows⟩
  have dirty : n ∈ (s.addPeriod p q amount).ctl.dirty ↔ n ∈ s.ctl.dirty ∨ old.add p q amount ≠ old ∧ n = incrementLineNo s.book.openPlace p := by
    refine (mem_markIf _ _ _ n).trans ?_
    rw [decide_eq_true_iff]
    rfl
  rw [dirty]
  by_cases own : n = incrementLineNo s.book.openPlace p
  · rw [own, changed]
    simp
  · rw [shows n (by simp [own])]
    simp [own]

variable (s) in
theorem raiseSaturated_shows (h p b a q e) : s.showsBut (s.raiseSaturated h p b a q e) [] := fun n _ => by
  have frame := raiseSaturated_frame s h p b a q e
  refine liveImage_congr frame (by rw [frame.ctl (by simp)]) (by rw [frame.ctl (by simp)]) ?_ n
  rw [(raiseSaturated_mild s h p b a q e).link]

/-! ## The threshold tests (R91, R93) -/

theorem isArmed_congr {x y : Slot} (same : x.ident = y.ident) : x.isArmed = y.isArmed := by rw [Slot.isArmed, Slot.isArmed, same]

theorem isOver_congr {x y : Slot} (same : x.ident = y.ident) : x.isOver = y.isOver := by rw [Slot.isOver, Slot.isOver, same]

theorem aged_isArmed (x : Slot) : x.aged.isArmed = x.isArmed := by
  cases limits : x.ident.limits with
  | none => rw [aged_of_none limits]
  | some l =>
    obtain ⟨sv, lf⟩ := l
    rw [aged_of_limits limits]
    simp [Slot.isArmed, limits, lifeTested]

theorem serviced_isOver (x : Slot) : x.serviced.isOver = x.isOver := by
  cases limits : x.ident.limits with
  | none => rw [serviced_of_none limits]
  | some l =>
    obtain ⟨sv, lf⟩ := l
    rw [serviced_of_limits limits]
    simp [Slot.isOver, limits, serviceTested]

variable (s) in
/-- A slot of which the identity line alone differs, written and marked, and a notice raised. -/
theorem identWritten_marks {i : Fin 20} {x : Slot} (tally : x.tally = s.table.slots[i].tally) (differs : x.ident ≠ s.table.slots[i].ident)
    (k : NoticeKind) (d : Detail) : s.marksChanged (((s.setSlot i x).markDirty (identLine i)).raise k d) ∧
      s.showsBut (((s.setSlot i x).markDirty (identLine i)).raise k d) [identLine i] := by
  let w : State := s.setSlot i x
  have raised := raise_frame (w.markDirty (identLine i)) k d
  have images (n) : ((w.markDirty (identLine i)).raise k d).liveImage n = w.liveImage n := by
    refine .trans ?_ (markIf_shows w true (identLine i) n List.not_mem_nil)
    exact liveImage_congr raised (by rw [raise_ctl]) (by rw [raise_ctl]) (by rw [raise_link]) n
  have shows : s.showsBut ((w.markDirty (identLine i)).raise k d) [identLine i] := fun n out => by
    simp only [List.mem_singleton, identLine] at out
    rw [images, liveImage_setSlot]
    intro j h line
    interval_cases j
    · omega
    · exact congrArg (fun y : Tally => scalarImage y.scalars) tally
    · exact congrArg (fun y : Tally => histImage y.hists) tally
  have changed : ((w.markDirty (identLine i)).raise k d).liveImage (identLine i) ≠ s.liveImage (identLine i) := by
    have line : identLine i = 6 + 3 * i.val + 0 := rfl
    have here : w.table.slots[i] = x := Vector.getElem_set_self ..
    rw [images, line, liveImage_slot w i (by decide), liveImage_slot s i (by decide), here]
    exact mt identImage_inj.1 differs
  refine ⟨fun n => ?_, shows⟩
  rw [raise_ctl]
  refine (insertLine_mem ..).trans ?_
  by_cases own : n = identLine i
  · subst own
    exact iff_of_true (.inl rfl) (.inr changed)
  · rw [shows n (by simp [own])]
    simp only [own, false_or, ne_eq, not_true_eq_false, or_false]
    rfl

variable (s) in
theorem testService_marks (i : Fin 20) : s.marksChanged (s.testService i) ∧ s.showsBut (s.testService i) [identLine i] := by
  rw [testService_eq]
  split
  · rename_i falls
    refine identWritten_marks s (x := s.table.slots[i].serviced) rfl (fun same => ?_) .serviceDue (.slot i)
    rw [Slot.falls, isArmed_congr same, Bool.and_not_self] at falls
    exact nomatch falls
  · exact ⟨.of_same rfl fun n _ => rfl, fun n _ => rfl⟩

variable (s) in
theorem testLife_marks (i : Fin 20) : s.marksChanged (s.testLife i) ∧ s.showsBut (s.testLife i) [identLine i] := by
  rw [testLife_eq]
  split
  · rename_i expires
    refine identWritten_marks s (x := s.table.slots[i].aged) rfl (fun same => ?_) .lifeLimit (.slot i)
    rw [Slot.expires, isOver_congr same, Bool.not_and_self] at expires
    exact nomatch expires
  · exact ⟨.of_same rfl fun n _ => rfl, fun n _ => rfl⟩

theorem ident_of_liveImage {i : Fin 20} (same : t.liveImage (identLine i) = s.liveImage (identLine i)) :
    t.table.slots[i].ident = s.table.slots[i].ident := by
  have line : identLine i = 6 + 3 * i.val + 0 := rfl
  rw [line, liveImage_slot t i (by decide), liveImage_slot s i (by decide)] at same
  exact identImage_inj.1 same

variable (s) in
/-- The tests of a slot's thresholds mark its identity line exactly where it changes. -/
theorem testThresholds_marks (i : Fin 20) (q : Quantity) :
    s.marksChanged (s.testThresholds (.slot i) q) ∧ s.showsBut (s.testThresholds (.slot i) q) [identLine i] := by
  let u : State := if s.table.slots[i].serviceQuantity = some q then s.testService i else s
  let v : State := if u.table.slots[i].lifeQuantity = some q then u.testLife i else u
  have service : s.marksChanged u ∧ s.showsBut u [identLine i] := by
    by_cases watched : s.table.slots[i].serviceQuantity = some q
    · have made : u = s.testService i := if_pos watched
      rw [made]
      exact testService_marks s i
    · have made : u = s := if_neg watched
      rw [made]
      exact ⟨.of_same rfl fun n _ => rfl, fun n _ => rfl⟩
  have life : u.marksChanged v ∧ u.showsBut v [identLine i] ∧ v.table.slots[i].isArmed = u.table.slots[i].isArmed := by
    by_cases watched : u.table.slots[i].lifeQuantity = some q
    · have made : v = u.testLife i := if_pos watched
      have slot : (u.testLife i).table.slots[i] = u.table.slots[i].aged := by rw [testLife_slots]; exact Vector.getElem_set_self ..
      rw [made, slot]
      exact ⟨(testLife_marks u i).1, (testLife_marks u i).2, aged_isArmed _⟩
    · have made : v = u := if_neg watched
      rw [made]
      exact ⟨.of_same rfl fun n _ => rfl, fun n _ => rfl, rfl⟩
  obtain ⟨marks, shows⟩ := service
  obtain ⟨marks', shows', armed⟩ := life
  have all : s.showsBut v [identLine i] := fun n out => (shows' n out).trans (shows n out)
  have back (n : Nat) (same : v.liveImage n = s.liveImage n) : u.liveImage n = s.liveImage n := by
    by_cases own : n = identLine i
    · subst own
      have ident := ident_of_liveImage same
      have still : u.table.slots[i].isArmed = s.table.slots[i].isArmed :=
        armed.symm.trans (isArmed_congr ident)
      by_cases watched : s.table.slots[i].serviceQuantity = some q
      · have made : u = s.testService i := if_pos watched
        have slot : (s.testService i).table.slots[i] = s.table.slots[i].serviced := by rw [testService_slots]; exact Vector.getElem_set_self ..
        rw [made, slot] at still
        rw [made, testService_of_calm]
        rw [Slot.falls, still, Bool.and_not_self]
        exact Bool.false_ne_true
      · have made : u = s := if_neg watched
        rw [made]
    · exact shows n (by simp [own])
  exact ⟨marks.trans marks' back, all⟩

end

end Sys2Proof.Machine
end

-- ==== One quantum delivered ====
section
/-! SUPPORT. A delivery step by step (01 R10, R13; 06 R79): holder and open record, SATURATED, thresholds; which lines it marks and which
notices it raises; and the increments of the record (08 R11, R132). -/

namespace Sys2Proof.Machine

section
variable (s : State) (x : Quantum)

/-! ## The steps -/

/-- The tally of the quantum's holder, before. -/
def State.tallyBefore : Tally := s.tallyOf x.position (s.holder x.position)

/-- The tally of the quantum's holder, after. -/
def State.tallyAfter : Tally := (s.tallyBefore x).add x.quantity x.entry x.amount

/-- Holder and open record have taken the quantum. -/
def State.entered : State :=
  if x.quantity.isHist = true then s.setTally x.position (s.holder x.position) (s.tallyAfter x)
  else (s.setTally x.position (s.holder x.position) (s.tallyAfter x)).addPeriod x.position x.quantity x.amount

/-- SATURATED is raised for the holder, where its mark has come to be set. -/
def State.notedHolder : State := (s.entered x).raiseSaturated (s.holder x.position).named x.position ((s.tallyBefore x).mark x.quantity)
  ((s.tallyAfter x).mark x.quantity) x.quantity x.entryNamed

/-- SATURATED is raised for the period too, where its mark has come to be set. -/
def State.notedPeriod : State := (s.notedHolder x).raiseSaturated (.period s.book.newest) x.position
  (s.book.places[s.book.openPlace].mark x.position x.quantity)
  ((s.entered x).book.places[s.book.openPlace].mark x.position x.quantity) x.quantity none

theorem deliver_eq : s.deliver x = if (s.tallyAfter x).value x.quantity = (s.tallyBefore x).value x.quantity then s.notedPeriod x
    else (s.notedPeriod x).testThresholds (s.holder x.position) x.quantity := rfl

/-! ## The lines marked (R79) -/

/-- The lines that a quantum's increment and its holder's tallies stand in. -/
def State.enteredLines : List Nat := (s.holder x.position).tallyLines x.position ++ [incrementLineNo s.book.openPlace x.position]

theorem incrementLineNo_high (pl : Fin 24) (p : Position) : 82 < incrementLineNo pl p := by
  rw [incrementLineNo]
  omega

theorem tallyLines_low (p : Position) (h : Holder) (n : Nat) (mem : n ∈ h.tallyLines p) : n < 82 ∧ ∀ i : Fin 20, n ≠ identLine i := by
  cases h with
  | slot j =>
    rcases List.mem_pair.1 mem with rfl | rfl
    · exact ⟨by rw [scalarLine]; omega, fun i => by rw [scalarLine, identLine]; omega⟩
    · exact ⟨by rw [histLine]; omega, fun i => by rw [histLine, identLine]; omega⟩
  | interim => exact absurd mem List.not_mem_nil
  | orphan =>
    rw [List.mem_singleton.1 mem, orphanLine]
    exact ⟨by omega, fun i => by rw [identLine]; omega⟩

theorem entered_marks : s.marksChanged (s.entered x) ∧ s.showsBut (s.entered x) (s.enteredLines x) := by
  obtain ⟨marks, shows⟩ := setTally_marks s x.position (s.holder x.position) (s.tallyAfter x)
  have book : (s.setTally x.position (s.holder x.position) (s.tallyAfter x)).book = s.book := (setTally_frame ..).book (by simp)
  by_cases hist : x.quantity.isHist = true
  · have made : s.entered x = _ := if_pos hist
    rw [made]
    exact ⟨marks, fun n out => shows n fun mem => out (List.mem_append_left _ mem)⟩
  · have made : s.entered x = _ := if_neg hist
    obtain ⟨marks', shows'⟩ := addPeriod_marks (s.setTally x.position (s.holder x.position) (s.tallyAfter x)) x.position x.quantity x.amount
    rw [book] at shows'
    rw [made]
    refine ⟨marks.trans marks' (shows.apart shows' fun n mem high => ?_), shows.trans shows'⟩
    obtain ⟨low, -⟩ := tallyLines_low _ _ n mem
    have := incrementLineNo_high s.book.openPlace x.position
    rw [← List.mem_singleton.1 high] at this
    omega

theorem notedPeriod_marks : s.marksChanged (s.notedPeriod x) ∧ s.showsBut (s.notedPeriod x) (s.enteredLines x) := by
  obtain ⟨marks, shows⟩ := entered_marks s x
  have first : (s.entered x).showsBut (s.notedHolder x) [] := raiseSaturated_shows (s.entered x) _ _ _ _ _ _
  have second : (s.notedHolder x).showsBut (s.notedPeriod x) [] := raiseSaturated_shows (s.notedHolder x) _ _ _ _ _ _
  have holder : (s.notedHolder x).ctl = (s.entered x).ctl := raiseSaturated_ctl ..
  have period : (s.notedPeriod x).ctl = (s.notedHolder x).ctl := raiseSaturated_ctl ..
  refine ⟨(marks.after (by rw [holder]) first).after (by rw [period]) second, fun n out => ?_⟩
  rw [second n List.not_mem_nil, first n List.not_mem_nil, shows n out]

/-- Exactly the lines whose live image a delivery changes are marked dirty. -/
theorem deliver_marks : s.marksChanged (s.deliver x) := by
  obtain ⟨marks, shows⟩ := notedPeriod_marks s x
  rw [deliver_eq]
  split
  · exact marks
  · cases holder : s.holder x.position with
    | interim => exact marks
    | orphan => exact marks
    | slot i =>
      obtain ⟨marks', shows'⟩ := testThresholds_marks (s.notedPeriod x) i x.quantity
      refine marks.trans marks' (shows.apart shows' fun n mem own => ?_)
      rw [List.mem_singleton] at own
      rcases List.mem_append.1 mem with tally | period
      · exact (tallyLines_low _ _ n tally).2 i own
      · have high := incrementLineNo_high s.book.openPlace x.position
        rw [← List.mem_singleton.1 period, own, identLine] at high
        omega

/-! ## The notices raised (R13, R91, R93, R190) -/

theorem entered_link : (s.entered x).link = s.link := by
  have taken : (s.setTally x.position (s.holder x.position) (s.tallyAfter x)).link = s.link := (setTally_frame ..).link (by simp)
  unfold State.entered
  split
  · exact taken
  · exact ((addPeriod_frame ..).link (by simp)).trans taken

theorem raiseSaturated_notice (h p b a q e) : (s.raiseSaturated h p b a q e).notice .saturated =
    if b = false ∧ a = true then s.noticeAfter .saturated (.saturated h p q e) (s.notice .saturated) else s.notice .saturated := by
  cases b <;> cases a
  · rfl
  · exact raise_notice_self ..
  · rfl
  · rfl

/-- SATURATED after a delivery: the holder's raise comes before the period's (log 30). -/
theorem notedPeriod_saturated : (s.notedPeriod x).notice .saturated =
    let first := if (s.tallyBefore x).mark x.quantity = false ∧ (s.tallyAfter x).mark x.quantity = true then
        s.noticeAfter .saturated (.saturated (s.holder x.position).named x.position x.quantity x.entryNamed) (s.notice .saturated)
      else s.notice .saturated
    if s.book.places[s.book.openPlace].mark x.position x.quantity = false ∧
        (s.entered x).book.places[s.book.openPlace].mark x.position x.quantity = true then
      s.noticeAfter .saturated (.saturated (.period s.book.newest) x.position x.quantity none) first
    else first := by
  have link := entered_link s x
  have settings : (s.notedHolder x).link.settings = s.link.settings := by
    have : (s.notedHolder x).link = _ := (raiseSaturated_mild ..).link
    rw [this, link]
  have period : (s.notedPeriod x).notice .saturated = _ := raiseSaturated_notice (s.notedHolder x) ..
  have holder : (s.notedHolder x).notice .saturated = _ := raiseSaturated_notice (s.entered x) ..
  have after (n) := noticeAfter_congr settings .saturated (.saturated (.period s.book.newest) x.position x.quantity none) n
  have first (n) := noticeAfter_congr (t := s.entered x) (s := s) (by rw [link]) .saturated
    (.saturated (s.holder x.position).named x.position x.quantity x.entryNamed) n
  rw [period, after, holder, first, notice_of_link link]

end

theorem State.noticed.of_calm {s t : State} {k : NoticeKind} {raised : Prop} {d : Detail} (calm : ¬raised)
    (same : t.notice k = s.notice k) : s.noticed t k raised d := ⟨fun h => absurd h calm, fun _ => same⟩

theorem not_set_and_clear (b : Bool) : ¬(b = true ∧ b = false) := fun h => Bool.noConfusion (h.1.symm.trans h.2)

theorem not_clear_and_set (b : Bool) : ¬(b = false ∧ b = true) := fun h => Bool.noConfusion (h.1.symm.trans h.2)

/-- What the tests of a slot's thresholds raise (R91, R93). -/
theorem testThresholds_noticed (s : State) (i : Fin 20) (q : Quantity) :
    let t := s.testThresholds (.slot i) q
    s.noticed t .serviceDue (s.table.slots[i].isArmed = true ∧ t.table.slots[i].isArmed = false) (.slot i) ∧
    s.noticed t .lifeLimit (s.table.slots[i].isOver = false ∧ t.table.slots[i].isOver = true) (.slot i) ∧
    t.notice .saturated = s.notice .saturated := by
  let u : State := if s.table.slots[i].serviceQuantity = some q then s.testService i else s
  let v : State := if u.table.slots[i].lifeQuantity = some q then u.testLife i else u
  have service : u.table.slots[i].isOver = s.table.slots[i].isOver ∧ (∀ k, k ≠ .serviceDue → u.notice k = s.notice k) ∧
      u.link.settings = s.link.settings ∧
      s.noticed u .serviceDue (s.table.slots[i].isArmed = true ∧ u.table.slots[i].isArmed = false) (.slot i) := by
    by_cases watched : s.table.slots[i].serviceQuantity = some q
    · have made : u = s.testService i := if_pos watched
      obtain ⟨link, due, others⟩ := testService_notice s i
      have slot : (s.testService i).table.slots[i] = s.table.slots[i].serviced := by rw [testService_slots]; exact Vector.getElem_set_self ..
      have falls : s.table.slots[i].falls = true ↔ s.table.slots[i].isArmed = true ∧ s.table.slots[i].serviced.isArmed = false := by
        rw [Slot.falls, Bool.and_eq_true, Bool.not_eq_true']
      rw [made, slot]
      refine ⟨serviced_isOver _, others, by rw [link], fun raised => ?_, fun calm => ?_⟩
      · rw [due, if_pos (falls.2 raised)]
      · rw [due, if_neg (mt falls.1 calm)]
    · have made : u = s := if_neg watched
      rw [made]
      exact ⟨rfl, fun _ _ => rfl, rfl, .of_calm (not_set_and_clear _) rfl⟩
  have life : v.table.slots[i].isArmed = u.table.slots[i].isArmed ∧ (∀ k, k ≠ .lifeLimit → v.notice k = u.notice k) ∧
      u.noticed v .lifeLimit (u.table.slots[i].isOver = false ∧ v.table.slots[i].isOver = true) (.slot i) := by
    by_cases watched : u.table.slots[i].lifeQuantity = some q
    · have made : v = u.testLife i := if_pos watched
      obtain ⟨-, limit, others⟩ := testLife_notice u i
      have slot : (u.testLife i).table.slots[i] = u.table.slots[i].aged := by rw [testLife_slots]; exact Vector.getElem_set_self ..
      have expires : u.table.slots[i].expires = true ↔ u.table.slots[i].isOver = false ∧ u.table.slots[i].aged.isOver = true := by
        rw [Slot.expires, Bool.and_eq_true, Bool.not_eq_true']
      rw [made, slot]
      refine ⟨aged_isArmed _, others, fun raised => ?_, fun calm => ?_⟩
      · rw [limit, if_pos (expires.2 raised)]
      · rw [limit, if_neg (mt expires.1 calm)]
    · have made : v = u := if_neg watched
      rw [made]
      exact ⟨rfl, fun _ _ => rfl, .of_calm (not_clear_and_set _) rfl⟩
  obtain ⟨past, others, settings, due, undue⟩ := service
  obtain ⟨armed, others', limit, unlimited⟩ := life
  have same : u.notice .lifeLimit = s.notice .lifeLimit := others _ (by decide)
  have kept : v.notice .serviceDue = u.notice .serviceDue := others' _ (by decide)
  rw [past, same] at limit
  rw [past, same] at unlimited
  rw [← armed, ← kept] at due undue
  exact ⟨⟨due, undue⟩, ⟨fun raised => (limit raised).trans (noticeAfter_congr settings ..), unlimited⟩,
    (others' _ (by decide)).trans (others _ (by decide))⟩

section
variable (s : State) (x : Quantum)

theorem notedPeriod_mild : s.Mild (s.notedPeriod x) [.saturated] := by
  have entered : s.Mild (s.entered x) [.saturated] := by
    unfold State.entered
    exact .ite (setTally_mild ..|>.mono (by simp)) (((setTally_mild ..).mono (by simp)).trans ((addPeriod_mild ..).mono (by simp)))
  exact (entered.trans (raiseSaturated_mild ..)).trans (raiseSaturated_mild ..)

/-- What the tests after a delivery raise for the slot that took the quantum. -/
theorem deliver_noticed {i : Fin 20} (holder : s.holder x.position = .slot i) :
    s.noticed (s.deliver x) .serviceDue (s.table.slots[i].isArmed = true ∧ (s.deliver x).table.slots[i].isArmed = false) (.slot i) ∧
    s.noticed (s.deliver x) .lifeLimit (s.table.slots[i].isOver = false ∧ (s.deliver x).table.slots[i].isOver = true) (.slot i) := by
  have mild := notedPeriod_mild s x
  have settings : (s.notedPeriod x).link.settings = s.link.settings := by rw [mild.link]
  have ident : (s.notedPeriod x).table.slots[i].ident = s.table.slots[i].ident := by
    have table : (s.notedPeriod x).table = (s.setTally x.position (.slot i) (s.tallyAfter x)).table := by
      have entered : (s.entered x).table = (s.setTally x.position (s.holder x.position) (s.tallyAfter x)).table := by
        unfold State.entered
        split
        · rfl
        · exact (addPeriod_frame ..).table (by simp)
      rw [← holder, ← entered]
      exact ((raiseSaturated_frame ..).table (by simp)).trans ((raiseSaturated_frame ..).table (by simp))
    rw [table, setTally_slot_table]
    exact (congrArg Slot.ident (Vector.getElem_set_self ..)).trans rfl
  have due : (s.notedPeriod x).notice .serviceDue = s.notice .serviceDue := mild.others _ (by decide)
  have limit : (s.notedPeriod x).notice .lifeLimit = s.notice .lifeLimit := mild.others _ (by decide)
  rw [deliver_eq, holder]
  split
  · rw [isArmed_congr ident, isOver_congr ident]
    exact ⟨.of_calm (not_set_and_clear _) due, .of_calm (not_clear_and_set _) limit⟩
  · obtain ⟨⟨service, unserviced⟩, ⟨life, unlimited⟩, -⟩ := testThresholds_noticed (s.notedPeriod x) i x.quantity
    rw [isArmed_congr ident] at service unserviced
    rw [isOver_congr ident] at life unlimited
    refine ⟨⟨fun raised => (service raised).trans ?_, fun calm => (unserviced calm).trans due⟩,
      fun raised => (life raised).trans ?_, fun calm => (unlimited calm).trans limit⟩
    · rw [due]
      exact noticeAfter_congr settings ..
    · rw [limit]
      exact noticeAfter_congr settings ..

theorem deliver_of_noSlot (other : ∀ i, s.holder x.position ≠ .slot i) : s.deliver x = s.notedPeriod x := by
  rw [deliver_eq]
  cases holder : s.holder x.position with
  | slot i => exact absurd holder (other i)
  | interim => exact ite_self _
  | orphan => exact ite_self _

theorem deliver_saturated : (s.deliver x).notice .saturated = (s.notedPeriod x).notice .saturated := by
  cases holder : s.holder x.position with
  | slot i =>
    obtain ⟨-, -, kept⟩ := testThresholds_noticed (s.notedPeriod x) i x.quantity
    rw [deliver_eq, holder]
    split
    · rfl
    · exact kept
  | interim => rw [deliver_of_noSlot s x (by simp [holder])]
  | orphan => rw [deliver_of_noSlot s x (by simp [holder])]

theorem entered_book : (s.entered x).book = (s.deliver x).book := by
  have period : (s.notedPeriod x).book = (s.entered x).book :=
    ((raiseSaturated_frame ..).book (by simp)).trans ((raiseSaturated_frame ..).book (by simp))
  rw [← period, deliver_eq]
  split
  · rfl
  · exact ((testThresholds_frame ..).book (by simp)).symm

end

/-! ## The increments of the record (R132) -/

section
variable {p r : Position} {q u : Quantity} {n : Nat}

theorem find_addPair_other (other : u ≠ q) (ps : List Pair) :
    (addPair q n ps).find? (fun y => decide (y.quantity = u)) = ps.find? fun y => decide (y.quantity = u) := by
  induction ps with
  | nil => simp [addPair, other.symm]
  | cons y ps ih =>
    unfold addPair
    split
    · rename_i own
      simp [own, other.symm]
    · split
      · simp [other.symm]
      · rw [List.find?_cons, List.find?_cons, ih]

/-- The pair of the quantity after an addition: the increment grows up to its maximum, and past it the mark is set. -/
theorem find_addPair_self (ps : List Pair) (sorted : (ps.map fun y => y.quantity.code).Pairwise (· < ·)) :
    (addPair q n ps).find? (fun y => decide (y.quantity = q)) = some (match ps.find? fun y => decide (y.quantity = q) with
      | some y => { y with amount := min 4294967295 (y.amount + n), saturated := y.saturated || decide (4294967295 < y.amount + n) }
      | none => { quantity := q, amount := min 4294967295 n, saturated := decide (4294967295 < n) }) := by
  induction ps with
  | nil => exact List.find?_cons_of_pos (decide_eq_true rfl)
  | cons y ps ih =>
    obtain ⟨first, rest⟩ := List.pairwise_cons.1 sorted
    unfold addPair
    split
    · rename_i own
      rw [List.find?_cons_of_pos (by simp [own]), List.find?_cons_of_pos (by simp [own])]
      rfl
    · rename_i other
      split
      · rename_i before
        have absent : (y :: ps).find? (fun y => decide (y.quantity = q)) = none := by
          refine List.find?_eq_none.2 fun z mem own => ?_
          have same : z.quantity = q := of_decide_eq_true own
          rcases List.mem_cons.1 mem with rfl | later
          · exact other same
          · have := first _ (List.mem_map.2 ⟨z, later, rfl⟩)
            dsimp only at this
            rw [same] at this
            omega
        rw [absent]
        exact List.find?_cons_of_pos (decide_eq_true rfl)
      · rw [List.find?_cons_of_neg (by simpa using other), List.find?_cons_of_neg (by simpa using other)]
        exact ih rest

theorem find_addEntry_other (other : r ≠ p) (es : List Entry) :
    (addEntry p q n es).find? (fun e => decide (e.position = r)) = es.find? fun e => decide (e.position = r) := by
  induction es with
  | nil => simp [addEntry, other.symm]
  | cons e es ih =>
    unfold addEntry
    split
    · rename_i own
      simp [own, other.symm]
    · split
      · simp [other.symm]
      · rw [List.find?_cons, List.find?_cons, ih]

/-- The entry of the position after an addition. -/
theorem find_addEntry_self (es : List Entry) (sorted : (es.map fun e => e.position.code).Pairwise (· < ·)) :
    (addEntry p q n es).find? (fun e => decide (e.position = p)) = some (match es.find? fun e => decide (e.position = p) with
      | some e => { e with pairs := addPair q n e.pairs }
      | none => { position := p, pairs := addPair q n [] }) := by
  induction es with
  | nil => simp [addEntry]
  | cons e es ih =>
    obtain ⟨first, rest⟩ := List.pairwise_cons.1 sorted
    unfold addEntry
    split
    · rename_i own
      simp [own]
    · rename_i other
      split
      · rename_i before
        have absent : (e :: es).find? (fun e => decide (e.position = p)) = none := by
          refine List.find?_eq_none.2 fun z mem own => ?_
          have same : z.position = p := of_decide_eq_true own
          rcases List.mem_cons.1 mem with rfl | later
          · exact other same
          · have := first _ (List.mem_map.2 ⟨z, later, rfl⟩)
            dsimp only at this
            rw [same] at this
            omega
        rw [absent]
        simp
      · rw [List.find?_cons_of_neg (by simpa using other), List.find?_cons_of_neg (by simpa using other)]
        exact ih rest

theorem findPair_addEntry_self (es : List Entry) (sorted : (es.map fun e => e.position.code).Pairwise (· < ·))
    (inner : ∀ e ∈ es, (e.pairs.map fun y => y.quantity.code).Pairwise (· < ·)) :
    findPair p q (addEntry p q n es) = some (match findPair p q es with
      | some y => { y with amount := min 4294967295 (y.amount + n), saturated := y.saturated || decide (4294967295 < y.amount + n) }
      | none => { quantity := q, amount := min 4294967295 n, saturated := decide (4294967295 < n) }) := by
  unfold findPair
  rw [find_addEntry_self es sorted]
  cases found : es.find? fun e => decide (e.position = p) with
  | none => exact find_addPair_self [] List.Pairwise.nil
  | some e => exact find_addPair_self e.pairs (inner e (List.mem_of_find?_eq_some found))

theorem findPair_addEntry_other (es : List Entry) (sorted : (es.map fun e => e.position.code).Pairwise (· < ·))
    (other : r ≠ p ∨ u ≠ q) : findPair r u (addEntry p q n es) = findPair r u es := by
  unfold findPair
  by_cases own : r = p
  · subst own
    have quantity : u ≠ q := other.resolve_left fun k => k rfl
    rw [find_addEntry_self es sorted]
    cases found : es.find? fun e => decide (e.position = r) with
    | none => exact find_addPair_other quantity []
    | some e => exact find_addPair_other quantity e.pairs
  · rw [find_addEntry_other own]

variable (a : Place)

theorem add_line : (a.add p q n).lines[p.incrementLine].entries = addEntry p q n a.lines[p.incrementLine].entries :=
  congrArg IncrementLine.entries (Vector.getElem_set_self ..)

theorem add_line_seq : (a.add p q n).lines[p.incrementLine].seq = a.lines[p.incrementLine].seq :=
  (congrArg IncrementLine.seq (Vector.getElem_set_self ..)).trans rfl

theorem add_line_ne {j : Fin 3} (other : j ≠ p.incrementLine) : (a.add p q n).lines[j] = a.lines[j] :=
  Vector.getElem_set_ne p.incrementLine.isLt j.isLt fun e => other (Fin.ext e.symm)

/-- The increment of a record after an addition, its mark, and the others (R11, R14, R132). -/
theorem add_increment (sorted : (a.lines[p.incrementLine].entries.map fun e => e.position.code).Pairwise (· < ·))
    (inner : ∀ e ∈ a.lines[p.incrementLine].entries, (e.pairs.map fun y => y.quantity.code).Pairwise (· < ·)) :
    (a.add p q n).increment p q = min 4294967295 (a.increment p q + n) ∧
    (a.add p q n).mark p q = (a.mark p q || decide (4294967295 < a.increment p q + n)) ∧
    ∀ (r : Position) (u : Quantity), r ≠ p ∨ u ≠ q → (a.add p q n).increment r u = a.increment r u ∧ (a.add p q n).mark r u = a.mark r u := by
  have self := findPair_addEntry_self (p := p) (q := q) (n := n) _ sorted inner
  rw [← add_line] at self
  refine ⟨?_, ?_, fun r u other => ?_⟩
  · unfold Place.increment
    rw [self]
    cases findPair p q a.lines[p.incrementLine].entries with
    | none => simp
    | some y => rfl
  · unfold Place.increment Place.mark
    rw [self]
    cases findPair p q a.lines[p.incrementLine].entries with
    | none => simp
    | some y => rfl
  · have same (j : Fin 3) : findPair r u (a.add p q n).lines[j].entries = findPair r u a.lines[j].entries := by
      by_cases line : j = p.incrementLine
      · subst line
        rw [add_line, findPair_addEntry_other _ sorted other]
      · rw [add_line_ne a line]
    unfold Place.increment Place.mark
    rw [same]
    exact ⟨rfl, rfl⟩

end

end Sys2Proof.Machine
end

-- ==== One holder for every quantum (O25) ====
section
/-! The routing of one quantum (01 R10, R11, R13, R14; 06 R79). -/

namespace Sys2Proof.Machine

/-- An entry of a histogram takes an addition where it is there and of the quantity (R4, R13). -/
theorem hist_add (q : Quantity) (entry amount : Nat) (y : Hist) :
    (if y.quantity = q then y.add entry amount else y) = (match y.values[entry]? with
      | some (some v) => if y.quantity = q then { y with
          values := y.values.set entry (some (min 281474976710655 (v + amount))),
          saturated := y.saturated || decide (281474976710655 < v + amount) } else y
      | _ => y) := by
  unfold Hist.add
  cases y.values[entry]? with
  | none => exact ite_self _
  | some v =>
    cases v with
    | none => exact ite_self _
    | some v => rfl

/-- A value takes an addition up to the maximum; past it the mark is set (R13). -/
theorem scalar_add {x : Scalar} {v n : Nat} (value : x.value = some v) :
    (v + n ≤ 281474976710655 → x.add n = { x with value := some (v + n) }) ∧
    (281474976710655 < v + n → x.add n = { x with value := some 281474976710655, saturated := true }) := by
  have added : x.add n = { x with
      value := some (min 281474976710655 (v + n)), saturated := x.saturated || decide (281474976710655 < v + n) } := by
    rw [Scalar.add, value]
    rfl
  refine ⟨fun fits => ?_, fun past => ?_⟩
  · rw [added, Nat.min_eq_right fits, decide_eq_false (Nat.not_lt.2 fits), Bool.or_false]
  · rw [added, Nat.min_eq_left past.le, decide_eq_true past, Bool.or_true]

section
variable (s : State) (x : Quantum)

theorem route_of_amount (amount : x.amount ≠ 0) : s.route x = s.deliver x := if_neg amount

theorem holder_of_held {p : Position} {c : Context} (fitment : s.fitment = some c) (held : c.position = p) : s.holder p = .interim := by
  rw [State.holder, fitment]
  exact if_pos held

theorem holder_of_unheld {p : Position} (unheld : ∀ c, s.fitment = some c → c.position ≠ p) : s.holder p = s.unheldHolder p := by
  rw [State.holder]
  cases fitment : s.fitment with
  | none => rfl
  | some c => exact if_neg (unheld c fitment)

/-- The holder without an open fitment, by the map entry and its slot (R10). -/
theorem unheldHolder_spec (p : Position) :
    (∀ i, s.table.map[p.index] = some i → s.table.slots[i].ident.state = .fitted → s.unheldHolder p = .slot i) ∧
    (∀ i, s.table.map[p.index] = some i → s.table.slots[i].ident.state ≠ .fitted → s.unheldHolder p = .orphan) ∧
    (s.table.map[p.index] = none → s.unheldHolder p = .orphan) := by
  unfold State.unheldHolder
  refine ⟨fun i entry fitted => ?_, fun i entry other => ?_, fun none => ?_⟩
  · rw [entry]
    exact if_pos fitted
  · rw [entry]
    exact if_neg other
  · rw [none]

/-- The open record after a delivery of a scalar quantum. -/
theorem deliver_open (scalar : x.quantity.isHist = false) : (s.deliver x).book.places[s.book.openPlace] =
    s.book.places[s.book.openPlace].add x.position x.quantity x.amount := by
  have book := deliver_book s x
  rw [scalar] at book
  simp only [book]
  exact Vector.getElem_set_self ..

/-- What a delivery leaves beside the holder and the open record. -/
theorem deliver_rest : (∀ i : Fin 20, s.holder x.position ≠ .slot i → (s.deliver x).table.slots[i] = s.table.slots[i]) ∧
    (∀ p : Position, s.holder x.position ≠ .orphan ∨ p ≠ x.position →
      (s.deliver x).tally.orphans[p.index] = s.tally.orphans[p.index]) ∧
    (s.holder x.position ≠ .interim → (s.deliver x).fitment = s.fitment) := by
  refine ⟨fun i other => ?_, fun p other => ?_, fun other => ?_⟩
  · cases holder : s.holder x.position with
    | slot j =>
      have apart : j.val ≠ i.val := fun e => other (by rw [holder, Fin.ext e])
      rw [deliver_slot s x j holder]
      exact Vector.getElem_set_ne j.isLt i.isLt apart
    | interim => rw [deliver_table s x (by simp [holder])]
    | orphan => rw [deliver_table s x (by simp [holder])]
  · rw [deliver_tally]
    split
    · rename_i orphan
      have apart : x.position ≠ p := fun e => other.elim (fun k => k orphan) fun k => k e.symm
      exact Vector.getElem_set_ne x.position.index.isLt p.index.isLt (index_ne apart)
    · rfl
  · rw [deliver_fitment, if_neg other]

/-- SATURATED after a delivery, by the marks of the holder and of the open record. -/
theorem deliver_saturated_eq : (s.deliver x).notice .saturated =
    let first := if (s.tallyBefore x).mark x.quantity = false ∧ (s.tallyAfter x).mark x.quantity = true then
        s.noticeAfter .saturated (.saturated (s.holder x.position).named x.position x.quantity x.entryNamed) (s.notice .saturated)
      else s.notice .saturated
    if s.book.places[s.book.openPlace].mark x.position x.quantity = false ∧
        (s.deliver x).book.places[s.book.openPlace].mark x.position x.quantity = true then
      s.noticeAfter .saturated (.saturated (.period s.book.newest) x.position x.quantity none) first
    else first := by
  rw [deliver_saturated, notedPeriod_saturated, entered_book]

end

/-- Settles O25: by what a delivery does, step by step. -/
theorem quantumHasOneHolder : Obligations.QuantumHasOneHolder := by
  unfold Obligations.QuantumHasOneHolder
  refine ⟨fun s x amount => ?_, fun x v n value => scalar_add value⟩
  rw [route_of_amount s x amount]
  intro h t old new k a b
  obtain ⟨own, slots⟩ := deliver_tallyOf_own s x
  obtain ⟨otherSlots, otherOrphans, otherFitment⟩ := deliver_rest s x
  obtain ⟨-, -, -, -, -, -, otherPlaces, -, -, -⟩ := deliver_routed s x amount
  have mild := deliver_mild s x
  have added : new = old.add x.quantity x.entry x.amount := own
  refine ⟨fun c fitment held => holder_of_held s fitment held, fun unheld => ?_, own, ?_, ?_, otherSlots, otherOrphans, otherFitment,
    deliver_map s x, otherPlaces, fun hist => ?_, fun scalar => ?_, fun i holder => ?_, fun other => ?_, ?_, ?_, mild.link, mild.ctl,
    deliver_marks s x, deliver_frame s x⟩
  · have holder : h = s.unheldHolder x.position := holder_of_unheld s unheld
    rw [holder]
    exact unheldHolder_spec s x.position
  · rw [added]
    rfl
  · rw [added]
    exact List.map_congr_left fun y _ => hist_add ..
  · have book : t.book = _ := deliver_book s x
    rw [book, if_pos hist]
  · have open_ : b = a.add x.position x.quantity x.amount := deliver_open s x scalar
    rw [open_]
    exact ⟨rfl, rfl, fun j other => add_line_ne a other, add_line_seq a, add_increment a⟩
  · have bearing := slots i holder
    obtain ⟨service, life⟩ := deliver_noticed s x holder
    have before : old = s.table.slots[i].tally := congrArg (s.tallyOf x.position) holder
    refine ⟨?_, service, life⟩
    have after : new = s.table.slots[i].tally.add x.quantity x.entry x.amount := by rw [added, before]
    rw [before, after]
    exact congrArg Slot.ident bearing
  · have same : t = s.notedPeriod x := deliver_of_noSlot s x other
    have raised := notedPeriod_mild s x
    rw [same]
    exact ⟨raised.others _ (by decide), raised.others _ (by decide)⟩
  · have saturated := deliver_saturated_eq s x
    have after : s.tallyAfter x = new := added.symm
    rw [after] at saturated
    exact saturated
  · exact fun k saturated service life => mild.others k (by simp [saturated, service, life])

end Sys2Proof.Machine
end
